-- ==== Sys2Proof/Word.lean ====
section
/-! DEFINITION. The names the manual gives things (links, ports, pairs, voices, states, kinds, codes' names) as
plain enumerations, the byte, and the small fixed-size collections indexed by those names. -/

namespace Sys2Proof

/-- A byte of a link frame, of a port message or of the clip array. -/
abbrev Byte := BitVec 8

/-- The two control links. -/
inductive LinkId where
  | cl0 | cl1
  deriving DecidableEq, Repr

/-- The six universal ports P1 to P6. -/
inductive Port where
  | p1 | p2 | p3 | p4 | p5 | p6
  deriving DecidableEq, Repr

/-- The three pair slots, pair ids 0 to 2 (R101). -/
inductive PairId where
  | q0 | q1 | q2
  deriving DecidableEq, Repr

/-- The four voices 0 to 3 (R160). -/
inductive VoiceId where
  | v0 | v1 | v2 | v3
  deriving DecidableEq, Repr

def LinkId.num : LinkId → Nat
  | .cl0 => 0 | .cl1 => 1

def LinkId.other : LinkId → LinkId
  | .cl0 => .cl1 | .cl1 => .cl0

def LinkId.all : List LinkId := [.cl0, .cl1]

def Port.num : Port → Nat
  | .p1 => 1 | .p2 => 2 | .p3 => 3 | .p4 => 4 | .p5 => 5 | .p6 => 6

/-- The ports in ascending port number. -/
def Port.all : List Port := [.p1, .p2, .p3, .p4, .p5, .p6]

def PairId.num : PairId → Nat
  | .q0 => 0 | .q1 => 1 | .q2 => 2

/-- The pair ids in ascending order. -/
def PairId.all : List PairId := [.q0, .q1, .q2]

def VoiceId.num : VoiceId → Nat
  | .v0 => 0 | .v1 => 1 | .v2 => 2 | .v3 => 3

/-- The voices in ascending voice number. -/
def VoiceId.all : List VoiceId := [.v0, .v1, .v2, .v3]

/-- One thing for each link. -/
structure Two (α : Type) where
  cl0 : α
  cl1 : α
  deriving DecidableEq, Repr

/-- One thing for each pair slot. -/
structure Three (α : Type) where
  q0 : α
  q1 : α
  q2 : α
  deriving DecidableEq, Repr

/-- One thing for each voice. -/
structure Four (α : Type) where
  v0 : α
  v1 : α
  v2 : α
  v3 : α
  deriving DecidableEq, Repr

/-- One thing for each port. -/
structure Six (α : Type) where
  p1 : α
  p2 : α
  p3 : α
  p4 : α
  p5 : α
  p6 : α
  deriving DecidableEq, Repr

variable {α : Type}

def Two.get (t : Two α) : LinkId → α
  | .cl0 => t.cl0 | .cl1 => t.cl1

def Two.set (t : Two α) (l : LinkId) (a : α) : Two α :=
  match l with
  | .cl0 => { t with cl0 := a }
  | .cl1 => { t with cl1 := a }

def Two.both (a : α) : Two α := ⟨a, a⟩

def Three.get (t : Three α) : PairId → α
  | .q0 => t.q0 | .q1 => t.q1 | .q2 => t.q2

def Three.set (t : Three α) (q : PairId) (a : α) : Three α :=
  match q with
  | .q0 => { t with q0 := a }
  | .q1 => { t with q1 := a }
  | .q2 => { t with q2 := a }

def Three.each (a : α) : Three α := ⟨a, a, a⟩

def Four.get (t : Four α) : VoiceId → α
  | .v0 => t.v0 | .v1 => t.v1 | .v2 => t.v2 | .v3 => t.v3

def Four.set (t : Four α) (v : VoiceId) (a : α) : Four α :=
  match v with
  | .v0 => { t with v0 := a }
  | .v1 => { t with v1 := a }
  | .v2 => { t with v2 := a }
  | .v3 => { t with v3 := a }

def Four.each (a : α) : Four α := ⟨a, a, a, a⟩

def Six.get (t : Six α) : Port → α
  | .p1 => t.p1 | .p2 => t.p2 | .p3 => t.p3 | .p4 => t.p4 | .p5 => t.p5 | .p6 => t.p6

def Six.set (t : Six α) (p : Port) (a : α) : Six α :=
  match p with
  | .p1 => { t with p1 := a }
  | .p2 => { t with p2 := a }
  | .p3 => { t with p3 := a }
  | .p4 => { t with p4 := a }
  | .p5 => { t with p5 := a }
  | .p6 => { t with p6 := a }

def Six.each (a : α) : Six α := ⟨a, a, a, a, a, a⟩

/-! ## States and kinds -/

/-- Port states (R1). -/
inductive PortState where
  | empty | probing | passive | describing | active | fault | faultLatched
  deriving DecidableEq, Repr

/-- Attached device kinds (R1). -/
inductive DeviceKind where
  | none | serial | plainMotor | light | touch | unknown
  deriving DecidableEq, Repr

/-- Why a port is in FAULT (R12, R14). -/
inductive FaultCause where
  | none | overcurrent | handshake
  deriving DecidableEq, Repr

/-- The events a PORT_EVENT notice reports (section 12.3). -/
inductive PortEventKind where
  | attached | detached | fault | redescribed | modeChanged
  deriving DecidableEq, Repr

/-- Port message classes (R18, section 12.5). -/
inductive MsgClass where
  | desc | data | note | ack | keep | mode | write | rate
  deriving DecidableEq, Repr

/-- Outcomes of a received port message (R19). -/
inductive MsgOutcome where
  | ok | checkError | framingError | truncated | lengthMismatch | unexpected | modeMismatch
  deriving DecidableEq, Repr

/-- The message classes a tap copies (R42). -/
inductive TapSel where
  | good | bad | both
  deriving DecidableEq, Repr

/-- How PORT_INFO reports the sample record (R16). -/
inductive SampleShown where
  | present | stale | absent
  deriving DecidableEq, Repr

/-- Motor states (R57, R58). -/
inductive MotorState where
  | coasting | braking | running | holding
  deriving DecidableEq, Repr

/-- End actions (R59, R72). -/
inductive EndAction where
  | coast | brake | hold
  deriving DecidableEq, Repr

/-- The lapse action of a link (R183). -/
inductive LapseAction where
  | coast | brake
  deriving DecidableEq, Repr

/-- Stall policies (R68). -/
inductive StallPolicy where
  | keepOn | finish | abort
  deriving DecidableEq, Repr

/-- Relations of a stop condition (R62). -/
inductive Relation where
  | below | above | inside | outside
  deriving DecidableEq, Repr

/-- Segment kinds as codes name them (R59, section 12.4). -/
inductive SegKind where
  | run | runTime | runBy | runTo | duty | dutyTime
  deriving DecidableEq, Repr

/-- Segment outcomes (section 4.5, section 12.4). -/
inductive SegOutcome where
  | done | condition | stalled | replaced | stopped | flushed | takenOver | released
  | lapsed | detached | halted | brownout | sourceLost | unpaired
  deriving DecidableEq, Repr

/-- Phases of a positioning segment (R93). -/
inductive Phase where
  | cruise | decel | settle
  deriving DecidableEq, Repr

/-- The lead of a pair segment (R105). -/
inductive Lead where
  | a | b
  deriving DecidableEq, Repr

def Lead.other : Lead → Lead
  | .a => .b | .b => .a

/-- Supply states (R113). -/
inductive SupplyState where
  | normal | low | brownout
  deriving DecidableEq, Repr

/-- Stream source kinds (R126). -/
inductive SourceKind where
  | sensor | motorPosition | motorSpeed | supply
  deriving DecidableEq, Repr

/-- Clip formats (R145). -/
inductive ClipFormat where
  | pcm8 | pcm16
  deriving DecidableEq, Repr

/-- States of a directory entry (R146). -/
inductive ClipState where
  | ready | writing | abandoned
  deriving DecidableEq, Repr

/-- What the clip array is doing (R141). -/
inductive Activity where
  | idle | reading | programming | erasing | eraseSuspended
  deriving DecidableEq, Repr

/-- Voice states (R160). -/
inductive VoiceState where
  | free | starting | playing
  deriving DecidableEq, Repr

/-- Owner of a voice (R160). -/
inductive Owner where
  | link (l : LinkId)
  | supply
  deriving DecidableEq, Repr

/-- Outcomes of a voice (R168). -/
inductive VoiceOutcome where
  | done | stopped | stolen | brownout
  deriving DecidableEq, Repr

/-- Fill state of a half buffer (R160). -/
inductive Fill where
  | empty | fetching | filled
  deriving DecidableEq, Repr

/-- The two half buffers of a voice. -/
inductive Half where
  | h0 | h1
  deriving DecidableEq, Repr

def Half.other : Half → Half
  | .h0 => .h1 | .h1 => .h0

/-- Link states (R179). -/
inductive LinkState where
  | idle | active | lapsed
  deriving DecidableEq, Repr

/-- Why PEER_LAPSED is sent (R180, R181). -/
inductive LapseCause where
  | lapse | leave
  deriving DecidableEq, Repr

/-- Lock actions of SET_PROTECT (R144). -/
inductive LockAction where
  | keep | set | clear
  deriving DecidableEq, Repr

/-- Reply statuses (section 12.4). -/
inductive Status where
  | ok | adjusted | malformed | unknown | badParam | noDevice | wrongDevice | locked
  | notHolder | paired | queueFull | halted | brownout | moving | tableFull | notReady
  | storeBusy | noSpace | clipState | clipInUse | protected_ | noVoice | modeFailed
  | notArmed | noResponse
  deriving DecidableEq, Repr

end Sys2Proof
end

