-- ==== Sys2Proof/Syntax.lean ====
section
/-! DEFINITION. The commands the block takes: one constructor for each row of spec/opcode_table.json. Request commands
are the handler of a link taking one request (R175): they name the link and the request's tag and parameter bytes
(section 12.2). Event commands name the port or link concerned and carry the input levels the event samples. -/

namespace Sys2Proof

/-- The ID level read on IDp, 0 to 7 (R2). -/
abbrev Level := BitVec 3

/-- One step of the part, as spec/opcode_table.json lists them. -/
inductive Instr where
  -- resets and start-up; a reset samples STOP, VBAT (mV) and ISENSE (mA) at its end (R57, R113)
  | powerOnReset (stop : Bool) (vbat : Nat) (isense : Int)
  | portPowerRestore (p : Port)
  | scanComplete
  -- transfers and link time
  | selFall (l : LinkId)
  | selRise (l : LinkId) (clocked : List Byte) (midByte : Bool)
  | ageTick (l : LinkId)
  -- requests of the links themselves
  | unknownRequest (l : LinkId) (tag code : Byte) (params : List Byte)
  | identify (l : LinkId) (tag : Byte) (params : List Byte)
  | setLink (l : LinkId) (tag : Byte) (params : List Byte)
  | clearFlags (l : LinkId) (tag : Byte) (params : List Byte)
  | leave (l : LinkId) (tag : Byte) (params : List Byte)
  | resetArm (l : LinkId) (tag : Byte) (params : List Byte)
  | reset (l : LinkId) (tag : Byte) (params : List Byte) (stop : Bool) (vbat : Nat) (isense : Int)
  -- port requests
  | portInfo (l : LinkId) (tag : Byte) (params : List Byte)
  | readValue (l : LinkId) (tag : Byte) (params : List Byte)
  | setMode (l : LinkId) (tag : Byte) (params : List Byte)
  | portWrite (l : LinkId) (tag : Byte) (params : List Byte)
  | setTap (l : LinkId) (tag : Byte) (params : List Byte)
  | readLog (l : LinkId) (tag : Byte) (params : List Byte)
  | portReset (l : LinkId) (tag : Byte) (params : List Byte)
  -- claims
  | lock (l : LinkId) (tag : Byte) (params : List Byte)
  | unlock (l : LinkId) (tag : Byte) (params : List Byte)
  | release (l : LinkId) (tag : Byte) (params : List Byte)
  -- motion
  | move (l : LinkId) (tag : Byte) (params : List Byte)
  | stop (l : LinkId) (tag : Byte) (params : List Byte)
  | setRegulator (l : LinkId) (tag : Byte) (params : List Byte)
  | setPosition (l : LinkId) (tag : Byte) (params : List Byte)
  | resume (l : LinkId) (tag : Byte) (params : List Byte)
  | pair (l : LinkId) (tag : Byte) (params : List Byte)
  | unpair (l : LinkId) (tag : Byte) (params : List Byte)
  | movePair (l : LinkId) (tag : Byte) (params : List Byte)
  | motionStatus (l : LinkId) (tag : Byte) (params : List Byte)
  -- supply
  | supplyStatus (l : LinkId) (tag : Byte) (params : List Byte)
  | setSupply (l : LinkId) (tag : Byte) (params : List Byte)
  -- subscriptions
  | subscribe (l : LinkId) (tag : Byte) (params : List Byte)
  | unsubscribe (l : LinkId) (tag : Byte) (params : List Byte)
  | listStreams (l : LinkId) (tag : Byte) (params : List Byte)
  -- clip store; CLIP_INFO and SET_PROTECT read the level of GUARD (R142, R144)
  | clipBegin (l : LinkId) (tag : Byte) (params : List Byte)
  | clipData (l : LinkId) (tag : Byte) (params : List Byte)
  | clipEnd (l : LinkId) (tag : Byte) (params : List Byte)
  | clipDelete (l : LinkId) (tag : Byte) (params : List Byte)
  | clipInfo (l : LinkId) (tag : Byte) (params : List Byte) (guardHigh : Bool)
  | clipRead (l : LinkId) (tag : Byte) (params : List Byte)
  | setProtect (l : LinkId) (tag : Byte) (params : List Byte) (guardHigh : Bool)
  -- sound
  | play (l : LinkId) (tag : Byte) (params : List Byte)
  | stopVoice (l : LinkId) (tag : Byte) (params : List Byte)
  | setVolume (l : LinkId) (tag : Byte) (params : List Byte)
  | voiceStatus (l : LinkId) (tag : Byte) (params : List Byte)
  -- port events
  | probeEvent (p : Port) (level : Level) (rxLow : Bool)
  | overcurrentTrip (p : Port)
  | retryTimerExpiry (p : Port)
  | messageOutcome (p : Port) (received : List Byte) (framing : Bool)
  | gapTimeout (p : Port) (received : List Byte)
  | ackSent (p : Port)
  | attemptTimerExpiry (p : Port)
  | keepAliveExpiry (p : Port)
  | silenceLoss (p : Port)
  | modeTimerExpiry (p : Port)
  | writeTimerExpiry (p : Port)
  -- motion and supply events; an encoder transition carries the new levels of ENCAp and ENCBp
  | encoderTransition (p : Port) (a b : Bool)
  | regulationEvent (p : Port)
  | stopLineAssert
  | stopLineRelease
  | supplySample (vbat : Nat) (isense : Int)
  | warningTimerExpiry
  -- store events
  | jobStart
  | cleanupStart
  | programComplete
  | eraseComplete
  | eraseSuspend
  | suspendComplete
  | arrayReadComplete
  -- mixer
  | outputSample
  -- receiver events and the codeless request
  | firstDescLeadByte (p : Port)
  | idleGapAfterFramingError (p : Port)
  | requestWithoutCode (l : LinkId) (tag : Byte)
  deriving DecidableEq, Repr

end Sys2Proof
end

