-- ==== Sys2Proof/Decode.lean ====
section
/-! DEFINITION. The words that spell a command. The table of operations and events gives no row any bits: the commands
are requests in link frames and events of the block, and none is a word (log entry 14). -/

namespace Sys2Proof

/-- The command that the `nbits` bits of `w` spell: none, for no row of the table carries bits. -/
def decodeTableWord (_nbits _w : Nat) : Option Instr := none

end Sys2Proof
end

