-- ==== Sys2Proof/Config.lean ====
section
/-! DEFINITION. What the manual leaves open: free values. Each is a constant with no body, so that nothing can be
proved of the value it takes; a claim that holds, holds whatever it is. -/

namespace Sys2Proof

/-- The code of a port state in PORT_INFO: section 12.4 lists none (log entry 9). DESIGN CHOICE, safe. -/
opaque Config.portStateCode : PortState → Byte

/-- The code of PORT_INFO's sample record field: section 12.4 lists none (log entry 9). DESIGN CHOICE, safe. -/
opaque Config.sampleShownCode : SampleShown → Byte

/-- The code of the halt mode in MOTION_STATUS, true for HALTED (log entry 9). DESIGN CHOICE, safe. -/
opaque Config.haltModeCode : Bool → Byte

/-- The code of a motor state in MOTION_STATUS (log entry 9). DESIGN CHOICE, safe. -/
opaque Config.motorStateCode : MotorState → Byte

/-- The code of a stream entry's state in LIST_STREAMS, true for SUSPENDED (log entry 9). DESIGN CHOICE, safe. -/
opaque Config.streamStateCode : Bool → Byte

/-- The code of a member set in LIST_STREAMS (log entry 9). DESIGN CHOICE, safe. -/
opaque Config.memberSetCode : Two Bool → Byte

/-- The code of a directory entry's state in CLIP_INFO (log entry 9). DESIGN CHOICE, safe. -/
opaque Config.clipStateCode : ClipState → Byte

/-- The two state bits of a voice in VOICE_STATUS (log entry 9). DESIGN CHOICE, safe. -/
opaque Config.voiceStateCode : VoiceState → BitVec 2

/-- The free 32-bit value number n: what a field holds whose value the manual leaves open (log entry 10).
DESIGN CHOICE, safe. -/
opaque Config.freeWord : Nat → BitVec 32

/-- The byte that the array holds at an address while and after an operation number n that was begun there and has
not completed (log entry 11). DESIGN CHOICE, safe. -/
opaque Config.freeArrayByte : Nat → Nat → Byte

end Sys2Proof
end

