-- ==== Sys2Proof/Machine/State.lean ====
section
/-! DEFINITION. The whole state of the hub, block by block as the manual's chapters give it, as plain data, with its
value right after a reset, and the reasons a step can stop. -/

namespace Sys2Proof.Machine

/-! ## Replies and notices -/

/-- Where the reply to a taken request goes: the link that took it, that link's stay in ACTIVE (its activation),
and the tag and code the reply carries (R175). -/
structure ReplyTo where
  link : LinkId
  activation : Nat
  tag : Byte
  code : Byte
  deriving DecidableEq, Repr

/-- A request as its frame carries it: tag, code (absent when L = 1) and parameter bytes (R173, R175). -/
structure Request where
  tag : Byte
  code : Option Byte
  params : List Byte
  deriving DecidableEq, Repr

/-- A reply waiting in a reply queue (R186). -/
structure Reply where
  tag : Byte
  code : Byte
  status : Status
  payload : List Byte
  deriving DecidableEq, Repr

/-- A DATA notice: entry id, stamp, merged count and values (R132, R133). -/
structure DataNotice where
  entry : Nat
  stamp : BitVec 16
  merged : Nat
  values : List Int
  deriving DecidableEq, Repr

/-- What a PORT_EVENT notice carries (section 12.3). -/
structure PortEvent where
  event : PortEventKind
  port : Port
  kind : DeviceKind
  typeId : Option (BitVec 16)
  mode : Option Nat
  cause : FaultCause
  latched : Bool
  trips : Nat
  deriving DecidableEq, Repr

/-- What a SEGMENT_END notice carries (R73). -/
structure SegmentEnd where
  port : Port
  pair : Option PairId
  tag : Byte
  kind : SegKind
  outcome : SegOutcome
  position : Option (BitVec 32)
  elapsed : Nat
  deriving DecidableEq, Repr

/-- What a CLAIM_LOST notice carries (R48). -/
structure ClaimLost where
  port : Port
  pair : Option PairId
  newHolder : LinkId
  code : Byte
  ended : Nat
  deriving DecidableEq, Repr

/-- What a voice plays, as notices and replies name it (R160). -/
inductive SoundName where
  | clip (id : Nat)
  | tone (freq : Nat)
  deriving DecidableEq, Repr

/-- What a VOICE_END notice carries (R168). -/
structure VoiceEnd where
  voice : VoiceId
  tag : Option Byte
  sound : SoundName
  outcome : VoiceOutcome
  underrun : Nat
  deriving DecidableEq, Repr

/-- A message of a notice queue (section 12.3). -/
inductive Notice where
  | data (d : DataNotice)
  | raw (p : Port) (outcome : MsgOutcome) (bytes : List Byte)
  | portEvent (e : PortEvent)
  | segmentEnd (e : SegmentEnd)
  | claimLost (e : ClaimLost)
  | streamEnd (entry : Nat)
  | voiceEnd (e : VoiceEnd)
  | supplyState (new old : SupplyState) (vf s : Int)
  | haltState (halted stopLine : Bool)
  | peerLapsed (l : LinkId) (cause : LapseCause)
  deriving DecidableEq, Repr

/-! ## Port units (chapters 1 and 2) -/

/-- The HEAD values of a descriptor, but for the type id (R23). -/
structure Head where
  modeCount : Nat
  maxRate : Nat
  hasEncoder : Bool
  countsPerRev : Option Nat
  maxSpeed : Option Nat
  deriving DecidableEq, Repr

/-- A MODE description (R23). -/
structure ModeDesc where
  valueCount : Nat
  format : Nat
  rawLow : Int
  rawHigh : Int
  outLow : Int
  outHigh : Int
  minInterval : Nat
  unit : Byte
  deriving DecidableEq, Repr

/-- A descriptor: HEAD (absent for the touch switch's built-in one, R7) and the modes in mode order. -/
structure Descriptor where
  head : Option Head
  modes : List ModeDesc
  deriving DecidableEq, Repr

/-- The sample record (R31). The value count is the length of the lists. -/
structure SampleRec where
  valuesMode : Nat
  raw : List Int
  scaled : List Int
  seq : Option (BitVec 16)
  arrival : BitVec 32
  stale : Bool
  deriving DecidableEq, Repr

/-- The handshake context (R21). The next descriptor expected is HEAD while no HEAD is staged, then MODE n with n the
number of modes staged, then END. `ended` holds the agreed rate code from the acceptance of END until the hub's ACK is
sent (R25). -/
structure Handshake where
  attempt : Nat
  timer : Option Nat
  leadSeen : Bool
  stagedHead : Option (BitVec 16 × Head)
  stagedModes : List ModeDesc
  ended : Option Nat
  deriving DecidableEq, Repr

/-- A SET_MODE request on the waiting list (R35). -/
structure ModeWait where
  dest : ReplyTo
  mode : Nat
  deriving DecidableEq, Repr

/-- A PORT_WRITE in the write queue (R39). -/
structure WriteReq where
  dest : ReplyTo
  data : List Byte
  deriving DecidableEq, Repr

/-- A record of the message log (R41). -/
structure LogRec where
  outcome : MsgOutcome
  cls : Option MsgClass
  len : Option Nat
  time : BitVec 16
  deriving DecidableEq, Repr

/-- A message the hub hands to a port's transmitter (R18). -/
inductive HubMsg where
  | rate (code : Nat)
  | ack (code : Nat)
  | keep
  | mode (m : Nat)
  | write (data : List Byte)
  deriving DecidableEq, Repr

/-- One port unit: the port record of R1 and the serial protocol's state beside it (R17, R19, R21, R27 to R29, R35,
R39). `sent` is the model's own record of what the transmitter was given, oldest first (log entry 13). -/
structure PortUnit where
  state : PortState
  power : Bool
  powerTimer : Option Nat
  level : Option Level
  lastReading : Option Level
  run : Nat
  kind : DeviceKind
  typeId : Option (BitVec 16)
  desc : Option Descriptor
  mode : Option Nat
  sample : Option SampleRec
  rateCap : Nat
  agreed : Option Nat
  faults : List Nat
  retry : Option Nat
  log : List LogRec
  tapTarget : Option LinkId
  tapSel : Option TapSel
  rate : Nat
  discarding : Bool
  hs : Option Handshake
  silence : Option Nat
  errorRun : Nat
  keepAlive : Option Nat
  pendingMode : Option Nat
  restore : Bool
  modeTimer : Option Nat
  waiting : List ModeWait
  writes : List WriteReq
  writeTimer : Option Nat
  sent : List HubMsg
  deriving DecidableEq, Repr

/-- The port record after either reset (R1, R21, R35, R40). -/
def PortUnit.afterReset : PortUnit where
  state := .probing
  power := false
  powerTimer := some 100
  level := none
  lastReading := none
  run := 0
  kind := .none
  typeId := none
  desc := none
  mode := none
  sample := none
  rateCap := 5
  agreed := none
  faults := []
  retry := none
  log := []
  tapTarget := none
  tapSel := none
  rate := 0
  discarding := false
  hs := none
  silence := none
  errorRun := 0
  keepAlive := none
  pendingMode := none
  restore := false
  modeTimer := none
  waiting := []
  writes := []
  writeTimer := none
  sent := []

/-! ## Claims (chapter 3) -/

/-- A claim record (R43). -/
structure Claim where
  holder : Option LinkId
  locked : Bool
  deriving DecidableEq, Repr

/-! ## Motion units and regulators (chapters 4 and 5) -/

/-- What a segment does and its limit (R59). -/
inductive SegWork where
  | run
  | runTime (ms : Nat)
  | runBy (distance : BitVec 32)
  | runTo (position : BitVec 32)
  | duty
  | dutyTime (ms : Nat)
  deriving DecidableEq, Repr

/-- A stop condition (R59, R62). -/
structure StopCond where
  source : Port
  mode : Nat
  index : Nat
  relation : Relation
  t1 : Int
  t2 : Int
  deriving DecidableEq, Repr

/-- The segment record (R59). -/
structure Segment where
  issuer : LinkId
  tag : Byte
  work : SegWork
  speed : Int
  endAction : EndAction
  stall : StallPolicy
  accel : Option Nat
  decel : Option Nat
  cond : Option StopCond
  notify : Bool
  deriving DecidableEq, Repr

/-- The activation record of the active segment (R65, R80). The target is present for RUN_BY and RUN_TO. -/
structure Activation where
  start : Nat
  baseline : Option (BitVec 16)
  target : Option (BitVec 32)
  stall : Nat
  phase : Phase
  settle : Nat
  decelDir : Int
  deriving DecidableEq, Repr

/-- The positions of the four preceding regulation events, oldest first (R80). -/
structure History where
  oldest : BitVec 32
  second : BitVec 32
  third : BitVec 32
  newest : BitVec 32
  deriving DecidableEq, Repr

/-- The regulator state (R80). -/
structure Regulator where
  acc : Int
  integral : Int
  duty : Int
  clamped : Bool
  history : History
  refill : Nat
  speed : Int
  holdCreep : Option Int
  deriving DecidableEq, Repr

/-- The regulator settings (R98). -/
structure RegSettings where
  kp : Int
  ki : Int
  kf : Int
  kh : Int
  accel : Int
  decel : Int
  dutyLimit : Int
  stallTime : Int
  stallSpeed : Int
  deriving DecidableEq, Repr

/-- A motion unit (R57), with its regulator and the levels its quadrature decoder last took (R81). -/
structure MotionUnit where
  halted : Bool
  motor : MotorState
  queue : List Segment
  hold : Option (BitVec 32)
  position : BitVec 32
  encA : Bool
  encB : Bool
  reg : Regulator
  settings : RegSettings
  act : Option Activation
  deriving DecidableEq, Repr

/-- The regulator state a reset or an attach sets, with the history filled from a position (R80, R83). -/
def Regulator.fresh (position : BitVec 32) : Regulator where
  acc := 0
  integral := 0
  duty := 0
  clamped := false
  history := ⟨position, position, position, position⟩
  refill := 4
  speed := 0
  holdCreep := none

/-- The regulator settings' reset values (R98). -/
def RegSettings.fresh : RegSettings where
  kp := 200
  ki := 40
  kf := 0
  kh := 64
  accel := 2000
  decel := 2000
  dutyLimit := 1000
  stallTime := 400
  stallSpeed := 0

/-- A motion unit after a reset, given the STOP line's level at its end and the encoder lines' levels (R57). -/
def MotionUnit.afterReset (stop encA encB : Bool) : MotionUnit where
  halted := stop
  motor := .coasting
  queue := []
  hold := none
  position := 0
  encA := encA
  encB := encB
  reg := .fresh 0
  settings := .fresh
  act := none

/-! ## Pairs (chapter 6) -/

/-- A pair segment: a segment record with the steering; its lead and weights follow from the steering (R104, R105). -/
structure PairSegment where
  seg : Segment
  steer : Int
  deriving DecidableEq, Repr

/-- The pair activation record (R106), with the stall timer of each motor. -/
structure PairActivation where
  start : Nat
  baseline : Option (BitVec 16)
  startA : BitVec 32
  startB : BitVec 32
  target : Option (BitVec 32)
  phase : Phase
  decelDir : Int
  stallA : Nat
  stallB : Nat
  deriving DecidableEq, Repr

/-- A pair record (R101). -/
structure PairRec where
  portA : Port
  portB : Port
  ks : Nat
  queue : List PairSegment
  act : Option PairActivation
  corrA : Int
  corrB : Int
  deriving DecidableEq, Repr

/-! ## Supply monitor (chapter 7) -/

/-- The supply monitor's state (R113): voltages in mV, currents in mA, ceilings in per mille. -/
structure Supply where
  v : Int
  i : Int
  vf : Int
  iflt : Int
  cv : Int
  ci : Int
  s : Int
  volCeil : Int
  state : SupplyState
  lowRun : Nat
  warning : Option Nat
  vnom : Int
  vsoft : Int
  vhard : Int
  ilim : Int
  warnClip : Option Nat
  deriving DecidableEq, Repr

/-! ## Subscription table (chapter 8) -/

/-- The key of a stream entry (R126); the port is none for SUPPLY. -/
structure StreamKey where
  kind : SourceKind
  port : Option Port
  mode : Nat
  interval : Nat
  delta : Nat
  deriving DecidableEq, Repr

/-- A stream entry in use (R126). -/
structure StreamEntry where
  id : Nat
  key : StreamKey
  members : Two Bool
  suspended : Bool
  lastEmit : Option (BitVec 32)
  lastSent : List Int
  deriving DecidableEq, Repr

/-! ## Clip store (chapter 9) -/

/-- A run of array bytes with no determined contents: an operation number n was begun there and has not completed
(R141, R158). -/
structure Undetermined where
  addr : Nat
  length : Nat
  number : Nat
  deriving DecidableEq, Repr

/-- The header values of a clip (R145); loop start and loop end are all ones when there is no loop region. -/
structure ClipInfo where
  format : ClipFormat
  rate : Nat
  length : Nat
  loopStart : Nat
  loopEnd : Nat
  gain : Nat
  deriving DecidableEq, Repr

/-- A directory entry (R146). -/
structure DirEntry where
  id : Nat
  state : ClipState
  first : Nat
  count : Nat
  clip : ClipInfo
  marked : Bool
  deriving DecidableEq, Repr

/-- One operation on the array or the info row (R141, R148). A program carries the bytes it may change: bytes given as
0xFF at the ends of a page are left out. -/
inductive ArrayOp where
  | eraseSector (sector : Nat)
  | program (addr : Nat) (data : List Byte)
  | eraseInfo
  | programInfo (b : Nat) (lock : Bool)
  deriving DecidableEq, Repr

/-- The work of a job (R148). -/
inductive JobKind where
  | prepare (first count : Nat) (header : List Byte)
  | page (addr : Nat) (data : List Byte) (pointer : Nat)
  | seal (first : Nat) (lastPage : Option (Nat × List Byte))
  | remove (first : Nat)
  | info (b : Nat) (lock : Bool)
  deriving DecidableEq, Repr

/-- A job of the queue: its kind, the clip it belongs to, whether that clip was abandoned, and the request to answer
(R148, R155). -/
structure Job where
  kind : JobKind
  clip : Option Nat
  abandoned : Bool
  dest : ReplyTo
  deriving DecidableEq, Repr

/-- The write context (R150). -/
structure WriteCtx where
  owner : LinkId
  id : Nat
  pointer : Nat
  page : List Byte
  ending : Bool
  deriving DecidableEq, Repr

/-- A fetch of one half buffer (R157, R164). -/
structure Fetch where
  half : Half
  block : Nat
  addr : Nat
  deriving DecidableEq, Repr

/-- A CLIP_READ waiting for the array (R156, R157). -/
structure ClipRead where
  dest : ReplyTo
  addr : Nat
  count : Nat
  deriving DecidableEq, Repr

/-- The read the array is serving; a fetch withdrawn while it is served is dead. -/
inductive Reading where
  | fetch (v : VoiceId) (f : Fetch)
  | clipRead (r : ClipRead)
  | dead
  deriving DecidableEq, Repr

/-- The clip store. The array lists the bytes that differ from 0xFF (R141). `opInHand` is the erase or program begun and
not completed, kept through a suspension; `work` the operations of the job in progress still to begin; `eraseRun` the
whole milliseconds of erasing since it began or last resumed; `pointer` the write pointer CLIP_INFO reports. -/
structure Store where
  array : List Host.Cell
  undet : List Undetermined
  infoRow : Option (Nat × Bool)
  heldB : Nat
  heldLock : Bool
  scanning : Bool
  activity : Activity
  suspending : Bool
  eraseRun : Nat
  opInHand : Option ArrayOp
  work : List ArrayOp
  jobRunning : Bool
  cleanup : Bool
  reading : Option Reading
  fetches : Four (Option Fetch)
  reads : List ClipRead
  directory : List DirEntry
  jobs : List Job
  ctx : Option WriteCtx
  pointer : Nat
  deriving DecidableEq, Repr

/-! ## Sound engine (chapter 10) -/

/-- A half buffer: the block it holds or awaits, its fill state and its bytes (R160, R164). -/
structure HalfBuf where
  block : Nat
  fill : Fill
  data : List Byte
  deriving DecidableEq, Repr

/-- The source of a voice (R160, R163). -/
inductive Source where
  | clip (id first : Nat) (format : ClipFormat) (samples : Nat) (region : Option (Nat × Nat))
  | tone (freq : Nat)
  deriving DecidableEq, Repr

/-- A voice record (R160). The position is in 1/65536 of a sample. -/
structure Voice where
  state : VoiceState
  owner : Option Owner
  tag : Option Byte
  report : Bool
  priority : Nat
  order : BitVec 32
  gain : Nat
  source : Option Source
  step : Nat
  position : Nat
  loops : Nat
  notify : Bool
  underrun : Nat
  phase : Nat
  left : Nat
  half0 : HalfBuf
  half1 : HalfBuf
  playing : Half
  deriving DecidableEq, Repr

def HalfBuf.none : HalfBuf := ⟨0, .empty, []⟩

/-- A FREE voice, its fields absent or 0 and both halves empty (R160). -/
def Voice.unused : Voice where
  state := .free
  owner := none
  tag := none
  report := false
  priority := 0
  order := 0
  gain := 0
  source := none
  step := 0
  position := 0
  loops := 0
  notify := false
  underrun := 0
  phase := 0
  left := 0
  half0 := .none
  half1 := .none
  playing := .h0

/-- The sound engine (R160), with the speaker compare value last written (R169). -/
structure Sound where
  voices : Four Voice
  master : Nat
  startCount : BitVec 32
  speaker : Nat
  deriving DecidableEq, Repr

/-! ## Control links (chapter 11) -/

/-- Where the message of a transfer was picked from (R176); a DATA notice names its entry. -/
inductive Picked where
  | reply
  | event
  | data (entry : Nat)
  | filler
  deriving DecidableEq, Repr

/-- A transfer in progress: what was picked at the SELn fall, its bytes with the flags byte formed then, whether the
picked message is still in its queue, whether a DATA notice was replaced meanwhile (R134, R176), and whether a reset
struck during it (R182). -/
structure Transfer where
  picked : Picked
  bytes : List Byte
  held : Bool
  replaced : Bool
  aborted : Bool
  deriving DecidableEq, Repr

/-- The four sticky flags (R178). -/
structure Sticky where
  restarted : Bool
  lapseSeen : Bool
  requestLost : Bool
  noticeLost : Bool
  deriving DecidableEq, Repr

/-- The settings of a link (R183). -/
structure LinkSettings where
  threshold : Nat
  interval : Nat
  robustness : Nat
  lapseAction : LapseAction
  deriving DecidableEq, Repr

/-- A control link (R173 to R184). `taken` holds the requests taken and not yet answered; `activation` numbers the
link's stays in ACTIVE (R175). -/
structure Link where
  state : LinkState
  inbound : List Request
  taken : List ReplyTo
  replies : List Reply
  notices : List Notice
  quiet : Nat
  frameMark : Bool
  ageTimer : Option Nat
  sticky : Sticky
  settings : LinkSettings
  armed : Bool
  activation : Nat
  transfer : Option Transfer
  deriving DecidableEq, Repr

/-- A link after either reset (R184). -/
def Link.afterReset : Link where
  state := .idle
  inbound := []
  taken := []
  replies := []
  notices := []
  quiet := 0
  frameMark := false
  ageTimer := none
  sticky := ⟨true, false, false, false⟩
  settings := ⟨1, 500, 4, .brake⟩
  armed := false
  activation := 0
  transfer := none

/-! ## The whole machine -/

/-- The state of the hub. `now` counts the milliseconds since the last reset; device time is `now` modulo 2³² (R31).
`stopLine` is the level of the STOP pin, true when asserted. `freeCount` is the model's own counter of free values;
`pending` the queue of the commands that wait. -/
structure State where
  now : Nat
  ports : Six PortUnit
  claims : Six Claim
  motion : Six MotionUnit
  pairs : Three (Option PairRec)
  supply : Supply
  streams : List StreamEntry
  store : Store
  sound : Sound
  links : Two Link
  stopLine : Bool
  freeCount : Nat
  pending : List Instr
  deriving DecidableEq, Repr

/-- The reasons a step can stop with a fault: none. The manual names no condition in which the part stops, and every
meaning of this model answers a next state. -/
inductive Fault where
  deriving DecidableEq, Repr

/-- The reasons a step can be refused. -/
inductive Refusal where
  /-- Raised by exec's arm of a command that has no meaning yet; safe, since nothing is claimed of that command. -/
  | notModelled (mnemonic : String)
  deriving DecidableEq, Repr

/-- The supply monitor right after a reset whose first sample read 7200 mV and 0 mA (R113, R114, R118; log entry 6). -/
def Supply.afterReset : Supply where
  v := 7200
  i := 0
  vf := 7200
  iflt := 0
  cv := 1000
  ci := 1000
  s := 1000
  volCeil := 256
  state := .normal
  lowRun := 0
  warning := none
  vnom := 7200
  vsoft := 6400
  vhard := 5600
  ilim := 4000
  warnClip := some 0

/-- The clip store after a reset, given the non-volatile contents of the array and the info row (R142, R147, R158). -/
def Store.afterReset (array : List Host.Cell) (undet : List Undetermined) (infoRow : Option (Nat × Bool)) : Store where
  array := array
  undet := undet
  infoRow := infoRow
  heldB := (infoRow.getD (128, false)).1
  heldLock := (infoRow.getD (128, false)).2
  scanning := true
  activity := .idle
  suspending := false
  eraseRun := 0
  opInHand := none
  work := []
  jobRunning := false
  cleanup := false
  reading := none
  fetches := .each none
  reads := []
  directory := []
  jobs := []
  ctx := none
  pointer := 0

/-- The sound engine after either reset (R160, R169). -/
def Sound.afterReset : Sound where
  voices := .each .unused
  master := 160
  startCount := 0
  speaker := 512

/-- The sealed header of a factory clip, at the start of sector `k`, but for its bytes of 0xFF (R145, section 12.6): PCM8
at 8000 samples per second, 16352 bytes in 4 sectors, no loop region, gain 255. Its values are the model's choice (log
entry 7). -/
def factoryHeader (k : Nat) (id check : Byte) : List Host.Cell :=
  [(4096 * k, 0xA5), (4096 * k + 1, 0x3C), (4096 * k + 2, id), (4096 * k + 3, 0x00), (4096 * k + 4, 0x40),
    (4096 * k + 5, 0x1F), (4096 * k + 6, 0xE0), (4096 * k + 7, 0x3F), (4096 * k + 8, 0x00), (4096 * k + 9, 0x00)]
  ++ [(4096 * k + 19, 0x04), (4096 * k + 20, 0x00), (4096 * k + 21, 0x00), (4096 * k + 22, 0x00), (4096 * k + 23, 0x00),
    (4096 * k + 24, 0x00), (4096 * k + 25, 0x00), (4096 * k + 26, 0x00), (4096 * k + 27, 0x00), (4096 * k + 28, 0x00),
    (4096 * k + 29, 0x00), (4096 * k + 30, check), (4096 * k + 31, 0x00)]

/-- The array as the device leaves the factory: clips 0 and 1 fill sectors 0 to 7 (R142), their sample bytes 0xFF; the
other sectors are erased (log entry 7). -/
def factoryArray : List Host.Cell := factoryHeader 0 0x00 0xA5 ++ factoryHeader 4 0x01 0xA4

/-- The machine right after reset (R1, R43, R57, R80, R101, R113, R126, R142, R160, R184). The STOP line reads released,
the first supply sample reads 7200 mV and 0 mA (log entry 6), the array and the info row are as the device leaves the
factory, B = 8 and the lock clear (R142; log entry 7), and the encoder lines read low (log entry 8). -/
def State.reset : State where
  now := 0
  ports := .each .afterReset
  claims := .each ⟨none, false⟩
  motion := .each (.afterReset false false false)
  pairs := .each none
  supply := .afterReset
  streams := []
  store := .afterReset factoryArray [] (some (8, false))
  sound := .afterReset
  links := .both .afterReset
  stopLine := false
  freeCount := 0
  pending := []

end Sys2Proof.Machine
end

