-- ==== Sys2Proof/Machine/Arith.lean ====
section
/-! DEFINITION. The device's exact integer arithmetic (00_scope.md, Conventions): clamping, truncating and nearest
division, wrapped differences of the 32-bit counters (R81), little-endian bytes, and the scaling of R33. -/

namespace Sys2Proof.Machine

/-- `x` clamped to [lo, hi]: a value below lo becomes lo, a value above hi becomes hi. -/
def clamp (lo hi x : Int) : Int :=
  if x < lo then lo else if hi < x then hi else x

/-- `x` clamped to plus or minus `m`. -/
def clampMag (m x : Int) : Int := clamp (-m) m x

/-- The magnitude of an integer, as an integer. -/
def mag (x : Int) : Int := x.natAbs

/-- `n / d` truncated toward zero. -/
def truncDiv (n d : Int) : Int := n.tdiv d

/-- `n / d` rounded toward minus infinity, for a positive d. -/
def floorDiv (n d : Int) : Int := n / d

/-- `n / d` rounded to the nearest integer with halves away from zero, for a positive d (R33). -/
def nearestDiv (n d : Int) : Int :=
  if 0 ≤ n then (2 * n + d) / (2 * d) else -((2 * (-n) + d) / (2 * d))

/-- The wrapped difference `a − b` of two 32-bit positions (R81). -/
def wrapDiff (a b : BitVec 32) : Int := (a - b).toInt

/-- Two integers are both non-zero with the same sign. -/
def sameSign (x y : Int) : Bool := decide (0 < x * y)

/-- The scaled value of a raw value in a mode (R33). -/
def scale (m : ModeDesc) (r : Int) : Int :=
  let rc := clamp m.rawLow m.rawHigh r
  m.outLow + nearestDiv ((rc - m.rawLow) * (m.outHigh - m.outLow)) (m.rawHigh - m.rawLow)

/-- The first `n` little-endian bytes of a natural number. -/
def leBytes : Nat → Nat → List Byte
  | 0, _ => []
  | n + 1, v => BitVec.ofNat 8 v :: leBytes n (v / 256)

/-- The value of little-endian bytes. -/
def leValue : List Byte → Nat
  | [] => 0
  | b :: bs => b.toNat + 256 * leValue bs

/-- A natural number read as a two's complement number of `bits` bits. -/
def signedOf (bits v : Nat) : Int := (BitVec.ofNat bits v).toInt

def byteOf (n : Nat) : List Byte := [BitVec.ofNat 8 n]

def le2 (n : Nat) : List Byte := leBytes 2 n

def le4 (n : Nat) : List Byte := leBytes 4 n

/-- A signed value in two bytes. -/
def le2i (x : Int) : List Byte := le2 (BitVec.ofInt 16 x).toNat

/-- A signed value in four bytes. -/
def le4i (x : Int) : List Byte := le4 (BitVec.ofInt 32 x).toNat

def le4w (w : BitVec 32) : List Byte := le4 w.toNat

/-- Field access in a parameter or payload byte list: absent bytes read 0 (the length is checked before). -/
def byteAt (bs : List Byte) (i : Nat) : Nat := (bs.getD i 0).toNat

def wordAt (bs : List Byte) (i : Nat) : Nat := leValue ((bs.drop i).take 2)

def longAt (bs : List Byte) (i : Nat) : Nat := leValue ((bs.drop i).take 4)

end Sys2Proof.Machine
end

