-- ==== Sys2Proof/Machine/Formats.lean ====
section
/-! DEFINITION. The byte layouts of chapter 12: the codes of enumerated values, outbound messages with their flags byte
(sections 12.1, 12.3, R186), port messages with their check byte (R17, section 12.5) and clip headers (section 12.6). -/

namespace Sys2Proof

/-! ## Codes (section 12.4) -/

def Status.byte : Status → Byte
  | .ok => 0x00 | .adjusted => 0x01 | .malformed => 0x10 | .unknown => 0x11 | .badParam => 0x12
  | .noDevice => 0x20 | .wrongDevice => 0x21 | .locked => 0x22 | .notHolder => 0x23 | .paired => 0x24
  | .queueFull => 0x25 | .halted => 0x26 | .brownout => 0x27 | .moving => 0x28 | .tableFull => 0x30
  | .notReady => 0x40 | .storeBusy => 0x41 | .noSpace => 0x42 | .clipState => 0x43 | .clipInUse => 0x44
  | .protected_ => 0x45 | .noVoice => 0x50 | .modeFailed => 0x60 | .notArmed => 0x61 | .noResponse => 0x62

def SegKind.code : SegKind → Nat
  | .run => 0 | .runTime => 1 | .runBy => 2 | .runTo => 3 | .duty => 4 | .dutyTime => 5

def EndAction.ofCode : Nat → Option EndAction
  | 0 => some .coast | 1 => some .brake | 2 => some .hold | _ => none

def StallPolicy.ofCode : Nat → Option StallPolicy
  | 0 => some .keepOn | 1 => some .finish | 2 => some .abort | _ => none

def Relation.ofCode : Nat → Option Relation
  | 0 => some .below | 1 => some .above | 2 => some .inside | 3 => some .outside | _ => none

def LapseAction.code : LapseAction → Nat
  | .coast => 0 | .brake => 1

def LapseAction.ofCode : Nat → Option LapseAction
  | 0 => some .coast | 1 => some .brake | _ => none

def SegOutcome.code : SegOutcome → Nat
  | .done => 0 | .condition => 1 | .stalled => 2 | .replaced => 3 | .stopped => 4 | .flushed => 5 | .takenOver => 6
  | .released => 7 | .lapsed => 8 | .detached => 9 | .halted => 10 | .brownout => 11 | .sourceLost => 12
  | .unpaired => 13

def MsgOutcome.code : MsgOutcome → Nat
  | .ok => 0 | .checkError => 1 | .framingError => 2 | .truncated => 3 | .lengthMismatch => 4 | .unexpected => 5
  | .modeMismatch => 6

def SourceKind.code : SourceKind → Nat
  | .sensor => 0 | .motorPosition => 1 | .motorSpeed => 2 | .supply => 3

def SourceKind.ofCode : Nat → Option SourceKind
  | 0 => some .sensor | 1 => some .motorPosition | 2 => some .motorSpeed | 3 => some .supply | _ => none

/-- Holder codes: 0 CL0, 1 CL1, 2 NONE. -/
def holderCode : Option LinkId → Nat
  | some l => l.num | none => 2

/-- Owner codes: 0 CL0, 1 CL1, 2 NONE or SUPPLY. -/
def ownerCode : Option Owner → Nat
  | some (.link l) => l.num | _ => 2

def DeviceKind.code : DeviceKind → Nat
  | .none => 0 | .serial => 1 | .plainMotor => 2 | .light => 3 | .touch => 4 | .unknown => 5

def SupplyState.code : SupplyState → Nat
  | .normal => 0 | .low => 1 | .brownout => 2

def LockAction.ofCode : Nat → Option LockAction
  | 0 => some .keep | 1 => some .set | 2 => some .clear | _ => none

def ClipFormat.code : ClipFormat → Nat
  | .pcm8 => 0 | .pcm16 => 1

def ClipFormat.ofCode : Nat → Option ClipFormat
  | 0 => some .pcm8 | 1 => some .pcm16 | _ => none

def PortEventKind.code : PortEventKind → Nat
  | .attached => 0 | .detached => 1 | .fault => 2 | .redescribed => 3 | .modeChanged => 4

def FaultCause.code : FaultCause → Nat
  | .none => 0 | .overcurrent => 1 | .handshake => 2

def VoiceOutcome.code : VoiceOutcome → Nat
  | .done => 0 | .stopped => 1 | .stolen => 2 | .brownout => 3

def LapseCause.code : LapseCause → Nat
  | .lapse => 0 | .leave => 1

def TapSel.code : TapSel → Nat
  | .good => 1 | .bad => 2 | .both => 3

def TapSel.ofCode : Nat → Option TapSel
  | 1 => some .good | 2 => some .bad | 3 => some .both | _ => none

def MsgClass.code : MsgClass → Nat
  | .desc => 0 | .data => 1 | .note => 2 | .ack => 3 | .keep => 4 | .mode => 5 | .write => 6 | .rate => 7

/-- The class in bits 7 to 5 of a lead byte (section 12.5). -/
def MsgClass.ofLead (lead : Byte) : MsgClass :=
  match lead.toNat / 32 with
  | 0 => .desc | 1 => .data | 2 => .note | 3 => .ack | 4 => .keep | 5 => .mode | 6 => .write | _ => .rate

/-- The payload length in bits 4 to 0 of a lead byte (section 12.5). -/
def leadLength (lead : Byte) : Nat := lead.toNat % 32

def PairId.ofCode : Nat → Option PairId
  | 0 => some .q0 | 1 => some .q1 | 2 => some .q2 | _ => none

def Port.ofCode : Nat → Option Port
  | 1 => some .p1 | 2 => some .p2 | 3 => some .p3 | 4 => some .p4 | 5 => some .p5 | 6 => some .p6 | _ => none

def VoiceId.ofCode : Nat → Option VoiceId
  | 0 => some .v0 | 1 => some .v1 | 2 => some .v2 | 3 => some .v3 | _ => none

end Sys2Proof

namespace Sys2Proof.Machine

/-! ## Fields (R186) -/

/-- Yes and no are sent as 1 and 0 (log entry 24). -/
def flagByte (b : Bool) : List Byte := byteOf b.toNat

/-- A one-byte field that may be absent: 0xFF when absent. -/
def optByte : Option Nat → List Byte
  | some n => byteOf n | none => [0xFF]

/-- A tag that may be absent: preceded by a presence byte, its byte 0 when absent. -/
def optTag : Option Byte → List Byte
  | some t => [1, t] | none => [0, 0]

/-- A two-byte field that may be absent: preceded by a presence byte, its bytes 0 when absent. -/
def optWord : Option Nat → List Byte
  | some n => 1 :: le2 n | none => 0 :: le2 0

/-- A four-byte field that may be absent: preceded by a presence byte, its bytes 0 when absent. -/
def optLong : Option Nat → List Byte
  | some n => 1 :: le4 n | none => 0 :: le4 0

def optPos (p : Option (BitVec 32)) : List Byte := optLong (p.map BitVec.toNat)

/-! ## Segment fields -/

def SegWork.kind : SegWork → SegKind
  | .run => .run | .runTime _ => .runTime | .runBy _ => .runBy | .runTo _ => .runTo | .duty => .duty
  | .dutyTime _ => .dutyTime

/-- The regulated kinds RUN, RUN_TIME, RUN_BY and RUN_TO (R59). -/
def SegWork.regulated : SegWork → Bool
  | .duty => false | .dutyTime _ => false | _ => true

/-- The positioning kinds RUN_BY and RUN_TO. -/
def SegWork.positioning : SegWork → Bool
  | .runBy _ => true | .runTo _ => true | _ => false

/-- The time limit of RUN_TIME and DUTY_TIME. -/
def SegWork.time : SegWork → Option Nat
  | .runTime ms => some ms | .dutyTime ms => some ms | _ => none

/-! ## Outbound messages (sections 12.1 and 12.3) -/

def SoundName.fields : SoundName → List Byte
  | .clip id => byteOf 0 ++ le2 id | .tone f => byteOf 1 ++ le2 f

/-- The kind byte and payload of a notice (section 12.3). -/
def Notice.bytes : Notice → Byte × List Byte
  | .data d => (0x81, byteOf d.entry ++ le2 d.stamp.toNat ++ byteOf d.merged ++ byteOf d.values.length
      ++ (d.values.map le4i).flatten)
  | .raw p o bs => (0x82, byteOf p.num ++ byteOf o.code ++ byteOf bs.length ++ bs)
  | .portEvent e => (0x83, byteOf e.event.code ++ byteOf e.port.num ++ byteOf e.kind.code
      ++ le2 ((e.typeId.map BitVec.toNat).getD 0) ++ optByte e.mode ++ byteOf e.cause.code ++ flagByte e.latched
      ++ byteOf e.trips)
  | .segmentEnd e => (0x84, byteOf e.port.num ++ optByte (e.pair.map PairId.num) ++ [e.tag] ++ byteOf e.kind.code
      ++ byteOf e.outcome.code ++ optPos e.position ++ le4 e.elapsed)
  | .claimLost e => (0x85, byteOf e.port.num ++ optByte (e.pair.map PairId.num) ++ byteOf e.newHolder.num ++ [e.code]
      ++ byteOf e.ended)
  | .streamEnd n => (0x86, byteOf n ++ byteOf 0)
  | .voiceEnd e => (0x87, byteOf e.voice.num ++ [e.tag.getD 0] ++ e.sound.fields ++ byteOf e.outcome.code
      ++ le2 e.underrun)
  | .supplyState n o vf s => (0x88, byteOf n.code ++ byteOf o.code ++ le2i vf ++ le2i s)
  | .haltState h l => (0x89, flagByte h ++ flagByte l)
  | .peerLapsed l c => (0x8A, byteOf l.num ++ byteOf c.code)

/-- An outbound message: length byte, kind, flags byte, payload (section 12.1). -/
def outbound (kind flags : Byte) (payload : List Byte) : List Byte :=
  BitVec.ofNat 8 (payload.length + 2) :: kind :: flags :: payload

def Reply.bytes (flags : Byte) (r : Reply) : List Byte :=
  outbound 0x01 flags (r.tag :: r.code :: r.status.byte :: r.payload)

def Notice.message (flags : Byte) (n : Notice) : List Byte := outbound n.bytes.1 flags n.bytes.2

/-- The 3-byte FILLER message (R176). -/
def fillerMessage (flags : Byte) : List Byte := outbound 0x00 flags []

/-! ## Port messages (R17) -/

/-- The check byte: 0xFF exclusive-or the lead byte and every payload byte. -/
def checkByte (bs : List Byte) : Byte := bs.foldl (· ^^^ ·) 0xFF

/-- A whole port message of a class and payload, as the hub sends it (R17, section 12.5). -/
def portMessage (cls : MsgClass) (payload : List Byte) : List Byte :=
  let body := BitVec.ofNat 8 (cls.code * 32 + payload.length) :: payload
  body ++ [checkByte body]

/-- The bytes the transmitter sends for a message of the hub (section 12.5). -/
def HubMsg.bytes : HubMsg → List Byte
  | .rate c => portMessage .rate (byteOf c)
  | .ack c => portMessage .ack (byteOf c)
  | .keep => portMessage .keep []
  | .mode m => portMessage .mode (byteOf m)
  | .write d => portMessage .write d

/-! ## Clip headers (R145, section 12.6) -/

/-- Bytes 0 to 29 of the header of a clip. -/
def headerBody (id : Nat) (c : ClipInfo) (count : Nat) : List Byte :=
  [0xA5, 0x3C] ++ byteOf id ++ byteOf c.format.code ++ le2 c.rate ++ le4 c.length ++ le4 c.loopStart ++ le4 c.loopEnd
    ++ byteOf c.gain ++ byteOf count ++ List.replicate 10 0

/-- The header check: the sum of the bytes modulo 256, every bit inverted. -/
def headerCheck (body : List Byte) : Byte := ~~~ (body.foldl (· + ·) 0)

/-- The 32-byte unsealed header that PREPARE programs (R148). -/
def headerBytes (id : Nat) (c : ClipInfo) (count : Nat) : List Byte :=
  let body := headerBody id c count
  body ++ [headerCheck body, 0xFF]

/-- The sectors a clip of a length needs: 32 + length bytes, rounded up (R145). -/
def sectorsFor (length : Nat) : Nat := (32 + length + 4095) / 4096

/-- A clip's sample count: its length for PCM8, half its length for PCM16 (R145). -/
def ClipInfo.samples (c : ClipInfo) : Nat :=
  match c.format with
  | .pcm8 => c.length | .pcm16 => c.length / 2

def allOnes : Nat := 0xFFFFFFFF

/-- The loop region of a clip, absent when both points are all ones (R145). -/
def ClipInfo.region (c : ClipInfo) : Option (Nat × Nat) :=
  if c.loopStart = allOnes ∧ c.loopEnd = allOnes then none else some (c.loopStart, c.loopEnd)

/-- The value rules of a valid header (R145), the magic, check and sector count apart. -/
def ClipInfo.valid (c : ClipInfo) : Bool :=
  decide (1000 ≤ c.rate ∧ c.rate ≤ 32000 ∧ 1 ≤ c.length ∧ c.length ≤ 524256)
    && (c.format == .pcm8 || c.length % 2 == 0)
    && (match c.region with
        | none => true
        | some (ls, le) => decide (ls < le ∧ le ≤ c.samples))

/-- The id, header values, sector count and seal byte of a valid header, read from the 32 bytes at a sector's start
(R145). -/
def readHeader (h : List Byte) : Option (Nat × ClipInfo × Nat × Byte) :=
  match ClipFormat.ofCode (byteAt h 3) with
  | none => none
  | some f =>
    let c : ClipInfo := ⟨f, wordAt h 4, longAt h 6, longAt h 10, longAt h 14, byteAt h 18⟩
    if byteAt h 0 = 0xA5 ∧ byteAt h 1 = 0x3C ∧ h.getD 30 0 = headerCheck (h.take 30) ∧ byteAt h 2 ≤ 63
        ∧ c.valid = true ∧ byteAt h 19 = sectorsFor c.length then
      some (byteAt h 2, c, byteAt h 19, h.getD 31 0)
    else none

end Sys2Proof.Machine
end

