-- ==== Sys2Proof/Machine/Operands.lean ====
section
/-! DEFINITION. The operands of the requests: the lengths allowed for each request code and the parameter fields of
section 12.2 (R185). -/

namespace Sys2Proof.Machine

/-- Whether the parameter bytes of a request have a length allowed for its code; none for a code the device does not
define (R175, R185). The parameters are the L − 2 bytes after tag and code. -/
def lengthAllowed (code : Nat) (ps : List Byte) : Option Bool :=
  let n := ps.length
  match code with
  | 0x01 => some (n == 0) | 0x02 => some (n == 6) | 0x03 => some (n == 1) | 0x04 => some (n == 0)
  | 0x05 => some (n == 0) | 0x06 => some (n == 0)
  | 0x10 => some (n == 2) | 0x11 => some (n == 1) | 0x12 => some (n == 2) | 0x13 => some (n == 2 + byteAt ps 1)
  | 0x14 => some (n == 3) | 0x15 => some (n == 1) | 0x16 => some (n == 1)
  | 0x20 => some (n == 2) | 0x21 => some (n == 2) | 0x22 => some (n == 2)
  | 0x30 => some (n == 28) | 0x31 => some (n == 2) | 0x32 => some (n == 20) | 0x33 => some (n == 5)
  | 0x34 => some (n == 0) | 0x35 => some (n == 4) | 0x36 => some (n == 1) | 0x37 => some (n == 29)
  | 0x38 => some (n == 1)
  | 0x40 => some (n == 0) | 0x41 => some (n == 10)
  | 0x50 => some (n == 9) | 0x51 => some (n == 1) | 0x52 => some (n == 1)
  | 0x60 => some (n == 17) | 0x61 => some (n == 5 + byteAt ps 4) | 0x62 => some (n == 1) | 0x63 => some (n == 1)
  | 0x64 => some (n == 1) | 0x65 => some (n == 2) | 0x66 => some (n == 6)
  | 0x70 => some (n == 10) | 0x71 => some (n == 1) | 0x72 => some (n == 1) | 0x73 => some (n == 0)
  | _ => none

/-- A field present when its presence bit is set; the bits the table of R185 does not define are not looked at (log
entry 51). -/
def presentIf (presence bit : Nat) (value : Nat) : Option Nat :=
  if presence.testBit bit then some value else none

/-- The port a parameter byte names. -/
def portAt (ps : List Byte) (i : Nat) : Option Port := Port.ofCode (byteAt ps i)

/-! ## The segment block of MOVE and MOVE_PAIR -/

/-- What the segment block says a segment does; a time limit is the low two bytes of the limit field. -/
def blockWork (ps : List Byte) (o : Nat) : Option SegWork :=
  let limit := longAt ps (o + 3)
  match byteAt ps o with
  | 0 => some .run
  | 1 => some (.runTime (limit % 65536))
  | 2 => some (.runBy (BitVec.ofNat 32 limit))
  | 3 => some (.runTo (BitVec.ofNat 32 limit))
  | 4 => some .duty
  | 5 => some (.dutyTime (limit % 65536))
  | _ => none

/-- The stop condition of the block; the outer none means a value outside its set (R60, step 1). -/
def blockCond (ps : List Byte) (o : Nat) : Option (Option StopCond) :=
  if (byteAt ps (o + 9)).testBit 2 then
    match portAt ps (o + 14), Relation.ofCode (byteAt ps (o + 17)) with
    | some src, some rel =>
      let t1 := signedOf 32 (longAt ps (o + 18))
      let t2 := signedOf 32 (longAt ps (o + 22))
      if 3 < byteAt ps (o + 16) then none
      else if (rel = .inside ∨ rel = .outside) ∧ t2 < t1 then none
      else some (some ⟨src, byteAt ps (o + 15), byteAt ps (o + 16), rel, t1, t2⟩)
    | _, _ => none
  else some none

/-- The segment a block at offset `o` carries, before any clamping; none when a value is outside its set
(R60 and R104, step 1). Bits 4 to 7 of its flags are ignored (log entry 51). -/
def blockSegment (issuer : LinkId) (tag : Byte) (ps : List Byte) (o : Nat) : Option Segment :=
  match blockWork ps o, EndAction.ofCode (byteAt ps (o + 7)), StallPolicy.ofCode (byteAt ps (o + 8)), blockCond ps o with
  | some w, some e, some st, some c =>
    if w.time = some 0 then none
    else
      let flags := byteAt ps (o + 9)
      some {
        issuer := issuer, tag := tag, work := w, speed := signedOf 16 (wordAt ps (o + 1)), endAction := e, stall := st
        accel := presentIf flags 0 (wordAt ps (o + 10)), decel := presentIf flags 1 (wordAt ps (o + 12))
        cond := c, notify := flags.testBit 3 }
  | _, _, _, _ => none

/-- The placement flag: false for APPEND, true for REPLACE. -/
def placementAt (ps : List Byte) (i : Nat) : Option Bool :=
  match byteAt ps i with
  | 0 => some false | 1 => some true | _ => none

/-- The target of LOCK, UNLOCK and RELEASE: a port, or a pair id (R49). -/
inductive ClaimTarget where
  | port (p : Port)
  | pair (q : PairId)
  deriving DecidableEq, Repr

def claimTarget (ps : List Byte) : Option ClaimTarget :=
  match byteAt ps 0 with
  | 0 => (portAt ps 1).map .port
  | 1 => (PairId.ofCode (byteAt ps 1)).map .pair
  | _ => none

end Sys2Proof.Machine
end

