-- ==== Sys2Proof/Machine/Ops.lean ====
section
/-! DEFINITION. The shared operations over the state: reading and writing one block's record, taking and answering a
request (R174, R175), placing a notice (R133), and the passing of one millisecond. -/

namespace Sys2Proof.Machine

/-! ## Reading and writing one record -/

def State.port (s : State) (p : Port) : PortUnit := s.ports.get p
def State.claim (s : State) (p : Port) : Claim := s.claims.get p
def State.unit (s : State) (p : Port) : MotionUnit := s.motion.get p
def State.pairAt (s : State) (q : PairId) : Option PairRec := s.pairs.get q
def State.link (s : State) (l : LinkId) : Link := s.links.get l
def State.voice (s : State) (v : VoiceId) : Voice := s.sound.voices.get v

def State.setPort (s : State) (p : Port) (u : PortUnit) : State := { s with ports := s.ports.set p u }
def State.setClaim (s : State) (p : Port) (c : Claim) : State := { s with claims := s.claims.set p c }
def State.setUnit (s : State) (p : Port) (u : MotionUnit) : State := { s with motion := s.motion.set p u }
def State.setPair (s : State) (q : PairId) (r : Option PairRec) : State := { s with pairs := s.pairs.set q r }
def State.setLink (s : State) (l : LinkId) (k : Link) : State := { s with links := s.links.set l k }
def State.setSupply (s : State) (m : Supply) : State := { s with supply := m }
def State.setStreams (s : State) (es : List StreamEntry) : State := { s with streams := es }
def State.setStore (s : State) (t : Store) : State := { s with store := t }
def State.setSound (s : State) (n : Sound) : State := { s with sound := n }
def State.setVoice (s : State) (v : VoiceId) (x : Voice) : State :=
  s.setSound { s.sound with voices := s.sound.voices.set v x }

def State.modPort (s : State) (p : Port) (f : PortUnit → PortUnit) : State := s.setPort p (f (s.port p))
def State.modUnit (s : State) (p : Port) (f : MotionUnit → MotionUnit) : State := s.setUnit p (f (s.unit p))
def State.modLink (s : State) (l : LinkId) (f : Link → Link) : State := s.setLink l (f (s.link l))
def State.modStore (s : State) (f : Store → Store) : State := s.setStore (f s.store)

/-- Take the next free value's number (log entry 10). -/
def State.bumpFree (s : State) : State := { s with freeCount := s.freeCount + 1 }

/-- Device time: milliseconds since the reset, wrapping at 2³² (R31). -/
def State.deviceTime (s : State) : BitVec 32 := BitVec.ofNat 32 s.now

/-! ## What a port holds (R1, R4) -/

/-- A port is attached while its kind is other than none (R1). -/
def PortUnit.attached (u : PortUnit) : Bool := u.kind != .none

/-- A port is described while its descriptor is present (R1). -/
def PortUnit.described (u : PortUnit) : Bool := u.desc.isSome

/-- An encoder motor is a described SERIAL device whose HEAD has has_encoder set (R4). -/
def PortUnit.encoderMotor (u : PortUnit) : Bool :=
  u.kind == .serial &&
    match u.desc with
    | some ⟨some h, _⟩ => h.hasEncoder
    | _ => false

/-- The port holds a motor or a light: PLAIN_MOTOR, LIGHT or an encoder motor (R58). -/
def PortUnit.drives (u : PortUnit) : Bool := u.kind == .plainMotor || u.kind == .light || u.encoderMotor

/-- The max speed of the port's descriptor, 0 where there is none. -/
def PortUnit.maxSpeed (u : PortUnit) : Int :=
  match u.desc with
  | some ⟨some h, _⟩ => (h.maxSpeed.getD 0 : Nat)
  | _ => 0

/-- The description of a mode of the port. -/
def PortUnit.modeDesc (u : PortUnit) (m : Nat) : Option ModeDesc := u.desc.bind (·.modes[m]?)

/-- The states in which the claim step refuses NO_DEVICE (R45). -/
def PortUnit.noDevice (u : PortUnit) : Bool :=
  u.state == .empty || u.state == .probing || u.state == .fault || u.state == .faultLatched

/-- The pair a port belongs to. -/
def State.pairOf (s : State) (p : Port) : Option PairId :=
  PairId.all.find? fun q =>
    match s.pairAt q with
    | some r => r.portA == p || r.portB == p
    | none => false

/-! ## Requests and replies (R174, R175) -/

/-- Where the reply to a request of a link goes, as the link stands now. -/
def State.replyTo (s : State) (l : LinkId) (tag code : Byte) : ReplyTo := ⟨l, (s.link l).activation, tag, code⟩

/-- The handler of link `l` takes the request at the head of its inbound queue, if it is `req` (R175). The request moves
from the inbound queue to the taken set (R174), and the reset-arm mark is cleared (R182). -/
def State.take (s : State) (l : LinkId) (req : Request) : Option State :=
  match (s.link l).inbound with
  | [] => none
  | r :: rest =>
    if r = req then
      some (s.modLink l fun k =>
        { k with inbound := rest, taken := k.taken ++ [s.replyTo l req.tag (req.code.getD 0)], armed := false })
    else none

/-- A list without its newest entry equal to `x`. -/
def eraseNewest {α : Type} [DecidableEq α] (xs : List α) (x : α) : List α := (xs.reverse.erase x).reverse

/-- Answer a taken request: it leaves the taken set and its reply is appended to its link's reply queue; the reply is
discarded if the link has lapsed or left since the request was taken (R174, R175). -/
def State.answer (s : State) (r : ReplyTo) (st : Status) (payload : List Byte) : State :=
  if (s.link r.link).activation = r.activation then
    s.modLink r.link fun k =>
      { k with taken := eraseNewest k.taken r, replies := k.replies ++ [⟨r.tag, r.code, st, payload⟩] }
  else s

/-- A request command: the handler takes the request, answers it MALFORMED if its length is not allowed for its code,
and otherwise passes it to the owning block (R175). A command that does not name the head of the inbound queue is no
event of the part and changes nothing (log entry 4). -/
def State.serve (s : State) (l : LinkId) (tag : Byte) (code : Nat) (ps : List Byte)
    (body : ReplyTo → State → State) : State :=
  match s.take l ⟨tag, some (BitVec.ofNat 8 code), ps⟩ with
  | none => s
  | some t =>
    let r := s.replyTo l tag (BitVec.ofNat 8 code)
    if lengthAllowed code ps = some true then body r t else t.answer r .malformed []

/-! ## Notices (R133, R134) -/

/-- An event notice, RAW included, joins a link's queue: not produced for a link that is not ACTIVE, appended while
fewer than 32 messages are held, and otherwise dropped with NOTICE_LOST set. -/
def Link.pushEvent (n : Notice) (k : Link) : Link :=
  if k.state = .active then
    if k.notices.length < 32 then { k with notices := k.notices ++ [n] }
    else { k with sticky := { k.sticky with noticeLost := true } }
  else k

def Notice.isDataFor (entry : Nat) : Notice → Bool
  | .data d => d.entry == entry
  | _ => false

def Notice.isData : Notice → Bool
  | .data _ => true
  | _ => false

/-- The held DATA notice of an entry with the values of a newer emission: its merged count increases by one and
saturates at 255. -/
def Notice.replaceData (n : DataNotice) : Notice → Notice
  | .data d => if d.entry = n.entry then .data { n with merged := min 255 (d.merged + 1) } else .data d
  | m => m

/-- A DATA notice joins a link's queue: replaced in place, appended, or skipped. -/
def Link.pushData (n : DataNotice) (k : Link) : Link :=
  if k.state = .active then
    if k.notices.any (Notice.isDataFor n.entry) then
      { k with
        notices := k.notices.map (Notice.replaceData n)
        transfer := k.transfer.map fun t => if t.picked = .data n.entry then { t with replaced := true } else t }
    else if k.notices.length < 32 then { k with notices := k.notices ++ [.data { n with merged := 0 }] }
    else k
  else k

/-- The DATA notices of an entry leave a link's queue; one picked for the transfer in progress is no longer held. -/
def Link.dropData (entry : Nat) (k : Link) : Link :=
  { k with
    notices := k.notices.filter fun n => !n.isDataFor entry
    transfer := k.transfer.map fun t => if t.picked = .data entry then { t with held := false } else t }

/-- An event notice for one link. -/
def State.notify (s : State) (l : LinkId) (n : Notice) : State := s.modLink l (Link.pushEvent n)

/-- An event notice for each ACTIVE link. -/
def State.notifyAll (s : State) (n : Notice) : State := (s.notify .cl0 n).notify .cl1 n

/-! ## Time -/

/-- A running timer with one millisecond less left. -/
def countDown (t : Option Nat) : Option Nat := t.map (· - 1)

def PortUnit.tick (u : PortUnit) : PortUnit :=
  { u with
    powerTimer := countDown u.powerTimer
    retry := countDown u.retry
    silence := countDown u.silence
    keepAlive := countDown u.keepAlive
    modeTimer := countDown u.modeTimer
    writeTimer := countDown u.writeTimer
    hs := u.hs.map fun h => { h with timer := countDown h.timer } }

def Six.map (f : α → β) (t : Six α) : Six β := ⟨f t.p1, f t.p2, f t.p3, f t.p4, f t.p5, f t.p6⟩

def Two.map (f : α → β) (t : Two α) : Two β := ⟨f t.cl0, f t.cl1⟩

/-- One millisecond passes: device time advances, every running timer counts down and stops at 0, and an erase in
progress gains a millisecond of progress. The expiry of a timer is a command of its own (log entries 1 and 3). -/
def State.tick (s : State) : State :=
  { s with
    now := s.now + 1
    ports := Six.map PortUnit.tick s.ports
    supply := { s.supply with warning := countDown s.supply.warning }
    store := { s.store with
      eraseRun := if s.store.activity = .erasing ∧ s.store.suspending = false then s.store.eraseRun + 1
        else s.store.eraseRun }
    links := Two.map (fun k => { k with ageTimer := countDown k.ageTimer }) s.links }

end Sys2Proof.Machine
end

