-- ==== Sys2Proof/Machine/Streams.lean ====
section
/-! DEFINITION. The subscription table (chapter 8): the sampling test and emission, suspension and removal, and the
requests SUBSCRIBE, UNSUBSCRIBE and LIST_STREAMS. -/

namespace Sys2Proof.Machine

/-! ## Source updates (R127, R131, R132) -/

/-- A source update: what it follows, its values and the stamp its DATA notices carry (R127). -/
structure Update where
  kind : SourceKind
  port : Option Port
  mode : Nat
  values : List Int
  stamp : BitVec 16
  deriving DecidableEq, Repr

/-- The update is one the entry is tested on (R131). -/
def StreamEntry.follows (e : StreamEntry) (u : Update) : Bool :=
  !e.suspended && e.key.kind == u.kind && e.key.port == u.port && e.key.mode == u.mode

/-- How far a value is from the last sent one: exact, and wrapped for MOTOR_POSITION (R131). -/
def valueChange (kind : SourceKind) (old new : Int) : Int :=
  if kind = .motorPosition then mag (wrapDiff (BitVec.ofInt 32 new) (BitVec.ofInt 32 old)) else mag (new - old)

/-- The interval and delta conditions of R131 at a device time. -/
def StreamEntry.due (e : StreamEntry) (u : Update) (now : BitVec 32) : Bool :=
  match e.lastEmit with
  | none => true
  | some t =>
    decide (e.key.interval ≤ (now - t).toNat)
      && (decide (e.key.delta = 0)
        || (e.lastSent.zip u.values).any fun p => decide ((e.key.delta : Int) ≤ valueChange u.kind p.1 p.2))

/-- Of the updates of one event, the one the entry emits on, if it does (R131). -/
def StreamEntry.emission (e : StreamEntry) (us : List Update) (now : BitVec 32) : Option Update :=
  us.find? fun u => e.follows u && e.due u now

/-- Step 1 of R132: last emit and last sent values. -/
def StreamEntry.sent (e : StreamEntry) (us : List Update) (now : BitVec 32) : StreamEntry :=
  match e.emission us now with
  | some u => { e with lastEmit := some now, lastSent := u.values }
  | none => e

/-- Step 2 of R132: a DATA notice is offered to each member, CL0 first. -/
def State.offerData (s : State) (e : StreamEntry) (u : Update) : State :=
  LinkId.all.foldl (fun t l =>
    if e.members.get l then t.modLink l (Link.pushData ⟨e.id, u.stamp, 0, u.values⟩) else t) s

/-- The source updates of one event are offered to the subscription table: every entry that follows one is tested, and
those that emit do so in ascending entry id (R131, R132). -/
def State.offerUpdates (s : State) (us : List Update) : State :=
  s.streams.foldl (fun t e =>
    match e.emission us s.deviceTime with
    | some u => t.offerData e u
    | none => t) (s.setStreams (s.streams.map fun e => e.sent us s.deviceTime))

/-- The low 16 bits of device time. -/
def State.stamp (s : State) : BitVec 16 := BitVec.ofNat 16 s.now

/-- A sample update of a port as a source update: the scaled values and the sequence number (R127). A sample record with
no sequence number has had no update. -/
def SampleRec.update (p : Port) (r : SampleRec) : Update := ⟨.sensor, some p, r.valuesMode, r.scaled, r.seq.getD 0⟩

/-- A regulation event of a port's unit is offered to the table while the port is ACTIVE (R127, R136). -/
def State.offerMotion (s : State) (p : Port) : State :=
  if (s.port p).state = .active then
    s.offerUpdates [⟨.motorPosition, some p, 0, [(s.unit p).position.toInt], s.stamp⟩,
      ⟨.motorSpeed, some p, 0, [(s.unit p).reg.speed], s.stamp⟩]
  else s

/-! ## Suspension and removal (R135, R137, R138) -/

/-- A mode change of a port acts on its SENSOR entries (R135). -/
def StreamEntry.modeChange (p : Port) (mode : Nat) (e : StreamEntry) : StreamEntry :=
  if e.key.kind = .sensor ∧ e.key.port = some p then
    if e.key.mode = mode then (if e.suspended then { e with suspended := false, lastEmit := none } else e)
    else { e with suspended := true }
  else e

def State.streamModeChange (s : State) (p : Port) (mode : Nat) : State :=
  s.setStreams (s.streams.map (StreamEntry.modeChange p mode))

/-- A member of a removed entry loses its DATA notice and is sent STREAM_END (R137). -/
def State.endStreamFor (s : State) (e : StreamEntry) (l : LinkId) : State :=
  if e.members.get l then (s.modLink l (Link.dropData e.id)).notify l (.streamEnd e.id) else s

/-- The entries of a port are removed at its detach, in ascending entry id (R137). -/
def State.removeStreams (s : State) (p : Port) : State :=
  let t := (s.streams.filter fun e => e.key.port == some p).foldl
    (fun t e => LinkId.all.foldl (fun u l => u.endStreamFor e l) t) s
  t.setStreams (s.streams.filter fun e => e.key.port != some p)

/-- A link leaves every member set; entries with no member left are freed (R138). -/
def State.leaveStreams (s : State) (l : LinkId) : State :=
  s.setStreams ((s.streams.map fun e => { e with members := e.members.set l false }).filter
    fun e => e.members.cl0 || e.members.cl1)

/-! ## SUBSCRIBE (R128, R129) -/

/-- The form check of SUBSCRIBE: the source kind, port and mode the entry's key takes. -/
def subscribeForm (ps : List Byte) : Option (SourceKind × Option Port × Nat) :=
  match SourceKind.ofCode (byteAt ps 0) with
  | none => none
  | some k =>
    let mode := byteAt ps 2
    if 2147483647 < longAt ps 5 then none
    else
      match k with
      | .supply => if byteAt ps 1 = 0 then some (k, none, 0) else none
      | .sensor =>
        match portAt ps 1 with
        | some p => if 7 < mode then none else some (k, some p, mode)
        | none => none
      | .motorPosition => (portAt ps 1).map fun p => (k, some p, 0)
      | .motorSpeed => (portAt ps 1).map fun p => (k, some p, 0)

/-- The source check of SUBSCRIBE (R128, step 2) and the interval's floor (R129). -/
def State.subscribeSource (s : State) (k : SourceKind) (p : Option Port) (mode : Nat) : Except Status Nat :=
  match k, p with
  | .sensor, some q =>
    if (s.port q).sample.isNone then .error .noDevice
    else
      match (s.port q).modeDesc mode with
      | some m => .ok m.minInterval
      | none => .error .badParam
  | .supply, _ => .ok 10
  | _, some q => if (s.port q).encoderMotor then .ok 10 else .error .wrongDevice
  | _, none => .error .wrongDevice

/-- The lowest-numbered free slot. -/
def freeSlot (es : List StreamEntry) : Option Nat :=
  (List.range 24).find? fun n => !es.any fun e => e.id == n

/-- Entries are kept in ascending entry id. -/
def insertStream (e : StreamEntry) : List StreamEntry → List StreamEntry
  | [] => [e]
  | d :: rest => if e.id < d.id then e :: d :: rest else d :: insertStream e rest

/-- A new SENSOR entry is SUSPENDED when its mode is not the port's current mode (R129). -/
def State.startsSuspended (s : State) (key : StreamKey) : Bool :=
  match key.kind, key.port with
  | .sensor, some p => (s.port p).mode != some key.mode
  | _, _ => false

/-- The entry a SUBSCRIBE joins or creates, and the table after it; none when the table is full (R129). -/
def State.joinStream (s : State) (l : LinkId) (key : StreamKey) : Option (Nat × State) :=
  match s.streams.find? fun e => e.key == key with
  | some e =>
    some (e.id, s.setStreams (s.streams.map fun d =>
      if d.id = e.id then { d with members := d.members.set l true } else d))
  | none =>
    (freeSlot s.streams).map fun n =>
      (n, s.setStreams (insertStream ⟨n, key, (Two.both false).set l true, s.startsSuspended key, none, []⟩ s.streams))

def State.subscribeBody (s : State) (r : ReplyTo) (ps : List Byte) : State :=
  match subscribeForm ps with
  | none => s.answer r .badParam []
  | some (k, p, mode) =>
    match s.subscribeSource k p mode with
    | .error st => s.answer r st []
    | .ok floor =>
      let asked := wordAt ps 3
      let interval := min 60000 (max floor asked)
      match s.joinStream r.link ⟨k, p, mode, interval, longAt ps 5⟩ with
      | none => s.answer r .tableFull []
      | some (n, t) => t.answer r (if interval = asked then .ok else .adjusted) (byteOf n ++ le2 interval)

def execSubscribe (l : LinkId) (tag : Byte) (ps : List Byte) (s : State) : Host.Outcome State Fault Refusal :=
  .next (s.serve l tag 0x50 ps fun r t => t.subscribeBody r ps)

/-! ## UNSUBSCRIBE (R130) -/

def State.unsubscribeBody (s : State) (r : ReplyTo) (ps : List Byte) : State :=
  match s.streams.find? fun e => e.id == byteAt ps 0 with
  | some e =>
    if e.members.get r.link then
      let members := e.members.set r.link false
      let t := s.modLink r.link (Link.dropData e.id)
      (t.setStreams (if members.cl0 || members.cl1 then
          s.streams.map fun d => if d.id = e.id then { d with members := members } else d
        else s.streams.filter fun d => d.id != e.id)).answer r .ok []
    else s.answer r .badParam []
  | none => s.answer r .badParam []

def execUnsubscribe (l : LinkId) (tag : Byte) (ps : List Byte) (s : State) : Host.Outcome State Fault Refusal :=
  .next (s.serve l tag 0x51 ps fun r t => t.unsubscribeBody r ps)

/-! ## LIST_STREAMS (R139) -/

def StreamEntry.listBytes (e : StreamEntry) : List Byte :=
  byteOf e.id ++ byteOf e.key.kind.code ++ byteOf ((e.key.port.map Port.num).getD 0) ++ byteOf e.key.mode
    ++ le2 e.key.interval ++ le4 e.key.delta ++ [Config.memberSetCode e.members]
    ++ [Config.streamStateCode e.suspended]

def State.streamsPayload (s : State) (start : Nat) : List Byte :=
  let all := s.streams.filter fun e => decide (start ≤ e.id)
  let shown := all.take 4
  byteOf shown.length ++ (shown.map StreamEntry.listBytes).flatten
    ++ optByte (if shown.length < all.length then shown.getLast?.map (·.id + 1) else none)

def State.listStreamsBody (s : State) (r : ReplyTo) (ps : List Byte) : State :=
  if 23 < byteAt ps 0 then s.answer r .badParam [] else s.answer r .ok (s.streamsPayload (byteAt ps 0))

def execListStreams (l : LinkId) (tag : Byte) (ps : List Byte) (s : State) : Host.Outcome State Fault Refusal :=
  .next (s.serve l tag 0x52 ps fun r t => t.listStreamsBody r ps)

end Sys2Proof.Machine
end

