-- ==== Sys2Proof/Machine/Segments.lean ====
section
/-! DEFINITION. Shared operations of the motion units (chapter 4): stop conditions (R62, R67), segment notices (R73), end
actions (R72), activation (R65) and the ways a port's segments end. -/

namespace Sys2Proof.Machine

/-! ## Stop conditions -/

/-- A stop condition can be decided on its source: the source has a sample record, describes the mode, and the index is
below the mode's value count (R62). -/
def State.condValid (s : State) (c : StopCond) : Bool :=
  (s.port c.source).sample.isSome &&
    match (s.port c.source).modeDesc c.mode with
    | some m => decide (c.index < m.valueCount)
    | none => false

/-- The relations of R62. -/
def StopCond.met (c : StopCond) (v : Int) : Bool :=
  match c.relation with
  | .below => decide (v < c.t1)
  | .above => decide (c.t1 < v)
  | .inside => decide (c.t1 ≤ v ∧ v ≤ c.t2)
  | .outside => decide (v < c.t1 ∨ c.t2 < v)

/-- The sequence number of the source's sample record, absent if it holds no sample: the baseline (R65). -/
def State.baseline (s : State) (c : Option StopCond) : Option (BitVec 16) :=
  c.bind fun x => (s.port x.source).sample.bind SampleRec.seq

/-- A sample update of a port meets a segment's condition (R67). -/
def Segment.metBy (g : Segment) (baseline : Option (BitVec 16)) (p : Port) (r : SampleRec) : Bool :=
  match g.cond with
  | some c =>
    c.source == p && c.mode == r.valuesMode && (baseline.isNone || baseline != r.seq) && c.met (r.scaled.getD c.index 0)
  | none => false

/-! ## Segment notices (R73) -/

/-- Whether an outcome is reported for a segment. -/
def Segment.reports (g : Segment) (o : SegOutcome) : Bool :=
  match o with
  | .done => g.notify
  | .condition => g.notify
  | .lapsed => false
  | _ => true

/-- The position SEGMENT_END reports: absent on a port without an encoder motor. -/
def State.reportedPosition (s : State) (p : Port) : Option (BitVec 32) :=
  if (s.port p).encoderMotor then some (s.unit p).position else none

/-- The SEGMENT_END notice of an ended segment to its issuer. -/
def State.endNotice (s : State) (p : Port) (q : Option PairId) (g : Segment) (o : SegOutcome) (elapsed : Nat) : State :=
  if g.reports o then
    s.notify g.issuer (.segmentEnd ⟨p, q, g.tag, g.work.kind, o, s.reportedPosition p, elapsed⟩)
  else s

/-- The notices of waiting segments, in queue order; they never started, so their time is 0. -/
def State.waitingNotices (s : State) (p : Port) (q : Option PairId) (gs : List Segment) (o : SegOutcome) : State :=
  gs.foldl (fun t g => t.endNotice p q g o 0) s

/-! ## End actions (R72, R96) -/

/-- A motor settles COASTING or BRAKING: outputs set at once, duty 0, no hold. -/
def MotionUnit.settle (m : MotionUnit) (state : MotorState) : MotionUnit :=
  { m with
    motor := state, hold := none
    reg := { m.reg with duty := 0, clamped := false, holdCreep := none } }

/-- A motor holds a position at a hold creep; accumulator and integral are kept. -/
def MotionUnit.holdAt (m : MotionUnit) (position : BitVec 32) (creep : Int) : MotionUnit :=
  { m with motor := .holding, hold := some position, reg := { m.reg with holdCreep := some creep } }

/-- An end action at a hold position and creep. -/
def MotionUnit.endAction (m : MotionUnit) (a : EndAction) (position : BitVec 32) (creep : Int) : MotionUnit :=
  match a with
  | .coast => m.settle .coasting
  | .brake => m.settle .braking
  | .hold => m.holdAt position creep

/-- The hold creep of a speed: the larger of 10 and a sixteenth of it (R93, R96). -/
def creepOf (speed : Int) : Int := max 10 (truncDiv (mag speed) 16)

/-- The hold creep after a segment, or after none (R96). -/
def PortUnit.holdCreep (u : PortUnit) (g : Option Segment) : Int :=
  match g with
  | some g => if g.work.regulated then creepOf g.speed else creepOf u.maxSpeed
  | none => creepOf u.maxSpeed

/-- The target of a segment activated at a position (R65, step 2). -/
def SegWork.target (w : SegWork) (position : BitVec 32) : Option (BitVec 32) :=
  match w with
  | .runBy d => some (position + d)
  | .runTo t => some t
  | _ => none

/-- Where a motor holds after a segment: its target, or the position counter as it stands (R72). -/
def MotionUnit.holdPosition (m : MotionUnit) : BitVec 32 := (m.act.bind Activation.target).getD m.position

/-! ## The ends of a port's segments -/

/-- The time since the active segment's activation. -/
def State.elapsed (s : State) (p : Port) : Nat := ((s.unit p).act.map fun a => s.now - a.start).getD 0

/-- Every segment of a port ends, the active one with one outcome and the waiting ones with another; the motor is left as
it stands. -/
def State.endQueue (s : State) (p : Port) (active waiting : SegOutcome) : State :=
  match (s.unit p).queue with
  | [] => s
  | g :: rest =>
    ((s.endNotice p none g active (s.elapsed p)).waitingNotices p none rest waiting).modUnit p fun m =>
      { m with queue := [], act := none }

/-- The active segment ends with an outcome, the waiting ones end FLUSHED, and its end action applies (R68 ABORT, R69). -/
def State.abortSegment (s : State) (p : Port) (o : SegOutcome) : State :=
  match (s.unit p).queue with
  | [] => s
  | g :: _ =>
    let hold := (s.unit p).holdPosition
    (s.endQueue p o .flushed).modUnit p fun m => m.endAction g.endAction hold ((s.port p).holdCreep (some g))

/-! ## Activation (R65) -/

/-- A value loaded into the ramp accumulator is clamped to its range. -/
def loadAcc (x : Int) : Int := clampMag 32000000 x

/-- The regulator start of R65, step 3. `prev` is the family of the previous active segment, true for regulated. -/
def MotionUnit.regulatorStart (m : MotionUnit) (prev : Option Bool) (regulated : Bool) : Regulator :=
  let r := m.reg
  match m.motor, regulated with
  | .running, true =>
    if prev = some true then r else { r with acc := loadAcc (r.speed * 1000), integral := 0 }
  | .running, false => if prev = some false then r else { r with acc := loadAcc (r.duty * 1000) }
  | .holding, true => { r with acc := loadAcc (r.speed * 1000) }
  | .holding, false => { r with acc := loadAcc (r.duty * 1000) }
  | _, true => { r with acc := loadAcc (r.speed * 1000), integral := 0 }
  | _, false => { r with acc := 0 }

/-- The activation record of a segment that becomes active now (R65, step 2). -/
def State.activation (s : State) (p : Port) (g : Segment) : Activation where
  start := s.now
  baseline := s.baseline g.cond
  target := g.work.target (s.unit p).position
  stall := 0
  phase := .cruise
  settle := 0
  decelDir := 0

/-- The first segment of a port's queue becomes active (R65); one whose condition can no longer be decided ends
SOURCE_LOST at once (log entry 18). -/
def State.activate (s : State) (p : Port) (prev : Option Bool) : State :=
  match (s.unit p).queue with
  | [] => s
  | g :: _ =>
    let t := s.modUnit p fun m => { m with act := some (s.activation p g) }
    if (g.cond.all fun c => s.condValid c) = true then
      t.modUnit p fun m =>
        { m with
          reg := { m.regulatorStart prev g.work.regulated with holdCreep := none }
          motor := .running, hold := none }
    else t.abortSegment p .sourceLost

/-- The active segment ends by its limit, its condition or a stall under END: the next segment becomes active at the same
event, or its end action applies (R71, R72). -/
def State.finishSegment (s : State) (p : Port) (o : SegOutcome) : State :=
  match (s.unit p).queue with
  | [] => s
  | [_] => s.abortSegment p o
  | g :: rest =>
    ((s.endNotice p none g o (s.elapsed p)).modUnit p fun m => { m with queue := rest, act := none }).activate p
      (some g.work.regulated)

end Sys2Proof.Machine
end

