-- ==== Sys2Proof/Machine/PairSegments.lean ====
section
/-! DEFINITION. Shared operations of the pair table (chapter 6): weights and lead (R105), activation (R106) and the ways a
pair's segments end (R110), and the events that act on every port and pair (R67, R69, R75, R77). -/

namespace Sys2Proof.Machine

/-! ## Weights and lead (R105) -/

def PairSegment.lead (g : PairSegment) : Lead := if 0 ≤ g.steer then .a else .b

/-- The weights kA and kB of a steering. -/
def PairSegment.weightA (g : PairSegment) : Int := if 0 ≤ g.steer then 100 else 100 + 2 * g.steer

def PairSegment.weightB (g : PairSegment) : Int := if 0 ≤ g.steer then 100 - 2 * g.steer else 100

def PairRec.portOf (r : PairRec) : Lead → Port
  | .a => r.portA
  | .b => r.portB

def PairRec.leadPort (r : PairRec) (g : PairSegment) : Port := r.portOf g.lead

def PairRec.partnerPort (r : PairRec) (g : PairSegment) : Port := r.portOf g.lead.other

/-! ## Ends -/

def State.modPair (s : State) (q : PairId) (f : PairRec → PairRec) : State := s.setPair q ((s.pairAt q).map f)

def State.pairElapsed (s : State) (r : PairRec) : Nat := (r.act.map fun a => s.now - a.start).getD 0

/-- The notice of an ended pair segment: its lead port and the lead's position (R110). -/
def State.pairNotice (s : State) (q : PairId) (r : PairRec) (g : PairSegment) (o : SegOutcome) (elapsed : Nat) : State :=
  s.endNotice (r.leadPort g) (some q) g.seg o elapsed

/-- A pair's queue is emptied: its activation record is discarded and its correction is 0 (R110). -/
def PairRec.emptied (r : PairRec) : PairRec := { r with queue := [], act := none, corrA := 0, corrB := 0 }

/-- Every segment of a pair ends, the active one with one outcome and the waiting ones with another; the motors are left as
they stand. -/
def State.endPairQueue (s : State) (q : PairId) (active waiting : SegOutcome) : State :=
  match s.pairAt q with
  | none => s
  | some r =>
    match r.queue with
    | [] => s
    | g :: rest =>
      (rest.foldl (fun t h => t.pairNotice q r h waiting 0) (s.pairNotice q r g active (s.pairElapsed r))).modPair q
        PairRec.emptied

/-- Where the lead holds after a pair segment: its lead target after a RUN_BY, its position counter otherwise (R110). -/
def State.pairHold (s : State) (r : PairRec) (g : PairSegment) : BitVec 32 :=
  (r.act.bind PairActivation.target).getD (s.unit (r.leadPort g)).position

/-- The end action of a pair segment on both motors, the lead holding `hold` (R110). -/
def State.pairEndAction (s : State) (r : PairRec) (g : PairSegment) (hold : BitVec 32) : State :=
  let creep := creepOf g.seg.speed
  let t := s.modUnit (r.leadPort g) fun m => m.endAction g.seg.endAction hold creep
  t.modUnit (r.partnerPort g) fun m => m.endAction g.seg.endAction m.position creep

/-- Both motors of a pair settle. -/
def State.settlePair (s : State) (r : PairRec) (state : MotorState) : State :=
  (s.modUnit r.portA (·.settle state)).modUnit r.portB (·.settle state)

/-- The active pair segment ends with an outcome, the waiting ones end FLUSHED, and its end action applies. -/
def State.abortPair (s : State) (q : PairId) (o : SegOutcome) : State :=
  match s.pairAt q with
  | none => s
  | some r =>
    match r.queue with
    | [] => s
    | g :: _ => (s.endPairQueue q o .flushed).pairEndAction r g (s.pairHold r g)

/-! ## Activation (R106) -/

/-- The pair activation record of a segment that becomes active now (R106, step 2). -/
def State.pairActivation (s : State) (r : PairRec) (g : PairSegment) : PairActivation where
  start := s.now
  baseline := s.baseline g.seg.cond
  startA := (s.unit r.portA).position
  startB := (s.unit r.portB).position
  target := g.seg.work.target (s.unit (r.leadPort g)).position
  phase := .cruise
  decelDir := 0
  stallA := 0
  stallB := 0

/-- The shared ramp is carried to a new lead (R106, step 3). -/
def State.carryRamp (s : State) (r : PairRec) (g : PairSegment) (prev : Option Lead) : State :=
  if prev = some g.lead.other then
    let acc := (s.unit (r.partnerPort g)).reg.acc
    s.modUnit (r.leadPort g) fun m => { m with reg := { m.reg with acc := acc } }
  else s

/-- A motor of the pair starts: the lead's accumulator is loaded, the integral kept or cleared by the motor's own state, and
the motor is RUNNING with no hold (R106, steps 3 to 5). -/
def MotionUnit.pairStart (m : MotionUnit) (lead : Bool) (prev : Option Lead) : MotionUnit :=
  let start := m.regulatorStart (prev.map fun _ => true) true
  { m with
    reg := { start with acc := if lead then start.acc else m.reg.acc, holdCreep := none }
    motor := .running, hold := none }

/-- The first segment of a pair's queue becomes active (R106); `prev` is the lead of the previous active segment. -/
def State.activatePair (s : State) (q : PairId) (prev : Option Lead) : State :=
  match s.pairAt q with
  | none => s
  | some r =>
    match r.queue with
    | [] => s
    | g :: _ =>
      let t := s.modPair q fun x => { x with act := some (s.pairActivation r g), corrA := 0, corrB := 0 }
      if (g.seg.cond.all fun c => s.condValid c) = true then
        ((t.carryRamp r g prev).modUnit (r.leadPort g) (·.pairStart true prev)).modUnit (r.partnerPort g)
          (·.pairStart false prev)
      else t.abortPair q .sourceLost

/-- The active pair segment ends DONE, CONDITION or STALLED under END: the next one becomes active at the same event, or
its end action applies to both motors (R110). -/
def State.finishPair (s : State) (q : PairId) (o : SegOutcome) : State :=
  match s.pairAt q with
  | none => s
  | some r =>
    match r.queue with
    | [] => s
    | [_] => s.abortPair q o
    | g :: rest =>
      ((s.pairNotice q r g o (s.pairElapsed r)).modPair q fun x => { x with queue := rest, act := none }).activatePair q
        (some g.lead)

/-- A pair is dissolved: its segments end, both motors settle COASTING and the slot is freed (R10, R111). -/
def State.dissolvePair (s : State) (q : PairId) (o : SegOutcome) : State :=
  match s.pairAt q with
  | none => s
  | some r => ((s.endPairQueue q o o).settlePair r .coasting).setPair q none

/-! ## Events taken by every unit and pair -/

/-- A sample update is offered to the motion units: the active segments that name the port are tested, ports first, then
pairs (R32, R67, R109; log entry 25). -/
def State.testConditions (s : State) (p : Port) (r : SampleRec) : State :=
  let ports := Port.all.foldl (fun t u =>
    match (t.unit u).queue, (t.unit u).act with
    | g :: _, some a => if g.metBy a.baseline p r then t.finishSegment u .condition else t
    | _, _ => t) s
  PairId.all.foldl (fun t q =>
    match t.pairAt q with
    | some ⟨_, _, _, g :: _, some a, _, _⟩ => if g.seg.metBy a.baseline p r then t.finishPair q .condition else t
    | _ => t) ports

/-- The segment's condition names a source port, in a given mode if one is given. -/
def Segment.names (g : Segment) (p : Port) (mode : Option Nat) : Bool :=
  match g.cond with
  | some c => c.source == p && (mode.isNone || mode == some c.mode)
  | none => false

/-- Active segments whose condition can no longer be decided on a port end SOURCE_LOST: all that name it at its detach, or
those in the mode it leaves (R69). Ports in ascending number come first, then pairs: R11's order for a detach, taken for a
mode change too (R37, R38; log entry 25). -/
def State.sourceLost (s : State) (p : Port) (mode : Option Nat) : State :=
  let ports := Port.all.foldl (fun t u =>
    match (t.unit u).queue with
    | g :: _ => if g.names p mode then t.abortSegment u .sourceLost else t
    | [] => t) s
  PairId.all.foldl (fun t q =>
    match t.pairAt q with
    | some r =>
      match r.queue with
      | g :: _ => if g.seg.names p mode then t.abortPair q .sourceLost else t
      | [] => t
    | none => t) ports

/-- A motor or light settles; a unit whose port holds neither stays COASTING (R58). -/
def State.settleUnit (s : State) (p : Port) (state : MotorState) : State :=
  s.modUnit p (·.settle (if (s.port p).drives then state else .coasting))

/-- Every segment of every port and then of every pair ends with an outcome, and every motor settles (R75, R77). -/
def State.stopAll (s : State) (o : SegOutcome) (state : MotorState) : State :=
  let ports := Port.all.foldl (fun t p => (t.endQueue p o o).settleUnit p state) s
  PairId.all.foldl (fun t q => t.endPairQueue q o o) ports

/-- Every unit takes a halt mode. -/
def State.setHalted (s : State) (h : Bool) : State :=
  Port.all.foldl (fun t p => t.modUnit p fun m => { m with halted := h }) s

end Sys2Proof.Machine
end

