-- ==== Sys2Proof/Machine/Claims.lean ====
section
/-! DEFINITION. The claim table (chapter 3): the claim step for ports and pairs, takeover and its settlement, LOCK, UNLOCK
and RELEASE, and the release of a link's claims. -/

namespace Sys2Proof.Machine

/-- A record with holder NONE, unlocked. -/
def Claim.free : Claim := ⟨none, false⟩

/-- A record held by a link, unlocked. -/
def Claim.heldBy (l : LinkId) : Claim := ⟨some l, false⟩

/-- The port is locked and held by the other link. -/
def Claim.lockedAgainst (c : Claim) (l : LinkId) : Bool := c.locked && c.holder == some l.other

/-! ## The claim step for one port (R45, R47, R48) -/

/-- The active segment a takeover ended, and where its motor would hold (R47). -/
structure Settlement where
  seg : Segment
  hold : BitVec 32
  deriving DecidableEq, Repr

/-- A takeover: the segments end TAKEN_OVER, the motor and regulator are left as they stand, the record passes to the
requesting link and the old holder is told (R47, R48). -/
def State.takeover (s : State) (l : LinkId) (p : Port) (code : Byte) : State × Option Settlement :=
  let m := s.unit p
  let ended := m.queue.head?.map fun g => Settlement.mk g m.holdPosition
  let t := (s.endQueue p .takenOver .takenOver).setClaim p (.heldBy l)
  (t.notify l.other (.claimLost ⟨p, none, l, code, m.queue.length⟩), ended)

/-- The claim rule for one port (R45, case 3). -/
def State.claimRule (s : State) (l : LinkId) (p : Port) (code : Byte) : Except Status (State × Option Settlement) :=
  match (s.claim p).holder with
  | none => .ok (s.setClaim p (.heldBy l), none)
  | some h =>
    if h = l then .ok (s, none)
    else if (s.claim p).locked then .error .locked
    else .ok (s.takeover l p code)

/-- The claim step for one port (R45). -/
def State.claimPort (s : State) (l : LinkId) (p : Port) (code : Byte) : Except Status (State × Option Settlement) :=
  if (s.port p).noDevice then .error .noDevice
  else if (s.pairOf p).isSome then .error .paired
  else s.claimRule l p code

/-- The motor of a port taken over takes the end action of the segment that was active (R47). -/
def State.settleClaim (s : State) (p : Port) (e : Option Settlement) : State :=
  match e with
  | some x => s.modUnit p fun m => m.endAction x.seg.endAction x.hold ((s.port p).holdCreep (some x.seg))
  | none => s

/-- A claiming request that names one port: the form stage for the port number, the claim step, and then the request's own
part (R44). -/
def State.claiming (s : State) (r : ReplyTo) (ps : List Byte)
    (body : State → Port → Option Settlement → State) : State :=
  match portAt ps 0 with
  | none => s.answer r .badParam []
  | some p =>
    match s.claimPort r.link p r.code with
    | .error st => s.answer r st []
    | .ok (t, e) => body t p e

/-! ## The claim step for a pair (R52) -/

/-- The active pair segment a pair takeover ended, and where its lead would hold. -/
structure PairSettlement where
  seg : PairSegment
  hold : BitVec 32
  deriving DecidableEq, Repr

def State.setPairClaims (s : State) (r : PairRec) (c : Claim) : State := (s.setClaim r.portA c).setClaim r.portB c

/-- A pair takeover (R52). -/
def State.pairTakeover (s : State) (l : LinkId) (q : PairId) (r : PairRec) (code : Byte) :
    State × Option PairSettlement :=
  let ended := r.queue.head?.map fun g => PairSettlement.mk g (s.pairHold r g)
  let n := r.queue.length
  let t := (s.endPairQueue q .takenOver .takenOver).setPairClaims r (.heldBy l)
  ((t.notify l.other (.claimLost ⟨r.portA, some q, l, code, n⟩)).notify l.other
    (.claimLost ⟨r.portB, some q, l, code, n⟩), ended)

/-- The claim step for a pair (R52): both ports in one step. -/
def State.claimPair (s : State) (l : LinkId) (q : PairId) (r : PairRec) (code : Byte) :
    Except Status (State × Option PairSettlement) :=
  if (s.claim r.portA).lockedAgainst l || (s.claim r.portB).lockedAgainst l then .error .locked
  else
    match (s.claim r.portA).holder with
    | none => .ok (s.setPairClaims r (.heldBy l), none)
    | some h => if h = l then .ok (s, none) else .ok (s.pairTakeover l q r code)

/-- The motors of a pair taken over take the end action of the pair segment that was active (R52). -/
def State.settlePairClaim (s : State) (r : PairRec) (e : Option PairSettlement) : State :=
  match e with
  | some x => s.pairEndAction r x.seg x.hold
  | none => s

/-- A claiming request that names a pair: a pair id outside 0 to 2 or with no record is refused BAD_PARAM (R44). -/
def State.claimingPair (s : State) (r : ReplyTo) (id : Nat)
    (body : State → PairId → PairRec → Option PairSettlement → State) : State :=
  match PairId.ofCode id with
  | none => s.answer r .badParam []
  | some q =>
    match s.pairAt q with
    | none => s.answer r .badParam []
    | some x =>
      match s.claimPair r.link q x r.code with
      | .error st => s.answer r st []
      | .ok (t, e) => body t q x e

/-! ## LOCK (R49) -/

/-- A record with its lock set or cleared, its holder kept. -/
def State.setLocked (s : State) (p : Port) (locked : Bool) : State :=
  s.setClaim p { s.claim p with locked := locked }

def State.lockBody (s : State) (r : ReplyTo) (ps : List Byte) : State :=
  match byteAt ps 0 with
  | 0 => s.claiming r (ps.drop 1) fun t p e => ((t.setLocked p true).settleClaim p e).answer r .ok []
  | 1 =>
    s.claimingPair r (byteAt ps 1) fun t _ x e =>
      (((t.setLocked x.portA true).setLocked x.portB true).settlePairClaim x e).answer r .ok []
  | _ => s.answer r .badParam []

def execLock (l : LinkId) (tag : Byte) (ps : List Byte) (s : State) : Host.Outcome State Fault Refusal :=
  .next (s.serve l tag 0x20 ps fun r t => t.lockBody r ps)

/-! ## UNLOCK and RELEASE (R50, R51) -/

/-- The target of UNLOCK or RELEASE: the port, or the pair with its record; the refusals of R50 otherwise. A pair id without
a record is refused BAD_PARAM (log entry 35). -/
def State.ownTarget (s : State) (l : LinkId) (ps : List Byte) : Except Status (Port ⊕ (PairId × PairRec)) :=
  match claimTarget ps with
  | none => .error .badParam
  | some (.port p) =>
    if (s.pairOf p).isSome then .error .paired
    else if (s.claim p).holder = some l then .ok (.inl p)
    else .error .notHolder
  | some (.pair q) =>
    match s.pairAt q with
    | none => .error .badParam
    | some r =>
      if (s.claim r.portA).holder = some l ∧ (s.claim r.portB).holder = some l then .ok (.inr (q, r))
      else .error .notHolder

def State.unlockBody (s : State) (r : ReplyTo) (ps : List Byte) : State :=
  match s.ownTarget r.link ps with
  | .error st => s.answer r st []
  | .ok (.inl p) => (s.setLocked p false).answer r .ok []
  | .ok (.inr (_, x)) => ((s.setLocked x.portA false).setLocked x.portB false).answer r .ok []

def execUnlock (l : LinkId) (tag : Byte) (ps : List Byte) (s : State) : Host.Outcome State Fault Refusal :=
  .next (s.serve l tag 0x21 ps fun r t => t.unlockBody r ps)

/-- A single port's segments end with an outcome, its motor settles and its record is cleared (R51, R54). -/
def State.freePort (s : State) (p : Port) (o : SegOutcome) (state : MotorState) : State :=
  ((s.endQueue p o o).settleUnit p state).setClaim p .free

/-- A pair's segments end with an outcome, its motors settle and both records are cleared; the pair record stays. -/
def State.freePair (s : State) (q : PairId) (r : PairRec) (o : SegOutcome) (state : MotorState) : State :=
  ((s.endPairQueue q o o).settlePair r state).setPairClaims r .free

def State.releaseBody (s : State) (r : ReplyTo) (ps : List Byte) : State :=
  match s.ownTarget r.link ps with
  | .error st => s.answer r st []
  | .ok (.inl p) => (s.freePort p .released .coasting).answer r .ok []
  | .ok (.inr (q, x)) => (s.freePair q x .released .coasting).answer r .ok []

def execRelease (l : LinkId) (tag : Byte) (ps : List Byte) (s : State) : Host.Outcome State Fault Refusal :=
  .next (s.serve l tag 0x22 ps fun r t => t.releaseBody r ps)

/-! ## Lapse and LEAVE (R54) -/

def LapseAction.motor : LapseAction → MotorState
  | .coast => .coasting
  | .brake => .braking

/-- One port of a lapsing link: released with its pair, if it has one. -/
def State.releasePort (s : State) (l : LinkId) (p : Port) : State :=
  if (s.claim p).holder = some l then
    let state := LapseAction.motor (s.link l).settings.lapseAction
    match s.pairOf p with
    | some q =>
      match s.pairAt q with
      | some r => s.freePair q r .lapsed state
      | none => s
    | none => s.freePort p .lapsed state
  else s

/-- Every claim a link holds is released, in ascending port number (R54). -/
def State.releaseClaims (s : State) (l : LinkId) : State := Port.all.foldl (fun t p => t.releasePort l p) s

end Sys2Proof.Machine
end

