-- ==== Sys2Proof/Machine/Flags.lean ====
section
/-! DEFINITION. What the links show: the count and READY (R174), ATTN (R177), and the flags byte with its sticky and live
flags (R178, section 12.1). -/

namespace Sys2Proof.Machine

/-- The count of a link: requests waiting, requests taken and not answered, and replies waiting (R174). -/
def Link.count (k : Link) : Nat := k.inbound.length + k.taken.length + k.replies.length

/-- READYn is high while the count is below 8 (R174). -/
def Link.ready (k : Link) : Bool := decide (k.count < 8)

/-- ATTNn is high while a reply waits, an event notice waits, or the DATA notices reach the threshold (R177). -/
def Link.attn (k : Link) : Bool :=
  !k.replies.isEmpty || k.notices.any (fun n => !n.isData)
    || decide (k.settings.threshold ≤ (k.notices.filter Notice.isData).length)

/-- The four sticky flags in bits 0 to 3 (section 12.1). -/
def Sticky.bits (f : Sticky) : Nat :=
  f.restarted.toNat + 2 * f.lapseSeen.toNat + 4 * f.requestLost.toNat + 8 * f.noticeLost.toNat

/-- Whether any motion unit is HALTED, the live HALTED flag (R178). -/
def State.anyHalted (s : State) : Bool := Port.all.any fun p => (s.unit p).halted

/-- The flags byte of a link as it stands (R178, section 12.1). -/
def State.flagsByte (s : State) (l : LinkId) : Byte :=
  BitVec.ofNat 8 ((s.link l).sticky.bits + 16 * s.anyHalted.toNat + 32 * s.supply.state.code
    + 128 * s.store.scanning.toNat)

end Sys2Proof.Machine
end

