-- ==== Sys2Proof/Machine/Memory.lean ====
section
/-! DEFINITION. The clip array (R141): 524,288 bytes kept as the sorted list of those that differ from 0xFF, its two
operations, and what it reads as while an operation is in hand or was aborted (R158, log entries 7 and 11). -/

namespace Sys2Proof.Machine

/-- The bytes of the array: 128 sectors of 4096 (R141). -/
def arraySize : Nat := 524288

/-- What a byte that the list does not name reads as: erased (R141). -/
def erasedByte : Byte := 0xFF

/-- The canonical form: addresses strictly rising and inside the array, no entry erased. -/
abbrev Memory.wf (cells : List Host.Cell) : Prop :=
  cells.Pairwise (fun a b => a.1 < b.1) ∧ ∀ c ∈ cells, c.1 < arraySize ∧ c.2 ≠ erasedByte

/-- The byte at an address. -/
def cellAt (cells : List Host.Cell) (a : Nat) : Byte := (cells.lookup a).getD erasedByte

/-- Every byte of a range becomes 0xFF: sector erase (R141). -/
def eraseCells (lo n : Nat) (cells : List Host.Cell) : List Host.Cell :=
  cells.filter fun c => decide (c.1 < lo ∨ lo + n ≤ c.1)

/-- The entry of an address after a program of `data` at `lo`: each 0 bit of the data clears its bit (R141). -/
def programmedCell (lo : Nat) (data : List Byte) (cells : List Host.Cell) (i : Nat) : Option Host.Cell :=
  let b := cellAt cells (lo + i) &&& data.getD i erasedByte
  if b = erasedByte ∨ arraySize ≤ lo + i then none else some (lo + i, b)

/-- Page program (R141) of the bytes `data` from address `lo`. -/
def programCells (lo : Nat) (data : List Byte) (cells : List Host.Cell) : List Host.Cell :=
  (cells.filter fun c => decide (c.1 < lo))
    ++ (List.range data.length).filterMap (programmedCell lo data cells)
    ++ cells.filter fun c => decide (lo + data.length ≤ c.1)

/-- An address lies in an undetermined run. -/
def Undetermined.covers (u : Undetermined) (a : Nat) : Bool := decide (u.addr ≤ a ∧ a < u.addr + u.length)

/-- The byte a read of the array gives: beyond sector 127 it is 0xFF (R157); in a run whose operation has not completed
it is a free value (log entry 11). -/
def Store.byte (t : Store) (a : Nat) : Byte :=
  if arraySize ≤ a then erasedByte
  else
    match t.undet.find? (·.covers a) with
    | some u => Config.freeArrayByte u.number a
    | none => cellAt t.array a

/-- `n` bytes of the array from an address. -/
def Store.bytes (t : Store) (a n : Nat) : List Byte := (List.range n).map fun i => t.byte (a + i)

/-- The run of array bytes an operation may change; none for the info row. -/
def ArrayOp.range : ArrayOp → Option (Nat × Nat)
  | .eraseSector k => some (4096 * k, 4096)
  | .program a data => some (a, data.length)
  | .eraseInfo => none
  | .programInfo _ _ => none

/-- Erases are ERASING, programs PROGRAMMING; the erase of the info row too (R148). -/
def ArrayOp.activity : ArrayOp → Activity
  | .eraseSector _ => .erasing
  | .program _ _ => .programming
  | .eraseInfo => .erasing
  | .programInfo _ _ => .programming

/-- An operation begins, as number `n` (log entry 11): what it may change is undetermined until it completes. -/
def Store.beginOp (n : Nat) (op : ArrayOp) (t : Store) : Store :=
  { t with
    activity := op.activity
    suspending := false
    eraseRun := 0
    opInHand := some op
    undet := match op.range with
      | some (a, len) => ⟨a, len, n⟩ :: t.undet
      | none => t.undet
    infoRow := match op with
      | .eraseInfo => none
      | .programInfo _ _ => none
      | _ => t.infoRow }

/-- An operation completes with its full effect (R141, R142). -/
def Store.applyOp (op : ArrayOp) (t : Store) : Store :=
  match op with
  | .eraseSector k =>
    { t with
      array := eraseCells (4096 * k) 4096 t.array
      undet := t.undet.filter fun u => decide (u.addr < 4096 * k ∨ 4096 * k + 4096 ≤ u.addr) }
  | .program a data =>
    { t with
      array := programCells a data t.array
      undet := t.undet.eraseP fun u => decide (u.addr = a ∧ u.length = data.length) }
  | .eraseInfo => { t with infoRow := none }
  | .programInfo b lock => { t with infoRow := some (b, lock) }

end Sys2Proof.Machine
end

