-- ==== Sys2Proof/Machine/Arbiter.lean ====
section
/-! DEFINITION. The store arbiter's reads (R157) and the buffers they fill (R164): blocks, halves, buffered samples, the
placing and withdrawing of fetches, and the grant of the array to the next pending read. -/

namespace Sys2Proof.Machine

/-! ## Blocks and halves (R164) -/

/-- Samples in a block of 256 bytes (R164). -/
def blockSamples : ClipFormat → Nat
  | .pcm8 => 256 | .pcm16 => 128

/-- The sample index: the position shifted right by 16 (R165). -/
def Voice.index (x : Voice) : Nat := x.position / 65536

def Voice.half (x : Voice) : Half → HalfBuf
  | .h0 => x.half0 | .h1 => x.half1

def Voice.setHalf (x : Voice) (h : Half) (b : HalfBuf) : Voice :=
  match h with
  | .h0 => { x with half0 := b }
  | .h1 => { x with half1 := b }

/-- The half holds or awaits a block. -/
def HalfBuf.has (b : HalfBuf) (block : Nat) : Bool := b.fill != .empty && b.block == block

/-- The half holds a block with its bytes. -/
def HalfBuf.holds (b : HalfBuf) (block : Nat) : Bool := b.fill == .filled && b.block == block

/-- A half that awaits a block. -/
def HalfBuf.awaiting (block : Nat) : HalfBuf := ⟨block, .fetching, []⟩

/-- The next block after block `cur`, for a clip of format `f` and `n` samples (R164). -/
def nextBlock (f : ClipFormat) (n : Nat) (region : Option (Nat × Nat)) (loops cur : Nat) : Option Nat :=
  let last := (n - 1) / blockSamples f
  match region with
  | some (ls, le) =>
    if 0 < loops ∧ (le - 1) / blockSamples f = cur then some (ls / blockSamples f)
    else if cur = last then none
    else some (cur + 1)
  | none =>
    if cur = last then (if 0 < loops then some 0 else none)
    else some (cur + 1)

/-- The block the voice needs after block `cur`; none for a tone. -/
def Voice.next (x : Voice) (cur : Nat) : Option Nat :=
  match x.source with
  | some (.clip _ _ f n region) => nextBlock f n region x.loops cur
  | _ => none

/-- The block to fetch beside block `cur`: when the next block is the current one, no second block is needed (R164). -/
def Voice.wanted (x : Voice) (cur : Nat) : Option Nat := (x.next cur).filter (· != cur)

/-- The voice's buffered samples (R164, log entry 26). -/
def Voice.buffered (x : Voice) : Nat :=
  match x.state, x.source with
  | .playing, some (.clip _ _ f _ _) =>
    let pb := blockSamples f
    let cur := x.half x.playing
    let rest := if cur.holds (x.index / pb) then (cur.block + 1) * pb - x.index else 0
    let ahead :=
      match x.wanted cur.block with
      | some b => if (x.half x.playing.other).holds b then pb else 0
      | none => 0
    rest + ahead
  | _, _ => 0

/-! ## Granting the array to a read -/

/-- Of the voices with a pending fetch, the one with the fewest buffered samples, the lower number on equal counts. -/
def State.nextFetch (s : State) : Option VoiceId :=
  VoiceId.all.foldl (fun best v =>
    if (s.store.fetches.get v).isNone then best
    else match best with
      | none => some v
      | some w => if (s.voice v).buffered < (s.voice w).buffered then some v else best) none

/-- Whether a read is pending. -/
def Store.readWaits (t : Store) : Bool :=
  VoiceId.all.any (fun v => (t.fetches.get v).isSome) || !t.reads.isEmpty

/-- The array is granted to the next pending read, fetches first; none when no read is pending (R157). -/
def State.grantRead (s : State) : Option State :=
  match s.nextFetch with
  | some v =>
    (s.store.fetches.get v).map fun f =>
      s.modStore fun t =>
        { t with activity := .reading, reading := some (.fetch v f), fetches := t.fetches.set v none }
  | none =>
    match s.store.reads with
    | r :: rest =>
      some (s.modStore fun t => { t with activity := .reading, reading := some (.clipRead r), reads := rest })
    | [] => none

/-- What the arbiter does when a read becomes pending, by the array's activity (R157). -/
def State.readArrives (s : State) : State :=
  match s.store.activity with
  | .idle => s.grantRead.getD s
  | .eraseSuspended => s.grantRead.getD s
  | .erasing =>
    if 1 ≤ s.store.eraseRun then s.modStore fun t => { t with suspending := true } else s
  | .reading => s
  | .programming => s

/-! ## Placing and withdrawing fetches -/

/-- The array is serving a fetch of the voice. -/
def Store.servesVoice (t : Store) (v : VoiceId) : Bool :=
  match t.reading with
  | some (.fetch w _) => w == v
  | _ => false

/-- The fetch of a voice that is due: one for a half that awaits a block. -/
def Voice.dueFetch (x : Voice) : Option Fetch :=
  match x.source with
  | some (.clip _ first _ _ _) =>
    let fetchFor (h : Half) : Option Fetch :=
      let b := x.half h
      if b.fill = .fetching then some ⟨h, b.block, 4096 * first + 32 + 256 * b.block⟩ else none
    (fetchFor x.playing).or (fetchFor x.playing.other)
  | _ => none

/-- A due fetch is placed with the arbiter, unless one of the voice is already pending or being read: it is then placed
when that one completes (R164). -/
def State.placeFetch (s : State) (v : VoiceId) : State :=
  if (s.store.fetches.get v).isSome || s.store.servesVoice v then s
  else
    match (s.voice v).dueFetch with
    | some f => (s.modStore fun t => { t with fetches := t.fetches.set v (some f) }).readArrives
    | none => s

/-- A fetch of the voice that is pending is withdrawn (R157). -/
def State.withdrawPending (s : State) (v : VoiceId) : State :=
  s.modStore fun t => { t with fetches := t.fetches.set v none }

/-- The fetches of a voice that becomes FREE: a pending one is withdrawn, and the bytes of one being read are dropped at
its completion (log entry 22). -/
def State.withdrawFetch (s : State) (v : VoiceId) : State :=
  s.modStore fun t =>
    { t with
      fetches := t.fetches.set v none
      reading := if t.servesVoice v then some .dead else t.reading }

/-- A CLIP_READ is placed with the arbiter (R156, R157). -/
def State.placeRead (s : State) (r : ClipRead) : State :=
  (s.modStore fun t => { t with reads := t.reads ++ [r] }).readArrives

/-- Half `h` of a voice is set to await a block, and the fetch is placed (R164). -/
def State.fetchInto (s : State) (v : VoiceId) (h : Half) (block : Nat) : State :=
  (s.setVoice v ((s.voice v).setHalf h (.awaiting block))).placeFetch v

/-- The next block is fetched into the half that is not the playing half, where neither half holds or awaits it. -/
def State.fetchNext (s : State) (v : VoiceId) : State :=
  let x := s.voice v
  match x.wanted (x.half x.playing).block with
  | some b => if (x.half x.playing.other).has b then s else s.fetchInto v x.playing.other b
  | none => s

/-- A fetch of a voice completes: its half becomes FILLED with the bytes read, a STARTING voice becomes PLAYING, and what
falls due is placed (R164). The bytes of a fetch whose half no longer awaits its block are dropped. -/
def State.fetchDone (s : State) (v : VoiceId) (f : Fetch) : State :=
  let x := s.voice v
  if (x.half f.half).fill = .fetching ∧ (x.half f.half).block = f.block then
    let filled := x.setHalf f.half ⟨f.block, .filled, s.store.bytes f.addr 256⟩
    let y := if x.state = .starting ∧ f.half = x.playing then { filled with state := .playing } else filled
    let t := s.setVoice v y
    if f.half = x.playing then (t.fetchNext v).placeFetch v else t.placeFetch v
  else s.placeFetch v

end Sys2Proof.Machine
end

