-- ==== Sys2Proof/Machine/Jobs.lean ====
section
/-! DEFINITION. Shared operations of the clip store: protection (R143), directory and free sectors (R146), the start-up
scan (R147), the job queue with its completions (R148, R149) and abandonment (R155). -/

namespace Sys2Proof.Machine

/-! ## Protection (R143) -/

/-- The B and the lock an INFO job carries. -/
def JobKind.infoOf : JobKind → Option (Nat × Bool)
  | .info b lock => some (b, lock)
  | _ => none

/-- The values of the INFO jobs queued or in progress, oldest first. -/
def Store.infoJobs (t : Store) : List (Nat × Bool) := t.jobs.filterMap fun j => j.kind.infoOf

/-- The check boundary: the largest of the held B and every B an INFO job carries. -/
def Store.checkBoundary (t : Store) : Nat := t.infoJobs.foldl (fun m x => max m x.1) t.heldB

/-- The standing values: those of the newest INFO job, or the held ones (R143, R144). -/
def Store.standing (t : Store) : Nat × Bool := t.infoJobs.getLast?.getD (t.heldB, t.heldLock)

/-! ## Directory (R146) -/

def Store.entry (t : Store) (id : Nat) : Option DirEntry := t.directory.find? fun e => e.id == id

def DirEntry.covers (e : DirEntry) (sector : Nat) : Bool := decide (e.first ≤ sector ∧ sector < e.first + e.count)

/-- A sector is free when it is at or above B and no entry's span covers it. -/
def Store.sectorFree (t : Store) (k : Nat) : Bool :=
  decide (t.heldB ≤ k) && !t.directory.any (·.covers k)

def Store.freeSectors (t : Store) : Nat := ((List.range 128).filter t.sectorFree).length

/-- The WRITING or ABANDONED entry; at most one stands (R143). -/
def Store.openEntry (t : Store) : Option DirEntry := t.directory.find? fun e => e.state != .ready

def Store.writing (t : Store) : Option DirEntry := t.directory.find? fun e => e.state == .writing

def Store.abandonedEntry (t : Store) : Option DirEntry := t.directory.find? fun e => e.state == .abandoned

/-- The directory is kept in ascending id (R156 reports it so). -/
def insertEntry (e : DirEntry) : List DirEntry → List DirEntry
  | [] => [e]
  | d :: rest => if e.id < d.id then e :: d :: rest else d :: insertEntry e rest

def Store.mapEntry (t : Store) (id : Nat) (f : DirEntry → DirEntry) : Store :=
  { t with directory := t.directory.map fun e => if e.id = id then f e else e }

def Store.dropEntry (t : Store) (id : Nat) : Store :=
  { t with directory := t.directory.filter fun e => e.id != id }

/-! ## The start-up scan (R147) -/

/-- No undetermined byte lies in the 32 bytes at an address: a header an aborted operation touched is never entered
(R141, R158). -/
def Store.headerWhole (t : Store) (a : Nat) : Bool :=
  !t.undet.any fun u => decide (u.addr < a + 32 ∧ a < u.addr + u.length)

/-- The entry the scan makes at sector `k`, if its header is valid and sealed, its span lies in the array and its id is
not yet entered. -/
def Store.scanSector (t : Store) (k : Nat) (entered : List DirEntry) : Option DirEntry :=
  if t.headerWhole (4096 * k) then
    match readHeader (t.bytes (4096 * k) 32) with
    | some (id, c, count, sealByte) =>
      if sealByte = 0 ∧ k + count ≤ 128 ∧ (entered.any fun e => e.id == id) = false then
        some ⟨id, .ready, k, count, c, false⟩
      else none
    | none => none
  else none

/-- The scan from sector `k` upward, `fuel` sectors at most. After a clip passed over it goes on at the next sector, so a
valid, sealed header inside such a clip's span is entered (log entry 50). -/
def Store.scanFrom (t : Store) : Nat → Nat → List DirEntry → List DirEntry
  | 0, _, entered => entered
  | fuel + 1, k, entered =>
    if 128 ≤ k then entered
    else
      match t.scanSector k entered with
      | some e => t.scanFrom fuel (k + max 1 e.count) (insertEntry e entered)
      | none => t.scanFrom fuel (k + 1) entered

def Store.scan (t : Store) : List DirEntry := t.scanFrom 128 0 []

/-! ## The job queue (R148) -/

/-- All four places of the job queue are taken. -/
def Store.jobsFull (t : Store) : Bool := decide (4 ≤ t.jobs.length)

/-- The operations of a job, in order (R148). -/
def JobKind.work : JobKind → List ArrayOp
  | .prepare first count header =>
    ((List.range count).map fun i => ArrayOp.eraseSector (first + i)) ++ [.program (4096 * first) header]
  | .page addr data _ => [.program addr data]
  | .seal first lastPage =>
    (lastPage.map fun p => ArrayOp.program p.1 p.2).toList ++ [.program (4096 * first + 31) [0]]
  | .remove first => [.eraseSector first]
  | .info b lock => [.eraseInfo, .programInfo b lock]

def State.queueJob (s : State) (j : Job) : State := s.modStore fun t => { t with jobs := t.jobs ++ [j] }

/-- An operation begins in the array; it takes the next free value's number (log entry 11). -/
def State.beginOp (s : State) (op : ArrayOp) : State :=
  (s.modStore (Store.beginOp s.freeCount op)).bumpFree

/-- The job at the head starts with its first operation. -/
def State.startJob (s : State) : State :=
  match s.store.jobs with
  | j :: _ =>
    match j.kind.work with
    | op :: rest => (s.modStore fun t => { t with jobRunning := true, work := rest }).beginOp op
    | [] => s
  | [] => s

/-- What a completed job does to the directory, the write context and the held values, and its reply (R149). A first sector
is sent in one byte (log entry 30). -/
def Store.jobEffect (t : Store) (j : Job) : Store × Status × List Byte :=
  let id := j.clip.getD 0
  match j.kind with
  | .prepare first count _ => (t, .ok, byteOf id ++ byteOf first ++ byteOf count)
  | .page _ _ pointer => (t, .ok, le4 pointer)
  | .seal first _ =>
    ({ t.mapEntry id fun e => { e with state := .ready } with ctx := none }, .ok,
      byteOf id ++ byteOf first ++ byteOf (((t.entry id).map DirEntry.count).getD 0))
  | .remove _ => (t.dropEntry id, .ok, [])
  | .info b lock => ({ t with heldB := b, heldLock := lock }, .ok, byteOf b ++ flagByte lock)

/-- The job in progress completes: it leaves the queue, has its effect and is answered; a job of an abandoned clip has no
effect and is answered CLIP_STATE (R149, R155). -/
def State.completeJob (s : State) : State :=
  match s.store.jobs with
  | j :: rest =>
    let t := s.modStore fun t => { t with jobs := rest, jobRunning := false }
    if j.abandoned then t.answer j.dest .clipState []
    else
      let (u, st, payload) := t.store.jobEffect j
      (t.setStore u).answer j.dest st payload
  | [] => s

/-- The operation in hand has completed or a read has: pending reads come first; with none, a suspended erase resumes, its
1 ms of progress counted afresh, or the job in progress goes on with its next operation, or completes after its last;
otherwise the array is IDLE (R157; log entry 21). -/
def State.goOn (s : State) : State :=
  match s.grantRead with
  | some t => t
  | none =>
    match s.store.opInHand, s.store.work with
    | some _, _ => s.modStore fun t => { t with activity := .erasing, suspending := false, eraseRun := 0 }
    | none, op :: rest => (s.modStore fun t => { t with work := rest }).beginOp op
    | none, [] =>
      (if s.store.jobRunning then s.completeJob else s).modStore fun t => { t with activity := .idle }

/-- The operation in hand takes its full effect. -/
def State.finishOp (s : State) (op : ArrayOp) : State :=
  s.modStore fun t => { t.applyOp op with opInHand := none, eraseRun := 0 }

/-- An erase or program completes: the cleanup ends with its erase, its entry leaving the directory, and the array goes on
(R149, R155, R157). -/
def State.opComplete (s : State) (op : ArrayOp) : State :=
  let t := s.finishOp op
  if t.store.cleanup then
    let u := match t.store.abandonedEntry with
      | some e => t.modStore fun st => { st.dropEntry e.id with cleanup := false }
      | none => t.modStore fun st => { st with cleanup := false }
    u.goOn
  else t.goOn

/-! ## Abandonment (R155) -/

/-- The jobs of the queue that an abandonment keeps: all but those of the clip, one in progress kept and marked. -/
def keepJobs (id : Nat) (running : Bool) : List Job → List Job
  | [] => []
  | j :: rest =>
    let others := rest.filter fun i => i.clip != some id
    if j.clip = some id then (if running then { j with abandoned := true } :: others else others)
    else j :: others

/-- The jobs of the queue that an abandonment removes. -/
def dropJobs (id : Nat) (running : Bool) : List Job → List Job
  | [] => []
  | j :: rest =>
    let mine := rest.filter fun i => i.clip == some id
    if j.clip = some id ∧ running = false then j :: mine else mine

/-- A WRITING clip is abandoned: its queued jobs are removed and answered CLIP_STATE, the one in progress excepted; the
entry becomes ABANDONED and the write context is released. -/
def State.abandonClip (s : State) (id : Nat) : State :=
  let gone := dropJobs id s.store.jobRunning s.store.jobs
  let t := s.modStore fun t => { t with jobs := keepJobs id t.jobRunning t.jobs }
  let u := gone.foldl (fun st j => st.answer j.dest .clipState []) t
  u.modStore fun t => { t.mapEntry id fun e => { e with state := .abandoned } with ctx := none }

/-- A link lapses or leaves: the clip it is writing is abandoned, and its CLIP_READs not yet served are withdrawn. -/
def State.dropStoreWork (s : State) (l : LinkId) : State :=
  let t := match s.store.ctx with
    | some c => if c.owner = l then s.abandonClip c.id else s
    | none => s
  t.modStore fun st => { st with reads := st.reads.filter fun r => r.dest.link != l }

/-! ## The write context's page (R150, R152) -/

def freshPage : List Byte := List.replicate 256 0xFF

/-- The page of a sample data offset, and the offset's place in it: the header takes the first 32 bytes. -/
def pageOf (offset : Nat) : Nat := (32 + offset) / 256

def placeOf (offset : Nat) : Nat := (32 + offset) % 256

/-- Bytes entered in a page buffer from a place on. -/
def enterBytes (page : List Byte) (place : Nat) (data : List Byte) : List Byte :=
  page.take place ++ data ++ page.drop (place + data.length)

/-- The first place of a page that holds sample data: 32 in the first page, 0 in the others (R148). -/
def firstPlace (page : Nat) : Nat := if page = 0 then 32 else 0

/-- The operation that programs places `firstPlace` to `upTo` of page `page` of a clip from its buffer. -/
def pageBytes (first page upTo : Nat) (buffer : List Byte) : Nat × List Byte :=
  (4096 * first + 256 * page + firstPlace page, (buffer.take upTo).drop (firstPlace page))

end Sys2Proof.Machine
end

