-- ==== Sys2Proof/Machine/Voices.lean ====
section
/-! DEFINITION. Shared operations of the sound engine: ending, allocating and starting voices (R162, R163, R168), the
steps of clip and tone voices (R165 to R167) and the mixer's arithmetic (R169). -/

namespace Sys2Proof.Machine

/-! ## Ending (R168) -/

/-- A voice is busy while it is STARTING or PLAYING (R160). -/
def Voice.busy (x : Voice) : Bool := x.state != .free

def Source.name : Source → SoundName
  | .clip id _ _ _ _ => .clip id
  | .tone f => .tone f

/-- The VOICE_END notice of a voice and the link it goes to, if the end produces one. -/
def Voice.endNotice (v : VoiceId) (o : VoiceOutcome) (x : Voice) : Option (LinkId × Notice) :=
  match x.owner, x.source with
  | some (.link l), some src =>
    if x.report = true ∧ (o ≠ .done ∨ x.notify = true) then some (l, .voiceEnd ⟨v, x.tag, src.name, o, x.underrun⟩)
    else none
  | _, _ => none

/-- A busy voice ends: its fetch is withdrawn, its halves become EMPTY, it becomes FREE, and its owner is told. -/
def State.endVoice (s : State) (v : VoiceId) (o : VoiceOutcome) : State :=
  let x := s.voice v
  let t := (s.withdrawFetch v).setVoice v .unused
  match x.endNotice v o with
  | some (l, n) => t.notify l n
  | none => t

/-- Every busy voice ends, in voice order (R120). -/
def State.endVoices (s : State) (o : VoiceOutcome) : State :=
  VoiceId.all.foldl (fun t v => if (t.voice v).busy then t.endVoice v o else t) s

/-- A link lapses or leaves: the voices it owns play out their passes and report nothing (R168). The next block of a voice
may change with its loop count (R164). -/
def State.orphanVoices (s : State) (l : LinkId) : State :=
  VoiceId.all.foldl (fun t v =>
    let x := t.voice v
    if x.busy = true ∧ x.owner = some (.link l) then
      let u := t.setVoice v { x with loops := 0, report := false }
      match x.state, x.source with
      | .playing, some (.clip _ _ f _ _) =>
        if (x.half x.playing).holds (x.index / blockSamples f) then u.fetchNext v else u
      | _, _ => u
    else t) s

/-! ## Allocation and start (R162, R163) -/

/-- The lowest-numbered FREE voice. -/
def State.freeVoice (s : State) : Option VoiceId := VoiceId.all.find? fun v => !(s.voice v).busy

/-- The busy voice a sound of a priority steals: lowest priority, then smallest start order (R162), also one that a PLAY of the
other link has just started (log entry 53). -/
def State.stealable (s : State) (priority : Nat) : Option VoiceId :=
  VoiceId.all.foldl (fun best v =>
    let x := s.voice v
    if priority < x.priority then best
    else match best with
      | none => some v
      | some w =>
        let y := s.voice w
        if x.priority < y.priority ∨ (x.priority = y.priority ∧ x.order.toNat < y.order.toNat) then some v
        else best) none

/-- A voice for a sound of a priority, a stolen one ended STOLEN (R162); none when there is no voice. -/
def State.allocate (s : State) (priority : Nat) : Option (VoiceId × State) :=
  match s.freeVoice with
  | some v => some (v, s)
  | none => (s.stealable priority).map fun v => (v, s.endVoice v .stolen)

/-- The step of a rate: rate × 65536 / 16000 (R163). -/
def rateStep (rate : Nat) : Nat := rate * 65536 / 16000

/-- What a sound is started with (R163). -/
structure Start where
  owner : Owner
  tag : Option Byte
  priority : Nat
  gain : Nat
  notify : Bool
  loops : Nat
  deriving DecidableEq, Repr

/-- The voice record of a clip at its start: STARTING, half 0 awaiting block 0 (R163). -/
def clipVoice (a : Start) (order : BitVec 32) (rate : Nat) (e : DirEntry) : Voice :=
  { Voice.unused with
    state := .starting, owner := some a.owner, tag := a.tag, report := a.owner != .supply, priority := a.priority
    order := order, gain := a.gain
    source := some (.clip e.id e.first e.clip.format e.clip.samples e.clip.region)
    step := rateStep rate, loops := a.loops, notify := a.notify
    half0 := .awaiting 0 }

/-- The voice record of a tone at its start: PLAYING at once (R163). -/
def toneVoice (a : Start) (order : BitVec 32) (freq duration : Nat) : Voice :=
  { Voice.unused with
    state := .playing, owner := some a.owner, tag := a.tag, report := a.owner != .supply, priority := a.priority
    order := order, gain := a.gain, source := some (.tone freq), notify := a.notify, left := duration * 16 }

/-- A voice is started: it takes the start counter's value, which increases by one. -/
def State.startVoice (s : State) (v : VoiceId) (make : BitVec 32 → Voice) : State :=
  let t := s.setVoice v (make s.sound.startCount)
  t.setSound { t.sound with startCount := t.sound.startCount + 1 }

/-- A clip voice is started and its fetch of block 0 is placed. -/
def State.startClip (s : State) (v : VoiceId) (a : Start) (rate : Nat) (e : DirEntry) : State :=
  (s.startVoice v fun n => clipVoice a n rate e).placeFetch v

def State.startTone (s : State) (v : VoiceId) (a : Start) (freq duration : Nat) : State :=
  s.startVoice v fun n => toneVoice a n freq duration

/-- The READY entry of a clip id that has no deletion mark (R146). -/
def Store.readyClip (t : Store) (id : Nat) : Option DirEntry :=
  t.directory.find? fun e => e.id == id && e.state == .ready && !e.marked

/-! ## Stepping (R165 to R167) -/

/-- The sample of an index in the bytes of its block (R165). -/
def sampleIn (f : ClipFormat) (data : List Byte) (index : Nat) : Int :=
  match f with
  | .pcm8 => signedOf 8 (byteAt data (index % 256)) * 256
  | .pcm16 => signedOf 16 (wordAt data (2 * (index % 128)))

/-- How often a pass of `len` samples ending at `bound` is taken off an index at or above it, with the loops remaining
(255 is endless): R165, steps 3 and 4. -/
def passes (index bound len loops : Nat) : Nat :=
  if index < bound then 0
  else if loops = 255 then (index - bound) / len + 1
  else min loops ((index - bound) / len + 1)

/-- Position and loops remaining after the passes are taken off. -/
def takePasses (pos loops bound len : Nat) : Nat × Nat :=
  let k := passes (pos / 65536) bound len loops
  (pos - k * len * 65536, if loops = 255 then 255 else loops - k)

/-- The advance, loop and repeat of R165 (steps 2 to 4): the new position and loops remaining. -/
def advance (pos step loops n : Nat) (region : Option (Nat × Nat)) : Nat × Nat :=
  match region with
  | some (ls, le) => takePasses (pos + step) loops le (le - ls)
  | none => takePasses (pos + step) loops n n

/-- The half in which a block is FILLED, the playing half first. -/
def Voice.halfWith (x : Voice) (block : Nat) : Option Half :=
  if (x.half x.playing).holds block then some x.playing
  else if (x.half x.playing.other).holds block then some x.playing.other
  else none

/-- Play moves into the half that holds the current index's block; the half left becomes EMPTY and the next block's fetch
for it is placed (R164, R165 step 1). -/
def State.enterHalf (s : State) (v : VoiceId) (h : Half) : State :=
  let x := s.voice v
  if h = x.playing then s
  else (s.setVoice v { x.setHalf x.playing .none with playing := h }).fetchNext v

/-- R166: the voice lacks its block; the block's fetch is placed if neither half awaits it. -/
def State.underrunVoice (s : State) (v : VoiceId) (block : Nat) : State :=
  let x := s.voice v
  let t := s.setVoice v { x with underrun := min 65535 (x.underrun + 1) }
  if x.half0.has block || x.half1.has block then t
  else (t.withdrawPending v).fetchInto v x.playing.other block

/-- The gain-scaled term of a sample in the mix: sample × gain / 256, toward minus infinity (R169, step 2). -/
def mixTerm (sample : Int) (gain : Nat) : Int := floorDiv (sample * gain) 256

/-- One output sample of a PLAYING clip voice: the state after it and its term in the mix (R165, R166). -/
def State.stepClip (s : State) (v : VoiceId) (f : ClipFormat) (n : Nat) (region : Option (Nat × Nat)) : State × Int :=
  let x := s.voice v
  let index := x.index
  match x.halfWith (index / blockSamples f) with
  | none => (s.underrunVoice v (index / blockSamples f), 0)
  | some h =>
    let t := s.enterHalf v h
    let y := t.voice v
    let term := mixTerm (sampleIn f (y.half h).data index) y.gain
    let (pos, loops) := advance y.position y.step y.loops n region
    let u := t.setVoice v { y with position := pos, loops := loops }
    if n ≤ pos / 65536 then (u.endVoice v .done, term)
    else if loops ≠ y.loops ∧ pos / 65536 / blockSamples f = (y.half h).block then (u.fetchNext v, term)
    else (u, term)

/-- The phase step of a tone: frequency × 65536 / 16000 (R167). -/
def phaseStep (freq : Nat) : Nat := freq * 65536 / 16000

/-- One output sample of a PLAYING tone voice (R167). -/
def State.stepTone (s : State) (v : VoiceId) (freq : Nat) : State × Int :=
  let x := s.voice v
  let term := mixTerm (if x.phase < 32768 then 8192 else -8192) x.gain
  let t := s.setVoice v { x with phase := (x.phase + phaseStep freq) % 65536, left := x.left - 1 }
  (if x.left - 1 = 0 then t.endVoice v .done else t, term)

/-- One output sample of a voice; a STARTING or FREE voice produces none (R169, step 1). -/
def State.stepVoice (s : State) (v : VoiceId) : State × Int :=
  match (s.voice v).state, (s.voice v).source with
  | .playing, some (.clip _ _ f n region) => s.stepClip v f n region
  | .playing, some (.tone freq) => s.stepTone v freq
  | _, _ => (s, 0)

/-- The effective volume (R169, step 3). -/
def State.effectiveVolume (s : State) : Int := min (s.sound.master : Int) s.supply.volCeil

/-- The speaker compare value of a sum at an effective volume (R169, steps 4 and 5). -/
def speakerCompare (acc eff : Int) : Nat :=
  (truncDiv (clampMag 32767 (floorDiv (acc * eff) 256) + 32768) 64).toNat

/-- The compare value SPKN is driven with (R169, step 5). -/
def Sound.speakerN (n : Sound) : Nat := 1024 - n.speaker

end Sys2Proof.Machine
end

