-- ==== Sys2Proof/Machine/Links.lean ====
section
/-! DEFINITION. The control links (chapter 11): transfers and framing (R173, R174, R176), link states and lapse (R179,
R180), and the requests of the links themselves: IDENTIFY, SET_LINK, CLEAR_FLAGS, LEAVE, RESET_ARM, and the requests that
no block takes. -/

namespace Sys2Proof.Machine

/-! ## Transfers (R176) -/

/-- What the outbound arbiter picks: the head of the reply queue, else of the notice queue, else FILLER. -/
def Link.pick (k : Link) (flags : Byte) : Picked × List Byte :=
  match k.replies, k.notices with
  | r :: _, _ => (.reply, r.bytes flags)
  | [], .data d :: _ => (.data d.entry, (Notice.data d).message flags)
  | [], n :: _ => (.event, n.message flags)
  | [], [] => (.filler, fillerMessage flags)

/-- The byte the device sends on SDOn as byte `i` of a transfer: the picked message, and zero bytes after its last byte
until SELn rises (R176). -/
def Transfer.sdoByte (t : Transfer) (i : Nat) : Byte := t.bytes.getD i 0

/-- SELn falls: the message is picked and its flags byte formed. -/
def State.selFallStep (s : State) (l : LinkId) : State :=
  match (s.link l).transfer with
  | some _ => s
  | none =>
    s.modLink l fun k =>
      { k with transfer := some ⟨(k.pick (s.flagsByte l)).1, (k.pick (s.flagsByte l)).2, true, false, false⟩ }

def execSelFall (l : LinkId) (s : State) : Host.Outcome State Fault Refusal := .next (s.selFallStep l)

/-- The picked message leaves its queue if all its bytes were clocked out, unless it was replaced meanwhile, has already
left, or a reset struck (R134, R176, R182). -/
def Link.removePicked (k : Link) (t : Transfer) (clocked : Nat) : Link :=
  if t.held = true ∧ t.replaced = false ∧ t.aborted = false ∧ t.bytes.length ≤ clocked then
    match t.picked with
    | .reply => { k with replies := k.replies.drop 1 }
    | .event => { k with notices := k.notices.drop 1 }
    | .data _ => { k with notices := k.notices.drop 1 }
    | .filler => k
  else k

/-- A frame arrival acts on the link state (R179). An entry to ACTIVE starts with the frame mark clear (log entry 49). -/
def Link.frameArrives (k : Link) : Link :=
  match k.state with
  | .idle => { k with state := .active, quiet := 0, frameMark := false, ageTimer := some k.settings.interval }
  | .active => { k with frameMark := true }
  | .lapsed =>
    { k with
      state := .active, quiet := 0, frameMark := false, ageTimer := some k.settings.interval
      sticky := { k.sticky with lapseSeen := true } }

def Link.loseRequest (k : Link) : Link := { k with sticky := { k.sticky with requestLost := true } }

/-- What a frame carries (R173). -/
inductive Frame where
  | lost
  | fetch
  | request (r : Request)
  deriving DecidableEq, Repr

/-- The request of a tag, a code and parameters; a frame of L = 1 has no code. -/
def requestOf : List Byte → Request
  | [] => ⟨0, none, []⟩
  | [tag] => ⟨tag, none, []⟩
  | tag :: code :: ps => ⟨tag, some code, ps⟩

/-- The judging of a frame from the whole bytes clocked (R173). A transfer that ends in the middle of a byte is incomplete,
also when that byte is an extra one (log entry 48). -/
def judgeFrame (clocked : List Byte) (midByte : Bool) : Frame :=
  match clocked with
  | [] => .lost
  | len :: body =>
    if midByte = true ∨ 63 < len.toNat ∨ body.length < len.toNat then .lost
    else if len = 0 then .fetch
    else .request (requestOf (body.take len.toNat))

/-- A complete request is accepted below a count of 8, or discarded (R174). -/
def Link.acceptFrame (k : Link) (f : Frame) : Link :=
  match f with
  | .lost => k.loseRequest
  | .fetch => k
  | .request r => if k.count < 8 then { k with inbound := k.inbound ++ [r] } else k.loseRequest

/-- SELn rises: the outbound removal, the link activity, and then the judging of the frame (R173, R174, R176, R179). The
frame of a transfer that a reset struck is discarded without a flag (R182; log entry 17). -/
def Link.selRise (k : Link) (clocked : List Byte) (midByte : Bool) : Link :=
  match k.transfer with
  | none => k
  | some t =>
    let j := ({ k.removePicked t clocked.length with transfer := none }).frameArrives
    if t.aborted then j else j.acceptFrame (judgeFrame clocked midByte)

def execSelRise (l : LinkId) (clocked : List Byte) (midByte : Bool) (s : State) : Host.Outcome State Fault Refusal :=
  .next (s.modLink l fun k => k.selRise clocked midByte)

/-! ## Lapse and LEAVE (R180, R181) -/

/-- A link's queues are emptied, its taken requests no longer count, and its stay in ACTIVE ends (R180, steps 1 and 2). -/
def Link.emptied (k : Link) : Link :=
  { k with
    inbound := [], taken := [], replies := [], notices := [], armed := false, activation := k.activation + 1
    transfer := k.transfer.map fun t => { t with held := false } }

/-- What a link held is undone: claims, streams, store and voices (R180, steps 3 to 6). -/
def State.undoLink (s : State) (l : LinkId) : State :=
  (((s.releaseClaims l).leaveStreams l).dropStoreWork l).orphanVoices l

/-- A link lapses (R180). -/
def State.lapse (s : State) (l : LinkId) : State :=
  ((s.modLink l fun k => { k.emptied with state := .lapsed, ageTimer := none }).undoLink l).notify l.other
    (.peerLapsed l .lapse)

/-- The quiet count and frame mark at an age tick (R179). -/
def Link.ageTick (k : Link) : Link :=
  { k with quiet := if k.frameMark then 0 else min 15 (k.quiet + 1), frameMark := false, ageTimer := some k.settings.interval }

/-- The quiet count has reached the robustness, if that is not 0 (R179). -/
def Link.lapses (k : Link) : Bool := decide (k.settings.robustness ≠ 0 ∧ k.settings.robustness ≤ k.quiet)

def State.ageTickStep (s : State) (l : LinkId) : State :=
  match (s.link l).state, (s.link l).ageTimer with
  | .active, some _ =>
    let t := s.modLink l Link.ageTick
    if (t.link l).lapses then t.lapse l else t
  | _, _ => s

def execAgeTick (l : LinkId) (s : State) : Host.Outcome State Fault Refusal := .next (s.ageTickStep l)

/-- LEAVE (R181): its reply is placed in the emptied reply queue, and the link is IDLE, its frame mark clear (log
entry 49). -/
def State.leaveStep (s : State) (r : ReplyTo) : State :=
  let t := ((s.modLink r.link Link.emptied).undoLink r.link).notify r.link.other (.peerLapsed r.link .leave)
  t.modLink r.link fun k =>
    { k with
      replies := [⟨r.tag, r.code, .ok, []⟩], state := .idle, quiet := 0, frameMark := false, ageTimer := none }

def execLeave (l : LinkId) (tag : Byte) (ps : List Byte) (s : State) : Host.Outcome State Fault Refusal :=
  .next (s.serve l tag 0x04 ps fun r t => t.leaveStep r)

/-! ## The requests of the links (R175, R178, R182, R183) -/

/-- IDENTIFY's fields (R183): the family code in two bytes, the revision in one (log entry 30). -/
def identityBytes (l : LinkId) : List Byte :=
  le2 0x3620 ++ byteOf 1 ++ byteOf l.num ++ byteOf 6 ++ byteOf 4 ++ byteOf 24 ++ byteOf 128 ++ byteOf 64 ++ byteOf 3

def execIdentify (l : LinkId) (tag : Byte) (ps : List Byte) (s : State) : Host.Outcome State Fault Refusal :=
  .next (s.serve l tag 0x01 ps fun r t => t.answer r .ok (identityBytes r.link))

/-- All four settings, as SET_LINK's reply carries them; the threshold in one byte (log entry 30). -/
def LinkSettings.bytes (k : LinkSettings) : List Byte :=
  byteOf k.threshold ++ le2 k.interval ++ byteOf k.robustness ++ byteOf k.lapseAction.code

/-- A present setting clamped to its range; the held value when absent. Presence bits 4 to 7 are ignored (log entry 51). -/
def linkSetting (ps : List Byte) (bit value lo hi held : Nat) : Nat :=
  ((presentIf (byteAt ps 0) bit value).map fun n => max lo (min hi n)).getD held

def linkClamped (ps : List Byte) (bit value lo hi : Nat) : Bool :=
  (presentIf (byteAt ps 0) bit value).any fun n => max lo (min hi n) != n

/-- The lapse action SET_LINK leaves; none when one outside the two is given. -/
def lapseActionGiven (ps : List Byte) (held : LapseAction) : Option LapseAction :=
  if (byteAt ps 0).testBit 3 then LapseAction.ofCode (byteAt ps 5) else some held

def State.setLinkBody (s : State) (r : ReplyTo) (ps : List Byte) : State :=
  let k := (s.link r.link).settings
  match lapseActionGiven ps k.lapseAction with
  | none => s.answer r .badParam []
  | some a =>
    let new : LinkSettings := ⟨linkSetting ps 0 (byteAt ps 1) 1 32 k.threshold, linkSetting ps 1 (wordAt ps 2) 100 5000 k.interval,
      linkSetting ps 2 (byteAt ps 4) 0 15 k.robustness, a⟩
    let clamped := linkClamped ps 0 (byteAt ps 1) 1 32 || linkClamped ps 1 (wordAt ps 2) 100 5000
      || linkClamped ps 2 (byteAt ps 4) 0 15
    (s.modLink r.link fun j => { j with settings := new }).answer r (if clamped then .adjusted else .ok) new.bytes

def execSetLink (l : LinkId) (tag : Byte) (ps : List Byte) (s : State) : Host.Outcome State Fault Refusal :=
  .next (s.serve l tag 0x02 ps fun r t => t.setLinkBody r ps)

/-- The sticky flags with a selection cleared (R178, section 12.1). -/
def Sticky.clear (f : Sticky) (sel : Nat) : Sticky :=
  ⟨f.restarted && !sel.testBit 0, f.lapseSeen && !sel.testBit 1, f.requestLost && !sel.testBit 2,
    f.noticeLost && !sel.testBit 3⟩

def State.clearFlagsBody (s : State) (r : ReplyTo) (ps : List Byte) : State :=
  if byteAt ps 0 % 16 = 0 then s.answer r .badParam []
  else
    (s.modLink r.link fun k => { k with sticky := k.sticky.clear (byteAt ps 0) }).answer r .ok
      (byteOf (s.link r.link).sticky.bits)

def execClearFlags (l : LinkId) (tag : Byte) (ps : List Byte) (s : State) : Host.Outcome State Fault Refusal :=
  .next (s.serve l tag 0x03 ps fun r t => t.clearFlagsBody r ps)

/-- RESET_ARM sets the mark, which the taking of it had cleared (R182). -/
def execResetArm (l : LinkId) (tag : Byte) (ps : List Byte) (s : State) : Host.Outcome State Fault Refusal :=
  .next (s.serve l tag 0x05 ps fun r t => (t.modLink r.link fun k => { k with armed := true }).answer r .ok [])

/-- A request whose code the device does not define is answered UNKNOWN (R175, step 1). -/
def State.unknownStep (s : State) (l : LinkId) (tag code : Byte) (ps : List Byte) : State :=
  if lengthAllowed code.toNat ps = none then
    match s.take l ⟨tag, some code, ps⟩ with
    | some t => t.answer (s.replyTo l tag code) .unknown []
    | none => s
  else s

def execUnknownRequest (l : LinkId) (tag code : Byte) (ps : List Byte) (s : State) : Host.Outcome State Fault Refusal :=
  .next (s.unknownStep l tag code ps)

/-- A request of L = 1 is answered MALFORMED with request code 0 (R175, step 2). -/
def State.codelessStep (s : State) (l : LinkId) (tag : Byte) : State :=
  match s.take l ⟨tag, none, []⟩ with
  | some t => t.answer (s.replyTo l tag 0) .malformed []
  | none => s

def execRequestWithoutCode (l : LinkId) (tag : Byte) (s : State) : Host.Outcome State Fault Refusal :=
  .next (s.codelessStep l tag)

end Sys2Proof.Machine
end

