-- ==== Sys2Proof/Machine/Regulation.lean ====
section
/-! DEFINITION. Speed and position regulation (chapters 5 and 6.4): the stages of a regulation event for a single port, for
a hold, for the duty path and for the lead and partner of a pair. -/

namespace Sys2Proof.Machine

/-! ## Encoder counting (R81) -/

/-- The place of a pair of levels in the four-state cycle in which ENCA leads ENCB. -/
def quadPlace (a b : Bool) : Nat :=
  match a, b with
  | false, false => 0 | true, false => 1 | true, true => 2 | false, true => 3

/-- What a change of the lines adds to the counter: nothing when both change at once, or neither. -/
def quadCount (a b a' b' : Bool) : BitVec 32 :=
  let step := (quadPlace a' b' + 4 - quadPlace a b) % 4
  if step = 1 then 1 else if step = 3 then -1 else 0

def execEncoderTransition (p : Port) (a b : Bool) (s : State) : Host.Outcome State Fault Refusal :=
  .next (s.modUnit p fun m =>
    { m with position := m.position + quadCount m.encA m.encB a b, encA := a, encB := b })

/-! ## Speed estimate (R83) -/

/-- All four history positions are set to a position and the refill count to 4. -/
def Regulator.refillAt (r : Regulator) (position : BitVec 32) : Regulator :=
  { r with history := ⟨position, position, position, position⟩, refill := 4 }

/-- Stages 1 and 2: the measured speed from the history, and the position appended to it. -/
def MotionUnit.estimate (m : MotionUnit) : MotionUnit :=
  let h := m.reg.history
  { m with
    reg := { m.reg with
      speed := if m.reg.refill = 0 then clampMag 65535 (wrapDiff m.position h.oldest * 50) else 0
      refill := m.reg.refill - 1
      history := ⟨h.second, h.third, h.newest, m.position⟩ } }

/-! ## Stages 3 to 10 -/

/-- Stage 3: the accumulator moves toward the goal by a step and does not pass it (R85, R97). -/
def rampTo (bound acc goal step : Int) : Int :=
  clampMag bound (if mag (goal - acc) ≤ step then goal else if acc < goal then acc + step else acc - step)

/-- The regulated ramp: a step is the rate times 5 (R85). -/
def ramp (acc goal rate : Int) : Int := rampTo 32000000 acc goal (rate * 5)

/-- The bound of the integral, so that its term cannot exceed 1000 (R87). -/
def integralMax (ki : Int) : Int := truncDiv 4096000 ki

/-- Stages 5 and 6: the integral after an error (R87). -/
def integrate (r : Regulator) (ki e : Int) : Int :=
  if ki = 0 then 0
  else clampMag (integralMax ki) (if r.clamped = true ∧ sameSign e r.duty = true then r.integral else r.integral + e)

/-- Stage 7: the output of error, integral and target (R88). -/
def regulatorOutput (k : RegSettings) (e integral target : Int) : Int :=
  clampMag 1000 (truncDiv (k.kp * e) 256 + truncDiv (k.ki * integral) 4096 + truncDiv (k.kf * target) 256)

/-- Stage 8: compensation for the battery voltage (R89). -/
def compensate (u vnom vf : Int) : Int := truncDiv (u * vnom) (max 3000 vf)

/-- The ceiling of a port (R90). -/
def ceilingOf (dutyLimit supply : Int) : Int := min dutyLimit supply

/-- Stages 8 and 9: an output becomes the duty, inside the ceiling (R89, R90). -/
def MotionUnit.applyDuty (m : MotionUnit) (sup : Supply) (u : Int) : MotionUnit :=
  let comp := compensate u sup.vnom sup.vf
  let c := ceilingOf m.settings.dutyLimit sup.s
  { m with reg := { m.reg with duty := clampMag c comp, clamped := decide (c < mag comp) } }

/-- Stages 5 to 9 with a speed target (R87 to R90). -/
def MotionUnit.drive (m : MotionUnit) (sup : Supply) (target : Int) : MotionUnit :=
  let e := clampMag 65535 (target - m.reg.speed)
  let i := integrate m.reg m.settings.ki e
  ({ m with reg := { m.reg with integral := i } }).applyDuty sup (regulatorOutput m.settings e i target)

/-- A duty above a lowered ceiling is reduced to it at once, and clamped becomes yes (R90). -/
def MotionUnit.reduceDuty (m : MotionUnit) (supplyCeiling : Int) : MotionUnit :=
  let c := ceilingOf m.settings.dutyLimit supplyCeiling
  if c < mag m.reg.duty then { m with reg := { m.reg with duty := clampMag c m.reg.duty, clamped := true } } else m

/-- The stall speed for a commanded speed (R91, R109). -/
def stallSpeedOf (k : RegSettings) (speed : Int) : Int :=
  if k.stallSpeed = 0 then max 20 (truncDiv (mag speed) 20) else k.stallSpeed

/-- Stage 10: the stall timer after an event (R91). -/
def MotionUnit.stallCount (m : MotionUnit) (speed : Int) (timer : Nat) : Nat :=
  if m.reg.clamped = true ∧ mag m.reg.speed < stallSpeedOf m.settings speed then timer + 1 else 0

/-- The stall timer reaches the stall time (R91). -/
def RegSettings.stalled (k : RegSettings) (timer : Nat) : Bool := decide (truncDiv k.stallTime 5 ≤ (timer : Int)) && decide (0 < timer)

/-! ## Positioning segments (R93 to R95) -/

/-- The settle window of 3 counts. -/
def inWindow (d : Int) : Bool := decide (mag d ≤ 3)

/-- The decel test: the ramped speed moves toward the target and the stopping distance is reached (R93, R109). -/
def decelDue (ramped decel d : Int) : Bool :=
  sameSign ramped d && decide (2 * decel * mag d ≤ ramped * ramped)

/-- The sign of a distance. -/
def signOf (d : Int) : Int := if 0 < d then 1 else if d < 0 then -1 else 0

/-- A target proportional to a distance, within a creep speed: the settle and hold targets (R95, R96). -/
def creepTarget (kh d creep : Int) : Int := clampMag creep (truncDiv (kh * d) 16)

/-- The phase and decel direction of a positioning segment at an event with distance `d` (R93, R94). -/
def nextPhase (phase : Phase) (dir ramped decel d : Int) : Phase × Int :=
  match phase with
  | .settle => (.settle, dir)
  | .cruise =>
    if inWindow d then (.settle, dir)
    else if decelDue ramped decel d then (.decel, signOf d)
    else (.cruise, dir)
  | .decel => if inWindow d = true ∨ signOf d ≠ dir then (.settle, dir) else (.decel, dir)

/-- The settle count after the completion test of an event (R95). -/
def settleCount (phase : Phase) (count : Nat) (d : Int) : Nat :=
  if phase = .settle ∧ inWindow d = true then count + 1 else 0

/-! ## The event of a single port (R82, R84) -/

def Segment.accelRate (g : Segment) (k : RegSettings) : Int := (g.accel.map Int.ofNat).getD k.accel

def Segment.decelRate (g : Segment) (k : RegSettings) : Int := (g.decel.map Int.ofNat).getD k.decel

/-- The ramped speed, as the last ramp left it (R85). -/
def Regulator.ramped (r : Regulator) : Int := truncDiv r.acc 1000

/-- The ramp goal and rate of a segment in its phase at distance `d` (R85, R93, R94). -/
def Segment.goal (g : Segment) (k : RegSettings) (phase : Phase) (dir d : Int) : Int × Int :=
  match g.work.positioning, phase with
  | true, .decel => (creepOf g.speed * 1000 * dir, g.decelRate k)
  | true, _ => (mag g.speed * 1000 * signOf d, g.accelRate k)
  | false, _ => (g.speed * 1000, g.accelRate k)

/-- Stages 3 and 4 of a single port: the accumulator and the target (R85, R86, R95). -/
def MotionUnit.rampStage (m : MotionUnit) (g : Segment) (phase : Phase) (dir d : Int) : MotionUnit × Int :=
  if g.work.positioning = true ∧ phase = .settle then
    let target := creepTarget m.settings.kh d (creepOf g.speed)
    ({ m with reg := { m.reg with acc := target * 1000 } }, target)
  else
    let (goal, rate) := g.goal m.settings phase dir d
    let r := { m.reg with acc := ramp m.reg.acc goal rate }
    ({ m with reg := r }, r.ramped)

/-- The stall policy acts on a stall of a port's segment (R68, R91). -/
def State.stallPort (s : State) (p : Port) (g : Segment) : State :=
  match g.stall with
  | .keepOn => s.modUnit p fun m => { m with act := m.act.map fun a => { a with stall := 0 } }
  | .finish => s.finishSegment p .stalled
  | .abort => s.abortSegment p .stalled

/-- Stages 3 to 11 of a regulated segment that did not end at its tests. `count` is the settle count its completion test
left. -/
def State.regulatePort (s : State) (p : Port) (g : Segment) (a : Activation) (d : Int) (count : Nat) : State :=
  let m := s.unit p
  let (phase, dir) :=
    if g.work.positioning then nextPhase a.phase a.decelDir m.reg.ramped (g.decelRate m.settings) d
    else (a.phase, a.decelDir)
  let count' := if a.phase ≠ .settle ∧ phase = .settle ∧ inWindow d = true then 1 else count
  let (m1, target) := m.rampStage g phase dir d
  let m2 := m1.drive s.supply target
  let timer := m2.stallCount g.speed a.stall
  let a' := { a with phase := phase, decelDir := dir, settle := count', stall := timer }
  let t := s.setUnit p { m2 with act := some a' }
  if m2.settings.stalled timer then t.stallPort p g else t

/-- The time limit of RUN_TIME and DUTY_TIME has passed (R66). -/
def Segment.timeUp (g : Segment) (elapsed : Nat) : Bool := g.work.time.any fun ms => decide (ms ≤ elapsed)

/-- The duty path (R97). -/
def MotionUnit.dutyPath (m : MotionUnit) (sup : Supply) (g : Segment) : MotionUnit :=
  let r := { m.reg with acc := rampTo 1000000 m.reg.acc (g.speed * 1000) (g.accelRate m.settings * 5) }
  ({ m with reg := r }).applyDuty sup r.ramped

/-- The hold regulation (R96). -/
def MotionUnit.holdRegulate (m : MotionUnit) (sup : Supply) : MotionUnit :=
  let d := wrapDiff (m.hold.getD m.position) m.position
  let target := creepTarget m.settings.kh d (m.reg.holdCreep.getD 10)
  ({ m with reg := { m.reg with acc := target * 1000 } }).drive sup target

/-- The event of a unit that runs its own queue, after the speed estimate (R82). -/
def State.regulateSingle (s : State) (p : Port) : State :=
  let m := s.unit p
  match m.motor, m.queue, m.act with
  | .running, g :: _, some a =>
    let d := (a.target.map fun t => wrapDiff t m.position).getD 0
    let count := if g.work.positioning then settleCount a.phase a.settle d else a.settle
    if g.timeUp (s.now - a.start) = true ∨ (g.work.positioning = true ∧ 4 ≤ count) then s.finishSegment p .done
    else if g.work.regulated then s.regulatePort p g a d count
    else s.modUnit p fun m => m.dutyPath s.supply g
  | .holding, _, _ => s.modUnit p fun m => m.holdRegulate s.supply
  | .running, _, _ => s
  | _, _, _ => s.modUnit p fun m => { m with reg := { m.reg with duty := 0, clamped := false } }

/-! ## The events of a pair (R107 to R109) -/

/-- A weight's share of a speed, truncated toward zero. -/
def weighted (r k : Int) : Int := truncDiv (r * k) 100

/-- The synchronisation error (R107, step 4). -/
def syncError (dA dB kA kB : Int) : Int := truncDiv (dA * kB - dB * kA) 100

/-- A correction (R107, step 5). -/
def correction (e k ks bound : Int) : Int := clampMag bound (truncDiv (e * k * ks) 1600)

/-- The target of a motor of the pair: its weighted speed less cA on port A, plus cB on port B, within its own max speed
(R86, R107, R108). -/
def pairTarget (side : Lead) (v cA cB maxSpeed : Int) : Int :=
  clampMag maxSpeed (match side with | .a => v - cA | .b => v + cB)

def PairSegment.weight (g : PairSegment) : Lead → Int
  | .a => g.weightA
  | .b => g.weightB

def PairActivation.stallOf (a : PairActivation) : Lead → Nat
  | .a => a.stallA
  | .b => a.stallB

def PairActivation.setStall (a : PairActivation) (side : Lead) (n : Nat) : PairActivation :=
  match side with
  | .a => { a with stallA := n }
  | .b => { a with stallB := n }

/-- Stages 5 to 10 of one motor of the pair with its target; a stall is a stall of the pair (R108, R109). -/
def State.drivePaired (s : State) (q : PairId) (r : PairRec) (g : PairSegment) (side : Lead) (target : Int) : State :=
  let p := r.portOf side
  let m := (s.unit p).drive s.supply target
  let timer := m.stallCount (truncDiv (g.seg.speed * g.weight side) 100) ((r.act.map fun a => a.stallOf side).getD 0)
  let t := (s.setUnit p m).modPair q fun x => { x with act := x.act.map fun a => a.setStall side timer }
  if m.settings.stalled timer then
    match g.seg.stall with
    | .keepOn => t.modPair q fun x => { x with act := x.act.map fun a => a.setStall side 0 }
    | .finish => t.finishPair q .stalled
    | .abort => t.abortPair q .stalled
  else t

/-- The completion test of a RUN_BY pair segment (R109). -/
def pairComplete (distance d : Int) : Bool := decide (distance = 0) || decide (d = 0) || sameSign distance (-d)

/-- The distance of a RUN_BY. -/
def SegWork.distance : SegWork → Int
  | .runBy d => d.toInt
  | _ => 0

/-- The phase of a RUN_BY pair segment: it has no SETTLE (R109). -/
def nextPairPhase (phase : Phase) (dir ramped decel d : Int) : Phase × Int :=
  match phase with
  | .cruise => if decelDue ramped decel d then (.decel, signOf d) else (.cruise, dir)
  | _ => (phase, dir)

/-- The lead unit's event (R107, R109). -/
def State.regulateLead (s : State) (q : PairId) (r : PairRec) (g : PairSegment) (a : PairActivation) : State :=
  let p := r.leadPort g
  let m := s.unit p
  let d := (a.target.map fun t => wrapDiff t m.position).getD 0
  if g.seg.timeUp (s.now - a.start) = true
      ∨ (g.seg.work.positioning = true ∧ pairComplete g.seg.work.distance d = true) then
    s.finishPair q .done
  else
    let (phase, dir) :=
      if g.seg.work.positioning then nextPairPhase a.phase a.decelDir m.reg.ramped (g.seg.decelRate m.settings) d
      else (a.phase, a.decelDir)
    let (goal, rate) := g.seg.goal m.settings phase dir d
    let reg := { m.reg with acc := ramp m.reg.acc goal rate }
    let v := reg.ramped
    let dA := wrapDiff (s.unit r.portA).position a.startA
    let dB := wrapDiff (s.unit r.portB).position a.startB
    let e := syncError dA dB g.weightA g.weightB
    let bound := (s.port p).maxSpeed
    let cA := correction e g.weightB r.ks bound
    let cB := correction e g.weightA r.ks bound
    let r' := { r with corrA := cA, corrB := cB, act := some { a with phase := phase, decelDir := dir } }
    ((s.setUnit p { m with reg := reg }).setPair q (some r')).drivePaired q r' g g.lead
      (pairTarget g.lead (weighted v (g.weight g.lead)) cA cB bound)

/-- The partner unit's event (R108). -/
def State.regulatePartner (s : State) (q : PairId) (r : PairRec) (g : PairSegment) : State :=
  let side := g.lead.other
  let p := r.portOf side
  let v := weighted (s.unit (r.leadPort g)).reg.ramped (g.weight side)
  (s.modUnit p fun m => { m with reg := { m.reg with acc := v * 1000 } }).drivePaired q r g side
    (pairTarget side v r.corrA r.corrB (s.port p).maxSpeed)

/-- The regulation event of a unit (R82): the speed estimate, the work in hand, and the offer to the subscription table. -/
def State.regulationStep (s : State) (p : Port) : State :=
  let t := s.modUnit p MotionUnit.estimate
  let u :=
    match t.pairOf p with
    | some q =>
      match t.pairAt q with
      | some r =>
        match r.queue, r.act with
        | g :: _, some a => if r.leadPort g = p then t.regulateLead q r g a else t.regulatePartner q r g
        | _, _ => t.regulateSingle p
      | none => t.regulateSingle p
    | none => t.regulateSingle p
  u.offerMotion p

def execRegulationEvent (p : Port) (s : State) : Host.Outcome State Fault Refusal := .next (s.regulationStep p)

/-! ## Outputs (R58, R92) -/

/-- The compare value of a duty against the PWM top of 1200 (R92). -/
def pwmCompare (duty : Int) : Int := truncDiv (mag duty * 1200) 1000

/-- An output: off (for a bridge, high impedance), driven low, or pulsed at a compare value. -/
inductive Drive where
  | off
  | low
  | pulsed (compare : Int)
  deriving DecidableEq, Repr

/-- The bridge outputs of a motor in its motor state (R58, R92). -/
def MotionUnit.bridge (m : MotionUnit) : Drive × Drive :=
  match m.motor with
  | .coasting => (.off, .off)
  | .braking => (.low, .low)
  | _ =>
    if 0 < m.reg.duty then (.pulsed (pwmCompare m.reg.duty), .low)
    else if m.reg.duty < 0 then (.low, .pulsed (pwmCompare m.reg.duty))
    else (.low, .low)

/-- The light output of a LIGHT in its motor state (R58, R92). -/
def MotionUnit.light (m : MotionUnit) : Drive :=
  match m.motor with
  | .running => if m.reg.duty = 0 then .low else .pulsed (pwmCompare m.reg.duty)
  | _ => .off

/-- What TXp carries: the device serial protocol, or the output of a light. -/
inductive TxDrive where
  | protocol
  | light (d : Drive)
  deriving DecidableEq, Repr

/-- The outputs M1p and M2p of a port: a PLAIN_MOTOR or an encoder motor is driven on them, and for every other kind and
for a port that is not attached they are off (R4, R58, R92). -/
def State.bridgeOut (s : State) (p : Port) : Drive × Drive :=
  if (s.port p).kind = .plainMotor ∨ (s.port p).encoderMotor = true then (s.unit p).bridge else (.off, .off)

/-- What TXp of a port carries: the PWM of a LIGHT, and for every other kind the device serial protocol alone (R4, R92). -/
def State.txOut (s : State) (p : Port) : TxDrive :=
  if (s.port p).kind = .light then .light (s.unit p).light else .protocol

end Sys2Proof.Machine
end

