-- ==== Sys2Proof/Machine/Motion.lean ====
section
/-! DEFINITION. The commands of the motion units (chapters 4 and 5): MOVE, STOP, SET_REGULATOR, SET_POSITION, RESUME,
MOTION_STATUS and the STOP line. -/

namespace Sys2Proof.Machine

/-! ## MOVE (R60 to R64) -/

/-- The device check of MOVE (R60, step 2). -/
def PortUnit.serves (u : PortUnit) (g : Segment) : Bool :=
  u.drives && (u.encoderMotor || (!g.work.regulated && g.endAction != .hold))

/-- The stop condition of a MOVE or MOVE_PAIR: decided on a port other than those named (R62, R104). -/
def State.condAccepted (s : State) (ports : List Port) (c : Option StopCond) : Bool :=
  c.all fun x => !ports.contains x.source && s.condValid x

/-- The checks of MOVE after the claim step (R60): the segment and the placement, or the refusal. -/
def State.moveCheck (s : State) (r : ReplyTo) (p : Port) (ps : List Byte) : Except Status (Segment × Bool) :=
  match blockSegment r.link r.tag ps 1, placementAt ps 27 with
  | some g, some replace =>
    if (s.port p).serves g = false then .error .wrongDevice
    else if (s.unit p).halted then .error .halted
    else if s.supply.state = .brownout then .error .brownout
    else if s.condAccepted [p] g.cond = false then .error .badParam
    else if replace = false ∧ 4 ≤ (s.unit p).queue.length then .error .queueFull
    else .ok (g, replace)
  | _, _ => .error .badParam

/-- A regulated speed within a max speed; of a positioning kind, a magnitude of at least 10 (R61). -/
def speedInRange (w : SegWork) (maxSpeed v : Int) : Int :=
  if w.regulated then
    let c := clampMag maxSpeed v
    if w.positioning = true ∧ mag c < 10 then (if c < 0 then -10 else 10) else c
  else clampMag 1000 v

/-- A segment with its values brought into range (R61). -/
def Segment.inRange (g : Segment) (maxSpeed : Int) : Segment :=
  { g with
    speed := speedInRange g.work maxSpeed g.speed
    accel := g.accel.map (max 1), decel := g.decel.map (max 1) }

/-- The applied speed, accel and decel, as an ADJUSTED reply carries them (R61). -/
def Segment.appliedBytes (g : Segment) : List Byte := le2i g.speed ++ optWord g.accel ++ optWord g.decel

/-- A segment is placed in a port's queue: appended, or in place of everything queued; it becomes active at once when it
stands first (R63, R64). `taken` is the segment a takeover just ended. -/
def State.placeSegment (s : State) (p : Port) (g : Segment) (replace : Bool) (taken : Option Segment) : State :=
  let held := (s.unit p).queue
  let prev := (held.head?.or taken).map fun x => x.work.regulated
  if replace = true ∨ held = [] then
    ((s.endQueue p .replaced .flushed).modUnit p fun m => { m with queue := [g] }).activate p prev
  else s.modUnit p fun m => { m with queue := m.queue ++ [g] }

def State.moveBody (s : State) (r : ReplyTo) (p : Port) (e : Option Settlement) (ps : List Byte) : State :=
  match s.moveCheck r p ps with
  | .error st => (s.settleClaim p e).answer r st []
  | .ok (given, replace) =>
    let g := given.inRange (s.port p).maxSpeed
    let t := s.placeSegment p g replace (e.map Settlement.seg)
    if g = given then t.answer r .ok [] else t.answer r .adjusted g.appliedBytes

def execMove (l : LinkId) (tag : Byte) (ps : List Byte) (s : State) : Host.Outcome State Fault Refusal :=
  .next (s.serve l tag 0x30 ps fun r t => t.claiming r ps fun u p e => u.moveBody r p e ps)

/-! ## STOP (R74) -/

/-- STOP's own checks (R74, step 1). -/
def PortUnit.stopCheck (u : PortUnit) (ps : List Byte) : Except Status EndAction :=
  match EndAction.ofCode (byteAt ps 1) with
  | none => .error .badParam
  | some a =>
    if u.drives = false ∨ (a = .hold ∧ u.encoderMotor = false) then .error .wrongDevice else .ok a

/-- STOP executed: the active segment ends STOPPED, the waiting ones FLUSHED, and the end action applies (R74, step 3). -/
def State.stopMotion (s : State) (p : Port) (a : EndAction) : State :=
  let hold := (s.unit p).holdPosition
  let creep := (s.port p).holdCreep (s.unit p).queue.head?
  (s.endQueue p .stopped .flushed).modUnit p fun m => m.endAction a hold creep

def State.stopBody (s : State) (r : ReplyTo) (p : Port) (e : Option Settlement) (ps : List Byte) : State :=
  match (s.port p).stopCheck ps with
  | .error st => (s.settleClaim p e).answer r st []
  | .ok a =>
    if (s.unit p).halted = true ∨ s.supply.state = .brownout then s.answer r .ok []
    else (s.stopMotion p a).answer r .ok []

def execStop (l : LinkId) (tag : Byte) (ps : List Byte) (s : State) : Host.Outcome State Fault Refusal :=
  .next (s.serve l tag 0x31 ps fun r t => t.claiming r ps fun u p e => u.stopBody r p e ps)

/-! ## SET_REGULATOR (R99) -/

/-- A present setting clamped to its range; the held value when absent. Presence bits 9 to 15 are ignored (log entry 51). -/
def setting (ps : List Byte) (bit value : Nat) (lo hi held : Int) : Int :=
  if (wordAt ps 1).testBit bit then clamp lo hi value else held

/-- Whether a present setting is clamped. -/
def settingClamped (ps : List Byte) (bit value : Nat) (lo hi : Int) : Bool :=
  (wordAt ps 1).testBit bit && decide (clamp lo hi value ≠ value)

/-- The settings a SET_REGULATOR leaves (R99, steps 2 and 3). -/
def RegSettings.given (k : RegSettings) (ps : List Byte) : RegSettings where
  kp := setting ps 0 (wordAt ps 3) 0 1023 k.kp
  ki := setting ps 1 (wordAt ps 5) 0 1023 k.ki
  kf := setting ps 2 (wordAt ps 7) 0 1023 k.kf
  kh := setting ps 3 (byteAt ps 9) 0 255 k.kh
  accel := setting ps 4 (wordAt ps 10) 1 65535 k.accel
  decel := setting ps 5 (wordAt ps 12) 1 65535 k.decel
  dutyLimit := setting ps 6 (wordAt ps 14) 100 1000 k.dutyLimit
  stallTime := setting ps 7 (wordAt ps 16) 100 5000 k.stallTime
  stallSpeed := setting ps 8 (wordAt ps 18) 0 32000 k.stallSpeed

def anySettingClamped (ps : List Byte) : Bool :=
  settingClamped ps 0 (wordAt ps 3) 0 1023 || settingClamped ps 1 (wordAt ps 5) 0 1023
    || settingClamped ps 2 (wordAt ps 7) 0 1023 || settingClamped ps 3 (byteAt ps 9) 0 255
    || settingClamped ps 4 (wordAt ps 10) 1 65535 || settingClamped ps 5 (wordAt ps 12) 1 65535
    || settingClamped ps 6 (wordAt ps 14) 100 1000 || settingClamped ps 7 (wordAt ps 16) 100 5000
    || settingClamped ps 8 (wordAt ps 18) 0 32000

/-- All nine settings, as the reply carries them. -/
def RegSettings.bytes (k : RegSettings) : List Byte :=
  le2i k.kp ++ le2i k.ki ++ le2i k.kf ++ byteOf k.kh.toNat ++ le2i k.accel ++ le2i k.decel ++ le2i k.dutyLimit
    ++ le2i k.stallTime ++ le2i k.stallSpeed

/-- The device check of SET_REGULATOR (R99, step 1): Kp, Ki, Kf, Kh, stall time and stall speed need an encoder motor. -/
def PortUnit.servesSettings (u : PortUnit) (ps : List Byte) : Bool :=
  u.drives && (u.encoderMotor || (wordAt ps 1 &&& 0x18F) == 0)

def State.setRegulatorBody (s : State) (r : ReplyTo) (p : Port) (e : Option Settlement) (ps : List Byte) : State :=
  if (s.port p).servesSettings ps then
    let t := s.modUnit p fun m => ({ m with settings := m.settings.given ps }).reduceDuty s.supply.s
    (t.settleClaim p e).answer r (if anySettingClamped ps then .adjusted else .ok) (t.unit p).settings.bytes
  else (s.settleClaim p e).answer r .wrongDevice []

def execSetRegulator (l : LinkId) (tag : Byte) (ps : List Byte) (s : State) : Host.Outcome State Fault Refusal :=
  .next (s.serve l tag 0x32 ps fun r t => t.claiming r ps fun u p e => u.setRegulatorBody r p e ps)

/-! ## SET_POSITION (R78) -/

def MotionUnit.positioning (m : MotionUnit) : Bool :=
  m.motor == .holding || (m.queue.head?.any fun g => g.work.positioning)

def State.setPositionBody (s : State) (r : ReplyTo) (p : Port) (e : Option Settlement) (ps : List Byte) : State :=
  if (s.port p).encoderMotor = false then (s.settleClaim p e).answer r .wrongDevice []
  else if (s.unit p).positioning then (s.settleClaim p e).answer r .moving []
  else
    let x := BitVec.ofNat 32 (longAt ps 1)
    let t := s.modUnit p fun m => { m with position := x, reg := m.reg.refillAt x }
    (t.settleClaim p e).answer r .ok []

def execSetPosition (l : LinkId) (tag : Byte) (ps : List Byte) (s : State) : Host.Outcome State Fault Refusal :=
  .next (s.serve l tag 0x33 ps fun r t => t.claiming r ps fun u p e => u.setPositionBody r p e ps)

/-! ## The STOP line and RESUME (R75, R76) -/

/-- An assertion of the STOP line halts every unit; one while every unit is HALTED changes no unit and sends no notice. -/
def State.stopLineStep (s : State) : State :=
  let t := { s with stopLine := true }
  if Port.all.all fun p => (s.unit p).halted then t
  else ((t.stopAll .halted .braking).setHalted true).notifyAll (.haltState true true)

def execStopLineAssert (s : State) : Host.Outcome State Fault Refusal := .next s.stopLineStep

def execStopLineRelease (s : State) : Host.Outcome State Fault Refusal := .next { s with stopLine := false }

def State.resumeBody (s : State) (r : ReplyTo) : State :=
  if s.anyHalted then
    if s.stopLine then s.answer r .halted []
    else ((s.setHalted false).notifyAll (.haltState false false)).answer r .ok []
  else s.answer r .ok []

def execResume (l : LinkId) (tag : Byte) (ps : List Byte) (s : State) : Host.Outcome State Fault Refusal :=
  .next (s.serve l tag 0x34 ps fun r t => t.resumeBody r)

/-! ## MOTION_STATUS (R79) -/

/-- The active segment that MOTION_STATUS reports for a port, its time since activation and the number waiting: the pair's
for a port in a pair. -/
def State.activeWork (s : State) (p : Port) : Option (Segment × Nat) × Nat :=
  match s.pairOf p with
  | some q =>
    match s.pairAt q with
    | some r => (r.queue.head?.map fun g => (g.seg, s.pairElapsed r), r.queue.length - 1)
    | none => (none, 0)
  | none => ((s.unit p).queue.head?.map fun g => (g, s.elapsed p), (s.unit p).queue.length - 1)

def State.motionBytes (s : State) (p : Port) : List Byte :=
  let m := s.unit p
  let encoder := (s.port p).encoderMotor
  let (active, waiting) := s.activeWork p
  [Config.haltModeCode m.halted, Config.motorStateCode m.motor] ++ optPos (s.reportedPosition p)
    ++ le4i (if encoder then m.reg.speed else 0) ++ le2i m.reg.duty
    ++ optTag (active.map fun a => a.1.tag) ++ optByte (active.map fun a => a.1.work.kind.code)
    ++ optLong (active.map fun a => a.2) ++ byteOf waiting ++ optPos m.hold
    ++ byteOf (holderCode (s.claim p).holder) ++ flagByte (s.claim p).locked
    ++ optByte ((s.pairOf p).map PairId.num)

def execMotionStatus (l : LinkId) (tag : Byte) (ps : List Byte) (s : State) : Host.Outcome State Fault Refusal :=
  .next (s.serve l tag 0x38 ps fun r t =>
    match portAt ps 0 with
    | none => t.answer r .badParam []
    | some p => t.answer r .ok (t.motionBytes p))

end Sys2Proof.Machine
end

