-- ==== Sys2Proof/Machine/PairDrive.lean ====
section
/-! DEFINITION. The commands of the pair table (chapter 6): PAIR, UNPAIR and MOVE_PAIR. -/

namespace Sys2Proof.Machine

/-! ## PAIR (R53, R102) -/

/-- The claim step of PAIR (R53): no device and existing pair for each port, port A first; a lock of the other link; then
the claim rule for each port. -/
def State.claimBoth (s : State) (l : LinkId) (a b : Port) (code : Byte) :
    Except Status (State × Option Settlement × Option Settlement) :=
  if (s.port a).noDevice then .error .noDevice
  else if (s.pairOf a).isSome then .error .paired
  else if (s.port b).noDevice then .error .noDevice
  else if (s.pairOf b).isSome then .error .paired
  else if (s.claim a).lockedAgainst l || (s.claim b).lockedAgainst l then .error .locked
  else
    match s.claimRule l a code with
    | .error st => .error st
    | .ok (t, ea) =>
      match t.claimRule l b code with
      | .error st => .error st
      | .ok (u, eb) => .ok (u, ea, eb)

/-- PAIR's own checks (R102): the slot the pair takes, or the refusal. -/
def State.pairCheck (s : State) (a b : Port) : Except Status PairId :=
  if (s.port a).encoderMotor = false ∨ (s.port b).encoderMotor = false then .error .wrongDevice
  else if (s.unit a).queue ≠ [] ∨ (s.unit b).queue ≠ [] then .error .moving
  else
    match PairId.all.find? fun q => (s.pairAt q).isNone with
    | none => .error .tableFull
    | some q => .ok q

/-- The Ks a PAIR carries; absent it is 32. A presence byte outside 0 and 1 is outside its set (R44, R102). -/
def ksOf (ps : List Byte) : Option Nat :=
  match byteAt ps 2 with
  | 0 => some 32 | 1 => some (byteAt ps 3) | _ => none

def State.pairBody (s : State) (r : ReplyTo) (ps : List Byte) : State :=
  match portAt ps 0, portAt ps 1 with
  | some a, some b =>
    if a = b then s.answer r .badParam []
    else
      match s.claimBoth r.link a b r.code with
      | .error st => s.answer r st []
      | .ok (t, ea, eb) =>
        let settled (u : State) : State := (u.settleClaim a ea).settleClaim b eb
        match ksOf ps with
        | none => (settled t).answer r .badParam []
        | some ks =>
          match t.pairCheck a b with
          | .error st => (settled t).answer r st []
          | .ok q => (settled (t.setPair q (some ⟨a, b, ks, [], none, 0, 0⟩))).answer r .ok (byteOf q.num ++ byteOf ks)
  | _, _ => s.answer r .badParam []

def execPair (l : LinkId) (tag : Byte) (ps : List Byte) (s : State) : Host.Outcome State Fault Refusal :=
  .next (s.serve l tag 0x35 ps fun r t => t.pairBody r ps)

/-! ## UNPAIR (R111) -/

def execUnpair (l : LinkId) (tag : Byte) (ps : List Byte) (s : State) : Host.Outcome State Fault Refusal :=
  .next (s.serve l tag 0x36 ps fun r t =>
    t.claimingPair r (byteAt ps 0) fun u q _ _ => (u.dissolvePair q .unpaired).answer r .ok [])

/-! ## MOVE_PAIR (R104, R105) -/

/-- The pair segment MOVE_PAIR carries and its placement; none for a value outside its set (R104, step 1). -/
def movePairValues (r : ReplyTo) (ps : List Byte) : Option (PairSegment × Bool) :=
  match blockSegment r.link r.tag ps 1, placementAt ps 28 with
  | some g, some replace =>
    match g.work with
    | .run => some (⟨g, signedOf 8 (byteAt ps 27)⟩, replace)
    | .runTime _ => some (⟨g, signedOf 8 (byteAt ps 27)⟩, replace)
    | .runBy _ => some (⟨g, signedOf 8 (byteAt ps 27)⟩, replace)
    | _ => none
  | _, _ => none

/-- The checks of MOVE_PAIR after the claim step (R104). -/
def State.movePairCheck (s : State) (r : ReplyTo) (x : PairRec) (ps : List Byte) : Except Status (PairSegment × Bool) :=
  match movePairValues r ps with
  | none => .error .badParam
  | some (g, replace) =>
    if (s.unit x.portA).halted = true ∨ (s.unit x.portB).halted = true then .error .halted
    else if s.supply.state = .brownout then .error .brownout
    else if s.condAccepted [x.portA, x.portB] g.seg.cond = false then .error .badParam
    else if replace = false ∧ 4 ≤ x.queue.length then .error .queueFull
    else .ok (g, replace)

/-- A pair segment with its values brought into range: the smaller of the two max speeds bounds v (R104). -/
def PairSegment.inRange (g : PairSegment) (maxSpeed : Int) : PairSegment :=
  { g with seg := g.seg.inRange maxSpeed, steer := clampMag 100 g.steer }

/-- The applied v, steering, accel and decel, as an ADJUSTED reply carries them (R104). -/
def PairSegment.appliedBytes (g : PairSegment) : List Byte :=
  le2i g.seg.speed ++ [BitVec.ofInt 8 g.steer] ++ optWord g.seg.accel ++ optWord g.seg.decel

/-- A pair segment is placed in the pair's queue, as R63 and R64 give for a port (R105). `taken` is the pair segment a
takeover just ended. -/
def State.placePairSegment (s : State) (q : PairId) (x : PairRec) (g : PairSegment) (replace : Bool)
    (taken : Option PairSegment) : State :=
  let prev := (x.queue.head?.or taken).map PairSegment.lead
  if replace = true ∨ x.queue = [] then
    ((s.endPairQueue q .replaced .flushed).modPair q fun y => { y with queue := [g] }).activatePair q prev
  else s.modPair q fun y => { y with queue := y.queue ++ [g] }

def State.movePairBody (s : State) (r : ReplyTo) (q : PairId) (x : PairRec) (e : Option PairSettlement)
    (ps : List Byte) : State :=
  match s.movePairCheck r x ps with
  | .error st => (s.settlePairClaim x e).answer r st []
  | .ok (given, replace) =>
    let g := given.inRange (min (s.port x.portA).maxSpeed (s.port x.portB).maxSpeed)
    let t := s.placePairSegment q x g replace (e.map PairSettlement.seg)
    if g = given then t.answer r .ok [] else t.answer r .adjusted g.appliedBytes

def execMovePair (l : LinkId) (tag : Byte) (ps : List Byte) (s : State) : Host.Outcome State Fault Refusal :=
  .next (s.serve l tag 0x37 ps fun r t =>
    t.claimingPair r (byteAt ps 0) fun u q x e => u.movePairBody r q ((u.pairAt q).getD x) e ps)

end Sys2Proof.Machine
end

