-- ==== Sys2Proof/Machine/PortOps.lean ====
section
/-! DEFINITION. Shared operations of the port units: port events, the opening of a handshake (R22), attachment (R5, R6),
the touch sample (R7), sample updates (R32), detachment (R8 to R11), faults (R12, R14) and losses (R30). -/

namespace Sys2Proof.Machine

/-! ## Port events (section 12.3) -/

/-- A PORT_EVENT of a port as it stands; what an event does not carry is none or 0 (log entry 19). -/
def State.portEvent (s : State) (p : Port) (e : PortEventKind) (mode : Option Nat) : Notice :=
  .portEvent ⟨e, p, (s.port p).kind, (s.port p).typeId, mode, .none, false, 0⟩

/-- The PORT_EVENT FAULT of a port: its cause, the latched flag and the trips counted (R12, R14). -/
def faultEvent (p : Port) (cause : FaultCause) (latched : Bool) (trips : Nat) : Notice :=
  .portEvent ⟨.fault, p, .none, none, none, cause, latched, trips⟩

/-! ## Classification and power -/

/-- Entry to PROBING: the classification starts afresh (R2). -/
def PortUnit.probe (u : PortUnit) : PortUnit :=
  { u with state := .probing, power := true, retry := none, level := none, lastReading := none, run := 0 }

/-! ## The handshake's opening (R22) -/

/-- An attempt opens: nothing staged, 1500 ms, and RATE is sent. -/
def PortUnit.openAttempt (u : PortUnit) (attempt : Nat) : PortUnit :=
  { u with
    hs := some ⟨attempt, some 1500, false, none, [], none⟩
    sent := u.sent ++ [.rate 0] }

/-- Entry to DESCRIBING: 2400 baud and attempt 0. -/
def PortUnit.describe (u : PortUnit) : PortUnit := ({ u with state := .describing, rate := 0 }).openAttempt 0

/-! ## Attachment (R5, R6) -/

/-- The motion unit at an attach: COASTING, empty, defaults, the history filled with the position (R5, R80). -/
def MotionUnit.attach (m : MotionUnit) : MotionUnit :=
  { m with
    motor := .coasting, queue := [], hold := none, act := none
    reg := .fresh m.position, settings := .fresh }

/-- The kind of a passive level (R5). -/
def passiveKind (level : Level) : DeviceKind :=
  match level.toNat with
  | 2 => .plainMotor | 3 => .light | 4 => .touch | _ => .unknown

/-- The touch switch's built-in descriptor (R7). -/
def touchDescriptor : Descriptor := ⟨none, [⟨1, 1, 0, 1, 0, 1, 10, 0⟩]⟩

/-- The next sequence number: 0 if it was absent, else one more, modulo 65536 (R32). -/
def nextSeq (n : Option (BitVec 16)) : BitVec 16 :=
  match n with
  | some x => x + 1
  | none => 0

/-- A sample update of a port: the record is written, and the update is offered to the subscription table and then to the
motion units (R7, R32). -/
def State.applySample (s : State) (p : Port) (mode : Nat) (raw scaled : List Int) : State :=
  let r : SampleRec := ⟨mode, raw, scaled, some (nextSeq ((s.port p).sample.bind SampleRec.seq)), s.deviceTime, false⟩
  s.modPort p fun u => { u with sample := some r }

/-- The update a port's sample record stands for is offered (R32). -/
def State.offerSample (s : State) (p : Port) : State :=
  match (s.port p).sample with
  | some r => (s.offerUpdates [r.update p]).testConditions p r
  | none => s

/-- One touch sample: 1 while RX is low (R7). -/
def State.touchSample (s : State) (p : Port) (rxLow : Bool) : State :=
  let v : Int := if rxLow then 1 else 0
  (s.applySample p 0 [v] [v]).offerSample p

/-- Attach passive (R5, R7). -/
def State.attachPassive (s : State) (p : Port) (level : Level) (rxLow : Bool) : State :=
  let kind := passiveKind level
  let touch := kind == .touch
  let t := s.modPort p fun u =>
    { u with
      state := .passive, kind := kind
      desc := if touch then some touchDescriptor else none
      mode := if touch then some 0 else none }
  let u := t.modUnit p MotionUnit.attach
  let w := if touch then u.touchSample p rxLow else u
  w.notifyAll (w.portEvent p .attached (if touch then some 0 else none))

/-- Attach serial: DESCRIBING, no descriptor, no sample record, and the handshake opens (R6). -/
def State.attachSerial (s : State) (p : Port) : State :=
  (s.modPort p fun u =>
    ({ u with kind := .serial, typeId := none, desc := none, mode := none, sample := none }).describe).modUnit p
      MotionUnit.attach

/-! ## Detachment (R8 to R11) -/

/-- Every waiting SET_MODE is answered with a status, in list order (R8, R30, R36, R38). -/
def State.answerModes (s : State) (p : Port) (st : Status) : State :=
  ((s.port p).waiting.foldl (fun t w => t.answer w.dest st []) s).modPort p fun u => { u with waiting := [] }

/-- Every PORT_WRITE of the queue is answered with a status, in queue order, and the queue is emptied (R8, R30). -/
def State.answerWrites (s : State) (p : Port) (st : Status) : State :=
  ((s.port p).writes.foldl (fun t w => t.answer w.dest st []) s).modPort p fun u =>
    { u with writes := [], writeTimer := none }

/-- The pending mode and a mode restore are removed, and the mode timer stops. -/
def PortUnit.dropMode (u : PortUnit) : PortUnit := { u with pendingMode := none, restore := false, modeTimer := none }

/-- The port record as a detach clears it: the tap, the fault history, the classification and the power stay (R8, R21). -/
def PortUnit.cleared (u : PortUnit) : PortUnit :=
  { u.dropMode with
    kind := .none, typeId := none, desc := none, mode := none, sample := none, rateCap := 5, agreed := none, log := []
    hs := none, silence := none, errorRun := 0, keepAlive := none, discarding := false }

/-- The port's own motion ends, or its pair is dissolved (R9, R10). -/
def State.detachMotion (s : State) (p : Port) : State :=
  match s.pairOf p with
  | some q => s.dissolvePair q .detached
  | none => (s.endQueue p .detached .detached).modUnit p (·.settle .coasting)

/-- A detach, with the notice of its last step (R8). -/
def State.detach (s : State) (p : Port) (last : Notice) : State :=
  let t := ((s.answerModes p .noDevice).answerWrites p .noDevice).modPort p PortUnit.dropMode
  let u := ((t.detachMotion p).sourceLost p none).removeStreams p
  ((u.setClaim p .free).modPort p PortUnit.cleared).notifyAll last

/-- A detach that ends in EMPTY or another attach: PORT_EVENT DETACHED with the kind held. -/
def State.detachPort (s : State) (p : Port) : State := s.detach p (s.portEvent p .detached none)

/-- Entry to FAULT or FAULT_LATCHED: power off, the detach of an attached port, and PORT_EVENT FAULT once (R12, R14). -/
def State.faultPort (s : State) (p : Port) (state : PortState) (retry : Option Nat) (n : Notice) : State :=
  let attached := (s.port p).attached
  let t := s.modPort p fun u => { u with state := state, power := false, retry := retry }
  if attached then t.detach p n else t.notifyAll n

/-! ## Faults and losses -/

/-- The overcurrent trips of the history that are within 10 s of now (R12, R16). -/
def State.tripsWithin (s : State) (p : Port) : List Nat := (s.port p).faults.filter fun t => decide (s.now - t ≤ 10000)

/-- The third failed attempt: FAULT with cause HANDSHAKE (R14). -/
def State.handshakeFault (s : State) (p : Port) : State :=
  s.faultPort p .fault (some 1000) (faultEvent p .handshake false (s.tripsWithin p).length)

/-- A handshake attempt fails: a new one opens, or the port faults (R24). -/
def State.failAttempt (s : State) (p : Port) : State :=
  match (s.port p).hs with
  | some h => if h.attempt + 1 = 3 then s.handshakeFault p else s.modPort p fun u => u.openAttempt (h.attempt + 1)
  | none => s

/-- A loss (R30): the record is STALE, pending work fails, and the handshake starts. -/
def State.lossOf (s : State) (p : Port) : State :=
  let t := s.modPort p fun u =>
    { u with sample := u.sample.map fun r => { r with stale := true }, silence := none, errorRun := 0, keepAlive := none }
  let u := (t.answerModes p .modeFailed).modPort p PortUnit.dropMode
  (u.answerWrites p .noResponse).modPort p PortUnit.describe

end Sys2Proof.Machine
end

