-- ==== Sys2Proof/Machine/Ports.lean ====
section
/-! DEFINITION. The commands of chapter 1: probing and classification (R2, R3), overcurrent trips and retries (R12, R13),
PORT_RESET and PORT_INFO. A port event that the port's state does not have due changes nothing (log entry 2). -/

namespace Sys2Proof.Machine

/-! ## Power and probing -/

/-- The supply-off period after a reset ends (R1). -/
def execPortPowerRestore (p : Port) (s : State) : Host.Outcome State Fault Refusal :=
  .next (match (s.port p).powerTimer with
    | some _ => s.modPort p fun u => { u with power := true, powerTimer := none }
    | none => s)

/-- A reading of the ID level: the run of equal readings, saturating at 3 (R2). -/
def PortUnit.reading (u : PortUnit) (level : Level) : PortUnit :=
  { u with
    lastReading := some level
    run := if u.lastReading = some level then min 3 (u.run + 1) else 1 }

/-- A new classification is taken: the run is 3 and the reading is not the classified level (R2). -/
def PortUnit.classifies (u : PortUnit) : Bool := u.run == 3 && u.level != u.lastReading

/-- An attach at a level other than 0 (R3). -/
def State.attachAt (s : State) (p : Port) (level : Level) (rxLow : Bool) : State :=
  if level = 1 then s.attachSerial p else s.attachPassive p level rxLow

/-- The port becomes EMPTY. -/
def State.emptyPort (s : State) (p : Port) : State := s.modPort p fun u => { u with state := .empty }

/-- A new classification acts by the port state (R3). -/
def State.classify (s : State) (p : Port) (level : Level) (rxLow : Bool) : State :=
  let t := s.modPort p fun u => { u with level := some level }
  match (s.port p).state with
  | .probing => if level = 0 then t.emptyPort p else t.attachAt p level rxLow
  | .empty => if level = 0 then t else t.attachAt p level rxLow
  | .passive => if level = 0 then (t.detachPort p).emptyPort p else (t.detachPort p).attachAt p level rxLow
  | .describing =>
    if level = 0 then (t.detachPort p).emptyPort p
    else if level = 1 then t
    else (t.detachPort p).attachAt p level rxLow
  | .active =>
    if level = 0 then (t.detachPort p).emptyPort p
    else if level = 1 then t
    else (t.detachPort p).attachAt p level rxLow
  | .fault => t
  | .faultLatched => t

/-- A probe event (R2, R3, R7): while the supply is on, the level is read; a new classification is acted on, and a port that
stays TOUCH takes a sample. -/
def State.probeStep (s : State) (p : Port) (level : Level) (rxLow : Bool) : State :=
  if (s.port p).power then
    let t := s.modPort p fun u => u.reading level
    if (t.port p).classifies then t.classify p level rxLow
    else if (t.port p).kind = .touch then t.touchSample p rxLow
    else t
  else s

def execProbeEvent (p : Port) (level : Level) (rxLow : Bool) (s : State) : Host.Outcome State Fault Refusal :=
  .next (s.probeStep p level rxLow)

/-! ## Overcurrent and retry (R12, R13) -/

/-- An overcurrent trip while the port's power is on (R12). -/
def State.tripStep (s : State) (p : Port) : State :=
  if (s.port p).power then
    let kept := s.tripsWithin p
    if 2 ≤ kept.length then
      (s.modPort p fun u => { u with faults := kept }).faultPort p .faultLatched none (faultEvent p .overcurrent true 3)
    else
      (s.modPort p fun u => { u with faults := kept ++ [s.now] }).faultPort p .fault (some 1000)
        (faultEvent p .overcurrent false (kept.length + 1))
  else s

def execOvercurrentTrip (p : Port) (s : State) : Host.Outcome State Fault Refusal := .next (s.tripStep p)

/-- The retry timer of a port in FAULT expires: power on and PROBING (R13). -/
def execRetryTimerExpiry (p : Port) (s : State) : Host.Outcome State Fault Refusal :=
  .next (if (s.port p).state = .fault then s.modPort p PortUnit.probe else s)

/-! ## PORT_RESET (R15) -/

def State.portResetBody (s : State) (r : ReplyTo) (ps : List Byte) : State :=
  match portAt ps 0 with
  | none => s.answer r .badParam []
  | some p =>
    (if (s.port p).state = .faultLatched then s.modPort p fun u => { u.probe with faults := [] } else s).answer r .ok []

def execPortReset (l : LinkId) (tag : Byte) (ps : List Byte) (s : State) : Host.Outcome State Fault Refusal :=
  .next (s.serve l tag 0x16 ps fun r t => t.portResetBody r ps)

/-! ## PORT_INFO (R16) -/

/-- The mode count of the summary: from HEAD, 1 for TOUCH, or 0. -/
def PortUnit.modeCount (u : PortUnit) : Nat :=
  match u.desc with
  | some ⟨some h, _⟩ => h.modeCount
  | some ⟨none, ms⟩ => ms.length
  | none => 0

def PortUnit.head (u : PortUnit) : Option Head := u.desc.bind Descriptor.head

/-- How the summary shows the sample record. -/
def PortUnit.sampleShown (u : PortUnit) : SampleShown :=
  match u.sample with
  | some r => if r.stale then .stale else .present
  | none => .absent

/-- The tap's target, coded as SET_TAP codes it (section 12.2). -/
def tapTargetCode (t : Option LinkId) : Nat := (t.map fun l => l.num + 1).getD 0

/-- The port summary (R16). The trips of a latched port are counted by R16's last sentence, which can give less than the 3 of its
table (log entry 52). -/
def State.summaryBytes (s : State) (p : Port) : List Byte :=
  let u := s.port p
  let latched := u.state == .faultLatched
  [Config.portStateCode u.state] ++ byteOf u.kind.code ++ optByte (u.level.map BitVec.toNat)
    ++ optWord (u.typeId.map BitVec.toNat) ++ byteOf u.modeCount ++ optByte u.mode ++ optByte u.pendingMode
    ++ optByte (u.head.map fun h => h.hasEncoder.toNat) ++ optWord (u.head.bind Head.countsPerRev)
    ++ optWord (u.head.bind Head.maxSpeed) ++ optByte u.agreed ++ byteOf u.rateCap
    ++ [Config.sampleShownCode u.sampleShown] ++ byteOf ((s.tripsWithin p).length + latched.toNat) ++ flagByte latched
    ++ byteOf (holderCode (s.claim p).holder) ++ flagByte (s.claim p).locked ++ optByte ((s.pairOf p).map PairId.num)
    ++ byteOf (tapTargetCode u.tapTarget) ++ optByte (u.tapSel.map TapSel.code)

/-- A mode's description, as PORT_INFO carries it (R16). -/
def ModeDesc.bytes (m : ModeDesc) : List Byte :=
  byteOf m.valueCount ++ byteOf m.format ++ le4i m.rawLow ++ le4i m.rawHigh ++ le4i m.outLow ++ le4i m.outHigh
    ++ le2 m.minInterval ++ [m.unit]

def State.portInfoBody (s : State) (r : ReplyTo) (ps : List Byte) : State :=
  match portAt ps 0 with
  | none => s.answer r .badParam []
  | some p =>
    if byteAt ps 1 = 255 then s.answer r .ok (s.summaryBytes p)
    else
      match (s.port p).modeDesc (byteAt ps 1) with
      | some m => s.answer r .ok (s.summaryBytes p ++ m.bytes)
      | none => s.answer r .badParam []

def execPortInfo (l : LinkId) (tag : Byte) (ps : List Byte) (s : State) : Host.Outcome State Fault Refusal :=
  .next (s.serve l tag 0x10 ps fun r t => t.portInfoBody r ps)

end Sys2Proof.Machine
end

