-- ==== Sys2Proof/Machine/SupplyMonitor.lean ====
section
/-! DEFINITION. The supply monitor (chapter 7): the supply sample, the supply states and their effects, the warning clip,
and the requests SET_SUPPLY and SUPPLY_STATUS. -/

namespace Sys2Proof.Machine

/-! ## The supply sample (R114 to R118) -/

/-- The voltage ceiling of a filtered voltage (R115). -/
def voltageCeiling (vf vsoft vhard : Int) : Int :=
  if vsoft ≤ vf then 1000
  else if vf ≤ vhard then 400
  else 400 + truncDiv (600 * (vf - vhard)) (vsoft - vhard)

/-- The current ceiling after a sample (R116). -/
def currentCeiling (ci iflt ilim : Int) : Int :=
  if ilim < iflt then max 250 (ci - 125)
  else if iflt < truncDiv (ilim * 7) 8 then min 1000 (ci + 25)
  else ci

/-- Readings saturate at 16000, with the current not below 0 (R114, step 1). -/
def Supply.read (m : Supply) (vbat : Nat) (isense : Int) : Supply :=
  { m with v := min 16000 (vbat : Int), i := clamp 0 16000 isense }

/-- Filtering (R114, step 2). -/
def Supply.filter (m : Supply) : Supply :=
  { m with vf := m.vf + truncDiv (m.v - m.vf) 8, iflt := m.iflt + truncDiv (m.i - m.iflt) 4 }

/-- Ceilings and low run (R114, steps 3 to 5; R115 to R118). -/
def Supply.ceilings (m : Supply) : Supply :=
  let cv := voltageCeiling m.vf m.vsoft m.vhard
  let ci := currentCeiling m.ci m.iflt m.ilim
  let c := min cv ci
  { m with
    cv := cv, ci := ci, s := c, volCeil := truncDiv (c * 256) 1000
    lowRun := if m.vf < m.vhard then min 4 (m.lowRun + 1) else 0 }

/-- The state after a sample, from the state before it (R118). -/
def Supply.nextState (m : Supply) : SupplyState :=
  match m.state with
  | .normal => if m.vf < m.vsoft then .low else .normal
  | .low => if m.vsoft + 200 ≤ m.vf then .normal else if m.lowRun = 4 then .brownout else .low
  | .brownout =>
    if m.vsoft + 200 ≤ m.vf then .normal else if m.vhard + 400 ≤ m.vf then .low else .brownout

/-- The first sample after a reset: Vf is the first V, If stays 0, and the state is set directly (R114, R118). -/
def Supply.firstSample (m : Supply) (vbat : Nat) (isense : Int) : Supply :=
  let r := m.read vbat isense
  let c := { r with vf := r.v, iflt := 0 }.ceilings
  if c.vsoft ≤ c.vf then { c with state := .normal, warning := none }
  else { c with state := .low, warning := some 60000 }

/-! ## The warning clip (R122) -/

/-- A voice owned by SUPPLY is busy. -/
def State.warningBusy (s : State) : Bool :=
  VoiceId.all.any fun v => (s.voice v).busy && (s.voice v).owner == some .supply

/-- The clip a warning plays: W, when the scan is complete and W is READY without a deletion mark. -/
def State.warningClip (s : State) : Option DirEntry :=
  if s.store.scanning then none else s.supply.warnClip.bind s.store.readyClip

def State.startWarning (s : State) : State :=
  match s.warningClip with
  | none => s
  | some e =>
    if s.warningBusy then s
    else
      match s.allocate 8 with
      | some (v, t) => t.startClip v ⟨.supply, none, 8, 255, false, 0⟩ e.clip.rate e
      | none => s

/-- The warning timer restarts; the repeat plays (R121). -/
def State.warningTimerStep (s : State) : State :=
  match s.supply.warning with
  | some _ => let t := s.startWarning; t.setSupply { t.supply with warning := some 60000 }
  | none => s

def execWarningTimerExpiry (s : State) : Host.Outcome State Fault Refusal := .next s.warningTimerStep

/-! ## State changes (R119, R120) -/

/-- The effects of entering BROWNOUT: all motion, then all sound (R77, R120). -/
def State.brownoutEntry (s : State) : State := (s.stopAll .brownout .coasting).endVoices .brownout

/-- A state change (R119). -/
def State.changeSupplyState (s : State) (new : SupplyState) : State :=
  let old := s.supply.state
  let t := s.setSupply { s.supply with state := new, warning := if new = .low then some 60000 else none }
  let u := if new = .brownout then t.brownoutEntry else t
  let w := if new = .low ∧ old = .normal then u.startWarning else u
  w.notifyAll (.supplyState new old s.supply.vf s.supply.s)

/-- Every port whose duty exceeds the ceiling has it reduced (R90). -/
def State.reduceDuties (s : State) : State :=
  Port.all.foldl (fun t p => t.modUnit p fun m => m.reduceDuty t.supply.s) s

/-- A supply sample (R114): the readings, the filters, the ceilings, the duties above them, a state change, and the offer to
the subscription table. -/
def State.supplySampleStep (s : State) (vbat : Nat) (isense : Int) : State :=
  let m := ((s.supply.read vbat isense).filter).ceilings
  let t := (s.setSupply m).reduceDuties
  let u := if m.nextState = m.state then t else t.changeSupplyState m.nextState
  u.offerUpdates [⟨.supply, none, 0, [m.vf, m.iflt, m.s], u.stamp⟩]

def execSupplySample (vbat : Nat) (isense : Int) (s : State) : Host.Outcome State Fault Refusal :=
  .next (s.supplySampleStep vbat isense)

/-! ## SET_SUPPLY (R123) -/

/-- The five settings, as the replies carry them. -/
def Supply.settingsBytes (m : Supply) : List Byte :=
  le2i m.vnom ++ le2i m.vsoft ++ le2i m.vhard ++ le2i m.ilim ++ optByte m.warnClip

/-- A present setting of SET_SUPPLY clamped to its range; the held value when absent. Presence bits 5 to 7 are ignored (log
entry 51). -/
def supplySetting (ps : List Byte) (bit offset : Nat) (lo hi held : Int) : Int :=
  ((presentIf (byteAt ps 0) bit (wordAt ps offset)).map fun n => clamp lo hi n).getD held

/-- Whether a present setting is clamped. -/
def supplyClamped (ps : List Byte) (bit offset : Nat) (lo hi : Int) : Bool :=
  (presentIf (byteAt ps 0) bit (wordAt ps offset)).any fun n => decide (clamp lo hi n ≠ n)

def State.setSupplyBody (s : State) (r : ReplyTo) (ps : List Byte) : State :=
  let m := s.supply
  let w := byteAt ps 9
  let wGiven := (byteAt ps 0).testBit 4
  let new := { m with
    vnom := supplySetting ps 0 1 3000 12000 m.vnom
    vsoft := supplySetting ps 1 3 3000 12000 m.vsoft
    vhard := supplySetting ps 2 5 3000 12000 m.vhard
    ilim := supplySetting ps 3 7 500 8000 m.ilim
    warnClip := if wGiven then (if w = 255 then none else some w) else m.warnClip }
  let clamped := supplyClamped ps 0 1 3000 12000 || supplyClamped ps 1 3 3000 12000 || supplyClamped ps 2 5 3000 12000
    || supplyClamped ps 3 7 500 8000
  if wGiven = true ∧ 63 < w ∧ w ≠ 255 then s.answer r .badParam []
  else if new.vhard < new.vsoft ∧ new.vsoft ≤ new.vnom then
    (s.setSupply new).answer r (if clamped then .adjusted else .ok) new.settingsBytes
  else s.answer r .badParam []

def execSetSupply (l : LinkId) (tag : Byte) (ps : List Byte) (s : State) : Host.Outcome State Fault Refusal :=
  .next (s.serve l tag 0x41 ps fun r t => t.setSupplyBody r ps)

/-! ## SUPPLY_STATUS (R124) -/

def Supply.statusBytes (m : Supply) : List Byte :=
  le2i m.v ++ le2i m.i ++ le2i m.vf ++ le2i m.iflt ++ le2i m.cv ++ le2i m.ci ++ le2i m.s ++ le2i m.volCeil
    ++ byteOf m.state.code ++ byteOf m.lowRun ++ le2 (m.warning.getD 0xFFFF) ++ m.settingsBytes

def execSupplyStatus (l : LinkId) (tag : Byte) (ps : List Byte) (s : State) : Host.Outcome State Fault Refusal :=
  .next (s.serve l tag 0x40 ps fun r t => t.answer r .ok t.supply.statusBytes)

end Sys2Proof.Machine
end

