-- ==== Sys2Proof/Machine/Resets.lean ====
section
/-! DEFINITION. The two resets (R1, R43, R57, R80, R113, R126, R142, R147, R158, R160, R182, R184). A reset samples the STOP
line, VBAT and ISENSE at its end; the levels are operands of its command (log entry 5). -/

namespace Sys2Proof.Machine

/-- A link after a reset; a transfer in progress has its frame discarded and sends zeros for its remaining clocks: no byte of
a message is left to send (R182, R184; log entry 17). -/
def Link.restart (k : Link) : Link :=
  { Link.afterReset with transfer := k.transfer.map fun t => { t with bytes := [], aborted := true } }

/-- A motion unit after a reset; the decoder's levels are those of its lines (R57; log entry 8). -/
def MotionUnit.restart (m : MotionUnit) (stop : Bool) : MotionUnit := .afterReset stop m.encA m.encB

/-- The whole machine after a reset: only the array and the info row are kept, as an operation it aborted left them
(R141, R142, R158). -/
def State.restart (s : State) (stop : Bool) (vbat : Nat) (isense : Int) : State where
  now := 0
  ports := .each .afterReset
  claims := .each .free
  motion := Six.map (fun m => m.restart stop) s.motion
  pairs := .each none
  supply := Supply.afterReset.firstSample vbat isense
  streams := []
  store := .afterReset s.store.array s.store.undet s.store.infoRow
  sound := .afterReset
  links := Two.map Link.restart s.links
  stopLine := stop
  freeCount := s.freeCount
  pending := s.pending

/-- The power-on reset (R184). -/
def execPowerOnReset (stop : Bool) (vbat : Nat) (isense : Int) (s : State) : Host.Outcome State Fault Refusal :=
  .next (s.restart stop vbat isense)

/-- RESET with the mark set performs the reset and is not answered; otherwise it is refused NOT_ARMED (R182). -/
def State.resetStep (s : State) (l : LinkId) (r : ReplyTo) (t : State) (stop : Bool) (vbat : Nat) (isense : Int) : State :=
  if (s.link l).armed then t.restart stop vbat isense else t.answer r .notArmed []

def execReset (l : LinkId) (tag : Byte) (ps : List Byte) (stop : Bool) (vbat : Nat) (isense : Int) (s : State) :
    Host.Outcome State Fault Refusal :=
  .next (s.serve l tag 0x06 ps fun r t => s.resetStep l r t stop vbat isense)

end Sys2Proof.Machine
end

