-- ==== Sys2Proof/Machine/Descriptors.lean ====
section
/-! DEFINITION. Received port messages and descriptors: the outcome of a message (R19), the descriptor payloads of section
12.5 and what the handshake accepts (R23), and the decoding of a DATA payload (R32). -/

namespace Sys2Proof.Machine

/-! ## Outcomes (R18, R19) -/

/-- What the outcome of a message depends on: the port's state, whether a write awaits acknowledgement, and the expected
mode with its description. -/
structure Expect where
  state : PortState
  writeWaits : Bool
  mode : Option Nat
  desc : Option ModeDesc
  deriving DecidableEq, Repr

/-- The class of a message whose lead byte has arrived. -/
def messageClass (bs : List Byte) : Option MsgClass := bs.head?.map MsgClass.ofLead

/-- The payload of a complete message. -/
def messagePayload (bs : List Byte) : List Byte := (bs.drop 1).dropLast

/-- The whole length of the message whose lead byte has arrived: lead, payload and check byte. -/
def messageLength (bs : List Byte) : Option Nat := bs.head?.map fun b => leadLength b + 2

/-- The check byte of a complete message is right (R17). -/
def checkGood (bs : List Byte) : Bool := bs.getLast? == some (checkByte bs.dropLast)

/-- The class is valid on receipt in the port state (R18). -/
def Expect.valid (x : Expect) (c : MsgClass) : Bool :=
  match c with
  | .desc => x.state == .describing
  | .data => x.state == .active
  | .note => x.state == .describing || x.state == .active
  | .ack => x.state == .active && x.writeWaits
  | _ => false

/-- The sample size of a mode (R19). -/
def ModeDesc.sampleSize (m : ModeDesc) : Nat := m.valueCount * m.format

/-- The outcome of a complete message (R19, steps 3 to 7). -/
def Expect.outcome (x : Expect) (bs : List Byte) : MsgOutcome :=
  match messageClass bs with
  | none => .truncated
  | some c =>
    if checkGood bs = false then .checkError
    else if x.valid c = false then .unexpected
    else if c ≠ .data then .ok
    else
      let payload := messagePayload bs
      if payload = [] ∨ x.mode ≠ some (byteAt payload 0) then .modeMismatch
      else if some payload.length ≠ x.desc.map fun m => 1 + m.sampleSize then .lengthMismatch
      else .ok

/-! ## Descriptors (R23) -/

/-- A HEAD payload: its type id and values; none when a limit of R23 fails. -/
def headOf (ps : List Byte) : Option (BitVec 16 × Head) :=
  let modes := byteAt ps 3
  let encoder := (byteAt ps 5).testBit 0
  let counts := wordAt ps 6
  let speed := wordAt ps 8
  if 1 ≤ modes ∧ modes ≤ 8 ∧ byteAt ps 4 ≤ 5 ∧ (encoder = true → counts ≠ 0 ∧ speed ≠ 0) then
    some (BitVec.ofNat 16 (wordAt ps 1),
      ⟨modes, byteAt ps 4, encoder, if encoder then some counts else none,
        if encoder then some (min 32000 speed) else none⟩)
  else none

/-- A MODE payload: its mode number and description; none when a limit of R23 fails. -/
def modeOf (ps : List Byte) : Option (Nat × ModeDesc) :=
  let m : ModeDesc := ⟨byteAt ps 2, byteAt ps 3, signedOf 32 (longAt ps 4), signedOf 32 (longAt ps 8),
    signedOf 32 (longAt ps 12), signedOf 32 (longAt ps 16), max 10 (wordAt ps 20), ps.getD 22 0⟩
  if 1 ≤ m.valueCount ∧ m.valueCount ≤ 4 ∧ (m.format = 1 ∨ m.format = 2 ∨ m.format = 4) ∧ m.rawLow < m.rawHigh
      ∧ wordAt ps 20 ≤ 60000 then
    some (byteAt ps 1, m)
  else none

/-- What a DESC does to the handshake context: none when it fails the attempt (R23, R25). -/
def Handshake.accept (h : Handshake) (rateCap : Nat) (ps : List Byte) : Option Handshake :=
  match byteAt ps 0, ps.length, h.stagedHead with
  | 0, 10, none => (headOf ps).map fun x => { h with stagedHead := some x }
  | 1, 23, some (_, head) =>
    match modeOf ps with
    | some (n, m) =>
      if n = h.stagedModes.length ∧ n < head.modeCount then some { h with stagedModes := h.stagedModes ++ [m] } else none
    | none => none
  | 2, 2, some (_, head) =>
    if h.stagedModes.length = head.modeCount ∧ byteAt ps 1 = head.modeCount then
      some { h with timer := none, ended := some (min head.maxRate rateCap) }
    else none
  | _, _, _ => none

/-! ## Samples (R32) -/

/-- The raw values of a DATA payload after its mode byte: `count` signed values of `width` bytes, low byte first. -/
def rawValues (width : Nat) : Nat → List Byte → List Int
  | 0, _ => []
  | count + 1, bs => signedOf (8 * width) (leValue (bs.take width)) :: rawValues width count (bs.drop width)

/-- The raw and scaled values of a DATA payload in a mode (R32, steps 1 and 2). -/
def dataValues (m : ModeDesc) (payload : List Byte) : List Int × List Int :=
  let raw := rawValues m.format m.valueCount (payload.drop 1)
  (raw, raw.map (scale m))

end Sys2Proof.Machine
end

