-- ==== Sys2Proof/Machine/Serial.lean ====
section
/-! DEFINITION. The commands of chapter 2: message outcomes and what the port unit does with them (R20), the handshake
(R22 to R26), keep-alives and losses (R27 to R30), SET_MODE (R36 to R38), PORT_WRITE (R39, R40), READ_VALUE, READ_LOG and
SET_TAP. A port event that the port's state does not have due changes nothing (log entry 2). -/

namespace Sys2Proof.Machine

/-! ## Log and tap (R41, R42) -/

/-- The log after a record is appended: 8 records at most, the oldest removed first (R41). -/
def appendLog (log : List LogRec) (r : LogRec) : List LogRec :=
  (if 8 ≤ log.length then log.drop 1 else log) ++ [r]

/-- The selection of a tap takes an outcome: good is OK, bad every other (R42). -/
def tapTakes (t : TapSel) (o : MsgOutcome) : Bool :=
  match t with
  | .good => o == .ok
  | .bad => o != .ok
  | .both => true

/-- Steps 1 and 2 of R20: the log record and the RAW notice. -/
def State.logAndTap (s : State) (p : Port) (o : MsgOutcome) (bs : List Byte) : State :=
  let u := s.port p
  let t := s.setPort p { u with log := appendLog u.log ⟨o, messageClass bs, bs.head?.map leadLength, s.stamp⟩ }
  match u.tapTarget, u.tapSel with
  | some l, some sel => if tapTakes sel o then t.notify l (.raw p o bs) else t
  | _, _ => t

/-! ## Sending (R22, R27, R36, R39) -/

/-- The next write of the queue is sent, if any, and the write timer starts at 200 ms (R39, R40). -/
def PortUnit.sendWrite (u : PortUnit) : PortUnit :=
  match u.writes with
  | w :: _ => { u with writeTimer := some 200, sent := u.sent ++ [.write w.data] }
  | [] => { u with writeTimer := none }

/-- MODE is sent for the pending mode of an ACTIVE port (R27). -/
def PortUnit.sendMode (u : PortUnit) : PortUnit :=
  match u.state, u.pendingMode with
  | .active, some m => { u with sent := u.sent ++ [.mode m] }
  | _, _ => u

/-! ## Modes (R37, R38) -/

/-- A change of the current mode is reported, and streams and stop conditions act on it (R37, step 4). -/
def State.modeChanged (s : State) (p : Port) (old : Option Nat) (new : Nat) : State :=
  let t := (s.notifyAll (s.portEvent p .modeChanged (some new))).streamModeChange p new
  match old with
  | some m => t.sourceLost p (some m)
  | none => t

/-- The DATA of a mode is written to the sample record (R32, steps 1 to 6). -/
def State.applyData (s : State) (p : Port) (mode : Nat) (m : ModeDesc) (payload : List Byte) : State :=
  let (raw, scaled) := dataValues m payload
  s.applySample p mode raw scaled

/-- An OK DATA while a mode is pending confirms it (R37). -/
def State.confirmMode (s : State) (p : Port) (mode : Nat) (m : ModeDesc) (payload : List Byte) : State :=
  let old := (s.port p).mode
  let t := s.modPort p fun u => { u.dropMode with mode := some mode }
  let u := (t.applyData p mode m payload).answerModes p .ok
  let w := if old = some mode then u else u.modeChanged p old mode
  w.offerSample p

/-- An OK DATA is applied, or confirms the pending mode (R32, R37). -/
def State.takeData (s : State) (p : Port) (payload : List Byte) : State :=
  let u := s.port p
  let expected := u.pendingMode.or u.mode
  match expected.bind u.modeDesc with
  | some m =>
    let mode := expected.getD 0
    if u.pendingMode.isSome then s.confirmMode p mode m payload
    else (s.applyData p mode m payload).offerSample p
  | none => s

/-! ## Messages (R19, R20, R29) -/

/-- What the outcome of the next message of a port depends on. -/
def PortUnit.expect (u : PortUnit) : Expect where
  state := u.state
  writeWaits := u.writeTimer.isSome
  mode := u.pendingMode.or u.mode
  desc := (u.pendingMode.or u.mode).bind u.modeDesc

/-- The loss bookkeeping of an ACTIVE port (R20, step 3). -/
def PortUnit.bookkeep (u : PortUnit) (o : MsgOutcome) : PortUnit :=
  match o with
  | .ok => { u with silence := some 250, errorRun := 0 }
  | .modeMismatch => if u.pendingMode.isSome then { u with silence := some 250 } else u
  | _ => { u with errorRun := u.errorRun + 1 }

/-- The rate cap after an error loss (R29). -/
def PortUnit.loweredCap (u : PortUnit) : Nat := max 1 (min u.rateCap (u.agreed.getD u.rateCap) - 1)

/-- An error loss (R29). -/
def State.errorLoss (s : State) (p : Port) : State := (s.modPort p fun u => { u with rateCap := u.loweredCap }).lossOf p

/-- The write awaiting acknowledgement ends with a status, and the next one is sent (R40). -/
def State.endWrite (s : State) (p : Port) (st : Status) : State :=
  match (s.port p).writes with
  | w :: rest => (s.answer w.dest st []).modPort p fun u => ({ u with writes := rest }).sendWrite
  | [] => s

/-- An ACTIVE port acts on a message (R20, steps 3 and 4). -/
def State.actActive (s : State) (p : Port) (o : MsgOutcome) (bs : List Byte) : State :=
  let t := s.modPort p fun u => u.bookkeep o
  if 4 ≤ (t.port p).errorRun then t.errorLoss p
  else
    match o, messageClass bs with
    | .ok, some .data => t.takeData p (messagePayload bs)
    | .ok, some .ack => t.endWrite p .ok
    | _, _ => t

/-- The handshake succeeds: ACK is sent with the agreed rate code (R25, steps 1 and 2). -/
def PortUnit.stageDesc (u : PortUnit) (h : Handshake) : PortUnit :=
  match h.ended with
  | some code => { u with hs := some h, sent := u.sent ++ [.ack code] }
  | none => { u with hs := some h }

/-- A DESCRIBING port acts on a message; one whose attempt has ended acts on none (R20, R23 to R25). -/
def State.actDescribing (s : State) (p : Port) (o : MsgOutcome) (bs : List Byte) : State :=
  match (s.port p).hs with
  | none => s
  | some h =>
    if h.ended.isSome then s
    else if o ≠ .ok then s.failAttempt p
    else if messageClass bs = some .desc then
      match h.accept (s.port p).rateCap (messagePayload bs) with
      | some h' => s.modPort p fun u => u.stageDesc h'
      | none => s.failAttempt p
    else s

/-- A message ends with an outcome (R20). -/
def State.messageEnds (s : State) (p : Port) (o : MsgOutcome) (bs : List Byte) : State :=
  let t := s.logAndTap p o bs
  match (s.port p).state with
  | .active => t.actActive p o bs
  | .describing => t.actDescribing p o bs
  | _ => t

/-- The receiver runs: DESCRIBING or ACTIVE, and not discarding characters (R18, R19). -/
def PortUnit.receives (u : PortUnit) : Bool := (u.state == .describing || u.state == .active) && !u.discarding

/-- The bytes are a part of one message that has not ended. -/
def partialMessage (bs : List Byte) : Bool :=
  match messageLength bs with
  | some n => decide (bs.length < n)
  | none => true

/-- A message ends at its check byte, or at a framing error after the bytes given (R19). -/
def State.messageStep (s : State) (p : Port) (bs : List Byte) (framing : Bool) : State :=
  if (s.port p).receives then
    if framing then
      if partialMessage bs then (s.modPort p fun u => { u with discarding := true }).messageEnds p .framingError bs else s
    else if messageLength bs = some bs.length then s.messageEnds p ((s.port p).expect.outcome bs) bs
    else s
  else s

def execMessageOutcome (p : Port) (bs : List Byte) (framing : Bool) (s : State) : Host.Outcome State Fault Refusal :=
  .next (s.messageStep p bs framing)

/-- A gap within a message ends it TRUNCATED (R19). -/
def State.gapStep (s : State) (p : Port) (bs : List Byte) : State :=
  if (s.port p).receives = true ∧ bs ≠ [] ∧ partialMessage bs = true then s.messageEnds p .truncated bs else s

def execGapTimeout (p : Port) (bs : List Byte) (s : State) : Host.Outcome State Fault Refusal := .next (s.gapStep p bs)

/-- The line has been idle after a framing error: the next character is a lead byte (R19). -/
def execIdleGapAfterFramingError (p : Port) (s : State) : Host.Outcome State Fault Refusal :=
  .next (s.modPort p fun u => { u with discarding := false })

/-! ## The handshake's events (R22, R24 to R26) -/

/-- The lead byte of the first DESC of an attempt restarts its timer, once (R22). -/
def PortUnit.leadByte (u : PortUnit) : PortUnit :=
  match u.hs with
  | some h =>
    if u.receives = true ∧ h.leadSeen = false ∧ h.ended = none then
      { u with hs := some { h with timer := some 1500, leadSeen := true } }
    else u
  | none => u

def execFirstDescLeadByte (p : Port) (s : State) : Host.Outcome State Fault Refusal :=
  .next (s.modPort p PortUnit.leadByte)

def execAttemptTimerExpiry (p : Port) (s : State) : Host.Outcome State Fault Refusal :=
  .next (match (s.port p).hs with
    | some h => if h.timer.isSome then s.failAttempt p else s
    | none => s)

/-- Kf of a HEAD (R98). -/
def Head.kf (h : Head) : Int :=
  match h.hasEncoder, h.maxSpeed with
  | true, some v => clamp 0 1023 (truncDiv 256000 v)
  | _, _ => 0

/-- The descriptor defaults replace the regulator settings (R98). -/
def MotionUnit.descriptorDefaults (m : MotionUnit) (h : Head) : MotionUnit :=
  { m with settings := { RegSettings.fresh with kf := h.kf } }

/-- The port is ACTIVE at the agreed rate, with fresh timers and no handshake context (R25). -/
def PortUnit.activate (u : PortUnit) (code : Nat) : PortUnit :=
  { u with
    state := .active, rate := code, agreed := some code, silence := some 250, errorRun := 0, keepAlive := some 100
    hs := none }

/-- The empty sample record of a first handshake; its arrival time is a free value (R25, R31; log entry 10). -/
def emptySample (arrival : BitVec 32) : SampleRec := ⟨0, [], [], none, arrival, false⟩

/-- The success of a first handshake, or of one with another identity: the device is recorded, in mode 0, and ATTACHED is
sent (R6, R25). -/
def State.attachDescribed (s : State) (p : Port) (typeId : BitVec 16) (head : Head) (modes : List ModeDesc) : State :=
  let t := s.bumpFree.modPort p fun u =>
    { u with
      kind := .serial, typeId := some typeId, desc := some ⟨some head, modes⟩, mode := some 0
      sample := some (emptySample (Config.freeWord s.freeCount)) }
  let u := t.modUnit p fun m => m.descriptorDefaults head
  u.notifyAll (u.portEvent p .attached (some 0))

/-- A mode restore, where the current mode is not 0 and none is pending; MODE is sent for a pending mode (R26). -/
def PortUnit.settleMode (u : PortUnit) : PortUnit :=
  match u.pendingMode, u.mode with
  | some _, _ => u.sendMode
  | none, some m =>
    if m = 0 then u else ({ u with pendingMode := some m, restore := true, modeTimer := some 1000 }).sendMode
  | none, none => u

/-- A re-handshake with the same identity (R26). -/
def State.redescribe (s : State) (p : Port) : State :=
  (s.notifyAll (s.portEvent p .redescribed (s.port p).mode)).modPort p PortUnit.settleMode

/-- The last byte of the hub's ACK is sent (R25). A detach here leaves the receiver running, so characters it was discarding
after a framing error stay discarded (R18, R19; log entry 29). -/
def State.ackStep (s : State) (p : Port) : State :=
  let u := s.port p
  match u.hs with
  | some ⟨_, _, _, some (typeId, head), modes, some code⟩ =>
    if u.described then
      if u.typeId = some typeId ∧ u.desc = some ⟨some head, modes⟩ then
        (s.modPort p fun x => x.activate code).redescribe p
      else
        ((((s.detachPort p).modPort p fun x => { x.activate code with discarding := u.discarding }).modUnit p
          MotionUnit.attach)).attachDescribed p typeId head modes
    else (s.modPort p fun x => x.activate code).attachDescribed p typeId head modes
  | _ => s

def execAckSent (p : Port) (s : State) : Host.Outcome State Fault Refusal := .next (s.ackStep p)

/-! ## Keep-alives and losses (R27, R28) -/

def PortUnit.keepAliveEvent (u : PortUnit) : PortUnit :=
  match u.state, u.keepAlive with
  | .active, some _ => ({ u with keepAlive := some 100, sent := u.sent ++ [HubMsg.keep] }).sendMode
  | _, _ => u

def execKeepAliveExpiry (p : Port) (s : State) : Host.Outcome State Fault Refusal :=
  .next (s.modPort p PortUnit.keepAliveEvent)

def execSilenceLoss (p : Port) (s : State) : Host.Outcome State Fault Refusal :=
  .next (match (s.port p).state, (s.port p).silence with
    | .active, some _ => s.lossOf p
    | _, _ => s)

/-! ## SET_MODE (R36) -/

/-- How a port serves SET_MODE: the mode, or the refusal (R4, R36). -/
def PortUnit.modeCheck (u : PortUnit) (mode : Nat) : Except Status Unit :=
  if u.kind = .touch then (if mode = 0 then .ok () else .error .wrongDevice)
  else if u.kind = .serial ∧ u.described = true then
    if (u.modeDesc mode).isSome then .ok () else .error .badParam
  else .error .wrongDevice

/-- The requested mode becomes the pending one, with this request alone on the list (R36, third case). -/
def State.newPendingMode (s : State) (p : Port) (r : ReplyTo) (mode : Nat) : State :=
  (s.answerModes p .modeFailed).modPort p fun u =>
    ({ u with pendingMode := some mode, restore := false, modeTimer := some 1000, waiting := [⟨r, mode⟩] }).sendMode

/-- A SET_MODE the port serves (R36; log entry 16). -/
def State.takeMode (s : State) (p : Port) (r : ReplyTo) (mode : Nat) : State :=
  let u := s.port p
  if u.kind = .touch then s.answer r .ok []
  else if u.pendingMode = none ∧ u.mode = some mode ∧ u.state = .active then s.answer r .ok []
  else if u.pendingMode = some mode ∧ u.restore = false then
    s.modPort p fun x => { x with waiting := x.waiting ++ [⟨r, mode⟩] }
  else s.newPendingMode p r mode

def State.setModeBody (s : State) (r : ReplyTo) (p : Port) (e : Option Settlement) (ps : List Byte) : State :=
  match (s.port p).modeCheck (byteAt ps 1) with
  | .error st => (s.settleClaim p e).answer r st []
  | .ok () => (s.settleClaim p e).takeMode p r (byteAt ps 1)

def execSetMode (l : LinkId) (tag : Byte) (ps : List Byte) (s : State) : Host.Outcome State Fault Refusal :=
  .next (s.serve l tag 0x12 ps fun r t => t.claiming r ps fun u p e => u.setModeBody r p e ps)

/-- The mode timer expires: a pending SET_MODE fails, or a mode restore falls back to mode 0 (R38). -/
def State.modeTimerStep (s : State) (p : Port) : State :=
  let u := s.port p
  match u.modeTimer, u.pendingMode with
  | some _, some _ =>
    if u.restore then (s.modPort p fun x => { x.dropMode with mode := some 0 }).modeChanged p u.mode 0
    else (s.modPort p PortUnit.dropMode).answerModes p .modeFailed
  | _, _ => s

def execModeTimerExpiry (p : Port) (s : State) : Host.Outcome State Fault Refusal := .next (s.modeTimerStep p)

/-! ## PORT_WRITE (R39, R40) -/

/-- A PORT_WRITE joins the queue; it is sent at once when it is the head (R39). -/
def PortUnit.queueWrite (u : PortUnit) (w : WriteReq) : PortUnit :=
  let v := { u with writes := u.writes ++ [w] }
  if u.writes = [] then v.sendWrite else v

def State.portWriteBody (s : State) (r : ReplyTo) (p : Port) (e : Option Settlement) (ps : List Byte) : State :=
  let u := s.port p
  let n := byteAt ps 1
  let t := s.settleClaim p e
  if u.kind ≠ .serial ∨ u.described = false then t.answer r .wrongDevice []
  else if n = 0 ∨ 31 < n then t.answer r .badParam []
  else if 4 ≤ u.writes.length then t.answer r .queueFull []
  else if u.state = .describing then t.answer r .noResponse []
  else t.modPort p fun x => x.queueWrite ⟨r, ps.drop 2⟩

def execPortWrite (l : LinkId) (tag : Byte) (ps : List Byte) (s : State) : Host.Outcome State Fault Refusal :=
  .next (s.serve l tag 0x13 ps fun r t => t.claiming r ps fun u p e => u.portWriteBody r p e ps)

/-- The write timer expires: the write awaiting acknowledgement is answered NO_RESPONSE (R40). -/
def execWriteTimerExpiry (p : Port) (s : State) : Host.Outcome State Fault Refusal :=
  .next (match (s.port p).writeTimer with
    | some _ => s.endWrite p .noResponse
    | none => s)

/-! ## READ_VALUE, READ_LOG and SET_TAP (R34, R41, R42) -/

/-- The sample record, as READ_VALUE reports it: the fields in the order R34 lists them, so the value format stands after
the raw values (R34, R186; log entry 20). -/
def SampleRec.bytes (r : SampleRec) (p : Port) (format : Nat) : List Byte :=
  byteOf p.num ++ byteOf r.valuesMode ++ byteOf r.raw.length ++ (r.raw.map le4i).flatten ++ byteOf format
    ++ (r.scaled.map le4i).flatten ++ optWord (r.seq.map BitVec.toNat) ++ le4w r.arrival ++ flagByte r.stale

def execReadValue (l : LinkId) (tag : Byte) (ps : List Byte) (s : State) : Host.Outcome State Fault Refusal :=
  .next (s.serve l tag 0x11 ps fun r t =>
    match portAt ps 0 with
    | none => t.answer r .badParam []
    | some p =>
      match (t.port p).sample with
      | none => t.answer r .noDevice []
      | some x => t.answer r .ok (x.bytes p ((((t.port p).modeDesc x.valuesMode).map ModeDesc.format).getD 0)))

def LogRec.bytes (r : LogRec) : List Byte :=
  byteOf r.outcome.code ++ optByte (r.cls.map MsgClass.code) ++ optByte r.len ++ le2 r.time.toNat

def execReadLog (l : LinkId) (tag : Byte) (ps : List Byte) (s : State) : Host.Outcome State Fault Refusal :=
  .next (s.serve l tag 0x15 ps fun r t =>
    match portAt ps 0 with
    | none => t.answer r .badParam []
    | some p =>
      (t.modPort p fun u => { u with log := [] }).answer r .ok
        (byteOf (t.port p).log.length ++ ((t.port p).log.map LogRec.bytes).flatten))

/-- The target SET_TAP carries: none, CL0 or CL1 (section 12.2). -/
def tapTargetOf : Nat → Option (Option LinkId)
  | 0 => some none | 1 => some (some .cl0) | 2 => some (some .cl1) | _ => none

def execSetTap (l : LinkId) (tag : Byte) (ps : List Byte) (s : State) : Host.Outcome State Fault Refusal :=
  .next (s.serve l tag 0x14 ps fun r t =>
    match portAt ps 0, tapTargetOf (byteAt ps 1), TapSel.ofCode (byteAt ps 2) with
    | some p, some target, some sel =>
      (t.modPort p fun u => { u with tapTarget := target, tapSel := some sel }).answer r .ok []
    | _, _, _ => t.answer r .badParam [])

end Sys2Proof.Machine
end

