-- ==== Sys2Proof/Machine/Sound.lean ====
section
/-! DEFINITION. The commands of the sound engine (chapter 10): PLAY, STOP_VOICE, SET_VOLUME, VOICE_STATUS and the output
sample. -/

namespace Sys2Proof.Machine

/-! ## PLAY (R161) -/

/-- The source PLAY asks for, in range: the clip's entry with its applied rate, or a tone's applied frequency and duration;
with whether a value was clamped. -/
inductive PlaySource where
  | clip (e : DirEntry) (rate : Nat) (clamped : Bool)
  | tone (freq duration : Nat) (clamped : Bool)
  deriving DecidableEq, Repr

def clampNat (lo hi n : Nat) : Nat := max lo (min hi n)

/-- Checks 1 to 4 of PLAY (R161) and the values brought into range. -/
def State.playSource (s : State) (ps : List Byte) : Except Status PlaySource :=
  let kind := byteAt ps 0
  let id := byteAt ps 1
  let value := wordAt ps 2
  let duration := wordAt ps 5
  if 1 < kind ∨ (kind = 0 ∧ 63 < id) ∨ 7 < byteAt ps 7 ∨ (kind = 1 ∧ duration = 0) then .error .badParam
  else if s.store.scanning = true then .error .notReady
  else if s.supply.state = .brownout then .error .brownout
  else if kind = 0 then
    match s.store.readyClip id with
    | none => .error .clipState
    | some e =>
      if value = 0 then .ok (.clip e e.clip.rate false)
      else .ok (.clip e (clampNat 1000 32000 value) (clampNat 1000 32000 value != value))
  else .ok (.tone (clampNat 20 8000 value) duration (clampNat 20 8000 value != value))

/-- PLAY: the checks, the allocation, the start and the reply (R161 to R163). Bits 2 to 7 of its flags are ignored (log
entry 51). -/
def State.playBody (s : State) (r : ReplyTo) (ps : List Byte) : State :=
  match s.playSource ps with
  | .error st => s.answer r st []
  | .ok src =>
    let priority := byteAt ps 7
    match s.allocate priority with
    | none => s.answer r .noVoice []
    | some (v, t) =>
      let gainGiven := presentIf (byteAt ps 8) 0 (byteAt ps 9)
      let notify := (byteAt ps 8).testBit 1
      let status (clamped : Bool) : Status := if clamped then .adjusted else .ok
      match src with
      | .clip e rate clamped =>
        let a : Start := ⟨.link r.link, some r.tag, priority, gainGiven.getD e.clip.gain, notify, byteAt ps 4⟩
        (t.startClip v a rate e).answer r (status clamped) (byteOf v.num ++ le2 rate)
      | .tone freq duration clamped =>
        let a : Start := ⟨.link r.link, some r.tag, priority, gainGiven.getD 255, notify, 0⟩
        (t.startTone v a freq duration).answer r (status clamped) (byteOf v.num ++ le2 freq)

def execPlay (l : LinkId) (tag : Byte) (ps : List Byte) (s : State) : Host.Outcome State Fault Refusal :=
  .next (s.serve l tag 0x70 ps fun r t => t.playBody r ps)

/-! ## STOP_VOICE (R170) -/

def State.stopVoiceBody (s : State) (r : ReplyTo) (ps : List Byte) : State :=
  match VoiceId.ofCode (byteAt ps 0) with
  | none => s.answer r .badParam []
  | some v => (if (s.voice v).busy then s.endVoice v .stopped else s).answer r .ok []

def execStopVoice (l : LinkId) (tag : Byte) (ps : List Byte) (s : State) : Host.Outcome State Fault Refusal :=
  .next (s.serve l tag 0x71 ps fun r t => t.stopVoiceBody r ps)

/-! ## SET_VOLUME and VOICE_STATUS (R171) -/

def State.setVolumeBody (s : State) (r : ReplyTo) (ps : List Byte) : State :=
  let t := s.setSound { s.sound with master := byteAt ps 0 }
  t.answer r .ok (byteOf (byteAt ps 0) ++ le2i s.supply.volCeil)

def execSetVolume (l : LinkId) (tag : Byte) (ps : List Byte) (s : State) : Host.Outcome State Fault Refusal :=
  .next (s.serve l tag 0x72 ps fun r t => t.setVolumeBody r ps)

/-- The clip id or frequency of a source, and whether it is a tone. -/
def Source.number : Source → Nat
  | .clip id _ _ _ _ => id | .tone f => f

def Source.isTone : Source → Bool
  | .clip _ _ _ _ _ => false | .tone _ => true

/-- The 13 bytes of a voice in VOICE_STATUS (R186). A voice without a source sends 0 for the clip id and the sample index, and
its tone bit clear (log entry 54). -/
def Voice.statusBytes (x : Voice) : List Byte :=
  let tone := (x.source.map Source.isTone).getD false
  byteOf ((Config.voiceStateCode x.state).toNat + 4 * ownerCode x.owner + 16 * x.notify.toNat + 32 * tone.toNat
      + 64 * x.tag.isSome.toNat)
    ++ [x.tag.getD 0] ++ byteOf x.priority ++ byteOf x.gain ++ le2 ((x.source.map Source.number).getD 0)
    ++ byteOf x.loops ++ le4 (if tone then x.left else x.index) ++ le2 x.underrun

def State.voiceStatusPayload (s : State) : List Byte :=
  byteOf s.sound.master ++ le2i s.supply.volCeil ++ le2i s.effectiveVolume
    ++ (VoiceId.all.map fun v => (s.voice v).statusBytes).flatten

def execVoiceStatus (l : LinkId) (tag : Byte) (ps : List Byte) (s : State) : Host.Outcome State Fault Refusal :=
  .next (s.serve l tag 0x73 ps fun r t => t.answer r .ok t.voiceStatusPayload)

/-! ## The output sample (R169) -/

/-- Every voice steps, in ascending voice number (log entry 47); the sum of their terms. -/
def State.stepVoices (s : State) : State × Int :=
  VoiceId.all.foldl (fun (p : State × Int) v => ((p.1.stepVoice v).1, p.2 + (p.1.stepVoice v).2)) (s, 0)

def State.outputSampleStep (s : State) : State :=
  let t := s.stepVoices.1
  t.setSound { t.sound with speaker := speakerCompare s.stepVoices.2 s.effectiveVolume }

def execOutputSample (s : State) : Host.Outcome State Fault Refusal := .next s.outputSampleStep

end Sys2Proof.Machine
end

