-- ==== Sys2Proof/Machine/Store.lean ====
section
/-! DEFINITION. The commands of the clip store (chapter 9): the clip requests, SET_PROTECT, the scan, and the events of the
job queue and the array. An array event that the array's activity does not have due changes nothing (log entry 2). -/

namespace Sys2Proof.Machine

/-! ## The start-up scan (R147) -/

def State.scanCompleteStep (s : State) : State :=
  if s.store.scanning then s.modStore fun t => { t with directory := t.scan, scanning := false } else s

def execScanComplete (s : State) : Host.Outcome State Fault Refusal := .next s.scanCompleteStep

/-! ## Writing a clip (R151 to R153) -/

/-- The header values CLIP_BEGIN carries; none for a format outside its set. -/
def clipOf (ps : List Byte) : Option ClipInfo :=
  (ClipFormat.ofCode (byteAt ps 7)).map fun f =>
    ⟨f, wordAt ps 5, longAt ps 1, longAt ps 8, longAt ps 12, byteAt ps 16⟩

/-- The lowest sector at or above the check boundary from which `k` sectors are free in the array. -/
def Store.placeClip (t : Store) (k : Nat) : Option Nat :=
  (List.range 128).find? fun s =>
    decide (t.checkBoundary ≤ s ∧ s + k ≤ 128) && (List.range k).all fun i => t.sectorFree (s + i)

/-- CLIP_BEGIN's checks (R151): the header values and the first sector, or the refusal. -/
def Store.clipBeginCheck (t : Store) (ps : List Byte) : Except Status (ClipInfo × Nat) :=
  let id := byteAt ps 0
  if 63 < id then .error .badParam
  else if t.scanning then .error .notReady
  else if t.openEntry.isSome then .error .storeBusy
  else if (t.entry id).isSome then .error .clipState
  else
    match clipOf ps with
    | none => .error .badParam
    | some c =>
      if c.valid = false then .error .badParam
      else
        match t.placeClip (sectorsFor c.length) with
        | none => .error .noSpace
        | some first => if t.jobsFull then .error .storeBusy else .ok (c, first)

def State.clipBeginBody (s : State) (r : ReplyTo) (ps : List Byte) : State :=
  match s.store.clipBeginCheck ps with
  | .error st => s.answer r st []
  | .ok (c, first) =>
    let id := byteAt ps 0
    let count := sectorsFor c.length
    s.modStore fun t =>
      { t with
        directory := insertEntry ⟨id, .writing, first, count, c, false⟩ t.directory
        ctx := some ⟨r.link, id, 0, freshPage, false⟩
        pointer := 0
        jobs := t.jobs ++ [⟨.prepare first count ((headerBytes id c count).take 31), some id, false, r⟩] }

def execClipBegin (l : LinkId) (tag : Byte) (ps : List Byte) (s : State) : Host.Outcome State Fault Refusal :=
  .next (s.serve l tag 0x60 ps fun r t => t.clipBeginBody r ps)

/-- A BAD_PARAM reply to CLIP_DATA or CLIP_END carries the write pointer (R186); with no write context it is a free value
(log entry 32). -/
def State.refuseAtPointer (s : State) (r : ReplyTo) : State :=
  match s.store.ctx with
  | some c => s.answer r .badParam (le4 c.pointer)
  | none => s.bumpFree.answer r .badParam (le4w (Config.freeWord s.freeCount))

/-- CLIP_DATA's checks after its form (R152, steps 2 to 5): the write context and the WRITING entry, or the refusal. -/
def Store.clipDataCheck (t : Store) (l : LinkId) (offset n : Nat) : Except Status (WriteCtx × DirEntry) :=
  if t.scanning then .error .notReady
  else
    match t.ctx, t.writing with
    | some c, some e =>
      if c.owner ≠ l then .error .notHolder
      else if c.ending then .error .clipState
      else if offset ≠ c.pointer ∨ e.clip.length < offset + n then .error .badParam
      else if 256 ≤ placeOf offset + n ∧ t.jobsFull = true then .error .storeBusy
      else .ok (c, e)
    | _, _ => .error .clipState

/-- The write pointer after CLIP_DATA. -/
def Store.setPointer (t : Store) (c : WriteCtx) (pointer : Nat) (page : List Byte) : Store :=
  { t with ctx := some { c with pointer := pointer, page := page }, pointer := pointer }

def State.clipDataBody (s : State) (r : ReplyTo) (ps : List Byte) : State :=
  let offset := longAt ps 0
  let n := byteAt ps 4
  let data := ps.drop 5
  if n = 0 ∨ 56 < n then s.refuseAtPointer r
  else
    match s.store.clipDataCheck r.link offset n with
    | .error .badParam => s.refuseAtPointer r
    | .error st => s.answer r st []
    | .ok (c, e) =>
      let room := 256 - placeOf offset
      if n < room then
        (s.modStore fun t => t.setPointer c (offset + n) (enterBytes c.page (placeOf offset) data)).answer r .ok
          (le4 (offset + n))
      else
        let full := enterBytes c.page (placeOf offset) (data.take room)
        let op := pageBytes e.first (pageOf offset) 256 full
        (s.modStore fun t => t.setPointer c (offset + n) (enterBytes freshPage 0 (data.drop room))).queueJob
          ⟨.page op.1 op.2 (offset + n), some c.id, false, r⟩

def execClipData (l : LinkId) (tag : Byte) (ps : List Byte) (s : State) : Host.Outcome State Fault Refusal :=
  .next (s.serve l tag 0x61 ps fun r t => t.clipDataBody r ps)

/-- The last page of a clip that ends at write pointer `p`, if bytes are buffered for it (R148). -/
def lastPageOf (first p : Nat) (buffer : List Byte) : Option (Nat × List Byte) :=
  if firstPlace (pageOf p) < placeOf p then some (pageBytes first (pageOf p) (placeOf p) buffer) else none

def State.clipEndBody (s : State) (r : ReplyTo) (ps : List Byte) : State :=
  let id := byteAt ps 0
  if 63 < id then s.refuseAtPointer r
  else if s.store.scanning then s.answer r .notReady []
  else
    match s.store.ctx, s.store.writing with
    | some c, some e =>
      if e.id ≠ id ∨ c.ending = true then s.answer r .clipState []
      else if c.owner ≠ r.link then s.answer r .notHolder []
      else if c.pointer < e.clip.length then s.refuseAtPointer r
      else if s.store.jobsFull then s.answer r .storeBusy []
      else
        (s.modStore fun t => { t with ctx := some { c with ending := true } }).queueJob
          ⟨.seal e.first (lastPageOf e.first c.pointer c.page), some id, false, r⟩
    | _, _ => s.answer r .clipState []

def execClipEnd (l : LinkId) (tag : Byte) (ps : List Byte) (s : State) : Host.Outcome State Fault Refusal :=
  .next (s.serve l tag 0x62 ps fun r t => t.clipEndBody r ps)

/-! ## Deletion (R154) -/

/-- A voice is STARTING or PLAYING the clip, the warning voice included. -/
def State.clipPlaying (s : State) (id : Nat) : Bool :=
  VoiceId.all.any fun v =>
    (s.voice v).busy && match (s.voice v).source with
      | some (.clip i _ _ _ _) => i == id
      | _ => false

def State.clipDeleteBody (s : State) (r : ReplyTo) (ps : List Byte) : State :=
  let id := byteAt ps 0
  if 63 < id then s.answer r .badParam []
  else if s.store.scanning then s.answer r .notReady []
  else
    match s.store.entry id with
    | none => s.answer r .clipState []
    | some e =>
      match e.state with
      | .ready =>
        if e.first < s.store.checkBoundary then s.answer r .protected_ []
        else if s.clipPlaying id then s.answer r .clipInUse []
        else if e.marked then s.answer r .clipState []
        else if s.store.jobsFull then s.answer r .storeBusy []
        else
          (s.modStore fun t => t.mapEntry id fun d => { d with marked := true }).queueJob
            ⟨.remove e.first, some id, false, r⟩
      | .writing =>
        if (s.store.ctx.map WriteCtx.owner) = some r.link then (s.abandonClip id).answer r .ok []
        else s.answer r .notHolder []
      | .abandoned => s.answer r .clipState []

def execClipDelete (l : LinkId) (tag : Byte) (ps : List Byte) (s : State) : Host.Outcome State Fault Refusal :=
  .next (s.serve l tag 0x63 ps fun r t => t.clipDeleteBody r ps)

/-! ## Reading (R156) -/

/-- The fields of a directory entry in CLIP_INFO (R156); the first sector in one byte (log entry 30). -/
def DirEntry.infoBytes (e : DirEntry) : List Byte :=
  byteOf e.id ++ [Config.clipStateCode e.state] ++ flagByte e.marked ++ byteOf e.first ++ byteOf e.count
    ++ byteOf e.clip.format.code ++ le2 e.clip.rate ++ le4 e.clip.length ++ le4 e.clip.loopStart ++ le4 e.clip.loopEnd
    ++ byteOf e.clip.gain

/-- The summary of CLIP_INFO (R156). -/
def Store.summaryBytes (t : Store) (guardHigh : Bool) : List Byte :=
  byteOf t.heldB ++ flagByte t.heldLock ++ flagByte guardHigh ++ byteOf t.freeSectors ++ byteOf t.jobs.length
    ++ optByte (t.openEntry.map DirEntry.id) ++ optLong (t.openEntry.map fun _ => t.pointer)

/-- The next id after the entries reported: the last one reported plus one, none when none stands above it
(log entry 27). -/
def nextIdAfter (reported : List Nat) (all : Nat) : Option Nat :=
  if reported.length < all then reported.getLast?.map (· + 1) else none

/-- CLIP_INFO's reply: the summary and up to two entries from the start id, in ascending id. -/
def Store.infoPayload (t : Store) (start : Nat) (guardHigh : Bool) : List Byte :=
  let all := t.directory.filter fun e => decide (start ≤ e.id)
  let shown := all.take 2
  t.summaryBytes guardHigh ++ byteOf shown.length ++ (shown.map DirEntry.infoBytes).flatten
    ++ optByte (nextIdAfter (shown.map DirEntry.id) all.length)

def State.clipInfoBody (s : State) (r : ReplyTo) (ps : List Byte) (guardHigh : Bool) : State :=
  if 63 < byteAt ps 0 then s.answer r .badParam []
  else if s.store.scanning then s.answer r .notReady []
  else s.answer r .ok (s.store.infoPayload (byteAt ps 0) guardHigh)

def execClipInfo (l : LinkId) (tag : Byte) (ps : List Byte) (guardHigh : Bool) (s : State) :
    Host.Outcome State Fault Refusal :=
  .next (s.serve l tag 0x64 ps fun r t => t.clipInfoBody r ps guardHigh)

def State.clipReadBody (s : State) (r : ReplyTo) (ps : List Byte) : State :=
  let id := byteAt ps 0
  let offset := longAt ps 1
  let n := byteAt ps 5
  let beyond := (s.store.entry id).any fun e => decide (e.clip.length < offset + n)
  if 63 < id ∨ n = 0 ∨ 56 < n ∨ beyond = true then s.answer r .badParam []
  else if s.store.scanning then s.answer r .notReady []
  else
    match s.store.entry id with
    | some e =>
      if e.state = .ready ∧ e.marked = false then s.placeRead ⟨r, 4096 * e.first + 32 + offset, n⟩
      else s.answer r .clipState []
    | none => s.answer r .clipState []

def execClipRead (l : LinkId) (tag : Byte) (ps : List Byte) (s : State) : Host.Outcome State Fault Refusal :=
  .next (s.serve l tag 0x66 ps fun r t => t.clipReadBody r ps)

/-! ## SET_PROTECT (R144) -/

/-- The lock that would stand after a lock action. -/
def lockAfter (a : LockAction) (standing : Bool) : Bool :=
  match a with
  | .keep => standing | .set => true | .clear => false

def State.setProtectBody (s : State) (r : ReplyTo) (ps : List Byte) (guardHigh : Bool) : State :=
  let given := byteAt ps 0
  match LockAction.ofCode (byteAt ps 1) with
  | none => s.answer r .badParam []
  | some a =>
    let standing := s.store.standing
    let b := if given = 255 then standing.1 else given
    let lock := lockAfter a standing.2
    let blocked := s.store.openEntry.any fun e => decide (given ≠ 255 ∧ e.first < given)
    if 128 < given ∧ given ≠ 255 then s.answer r .badParam []
    else if s.store.scanning then s.answer r .notReady []
    else if standing.2 = true ∧ guardHigh = false then s.answer r .protected_ []
    else if blocked then s.answer r .badParam []
    else if (b, lock) = standing then s.answer r .ok (byteOf b ++ flagByte lock)
    else if s.store.jobsFull then s.answer r .storeBusy []
    else s.queueJob ⟨.info b lock, none, false, r⟩

def execSetProtect (l : LinkId) (tag : Byte) (ps : List Byte) (guardHigh : Bool) (s : State) :
    Host.Outcome State Fault Refusal :=
  .next (s.serve l tag 0x65 ps fun r t => t.setProtectBody r ps guardHigh)

/-! ## Jobs and the array (R148, R155, R157) -/

/-- The array is free for a job: IDLE with no read pending, and no job or cleanup in progress. -/
def Store.arrayFree (t : Store) : Bool :=
  t.activity == .idle && !t.readWaits && !t.jobRunning && !t.cleanup

def State.jobStartStep (s : State) : State := if s.store.arrayFree then s.startJob else s

def execJobStart (s : State) : Host.Outcome State Fault Refusal := .next s.jobStartStep

/-- The cleanup of an ABANDONED clip begins when no job is queued: the erase of its first sector (R155). -/
def State.cleanupStartStep (s : State) : State :=
  match s.store.abandonedEntry with
  | some e =>
    if s.store.arrayFree = true ∧ s.store.jobs = [] then
      (s.modStore fun t => { t with cleanup := true, work := [] }).beginOp (.eraseSector e.first)
    else s
  | none => s

def execCleanupStart (s : State) : Host.Outcome State Fault Refusal := .next s.cleanupStartStep

def State.programCompleteStep (s : State) : State :=
  match s.store.activity, s.store.opInHand with
  | .programming, some op => s.opComplete op
  | _, _ => s

def execProgramComplete (s : State) : Host.Outcome State Fault Refusal := .next s.programCompleteStep

def State.eraseCompleteStep (s : State) : State :=
  match s.store.activity, s.store.suspending, s.store.opInHand with
  | .erasing, false, some op => s.opComplete op
  | _, _, _ => s

def execEraseComplete (s : State) : Host.Outcome State Fault Refusal := .next s.eraseCompleteStep

/-- 1 ms of erase progress since the erase began or last resumed is reached with a read pending: the erase is suspended
(R157; log entry 37). -/
def State.eraseSuspendStep (s : State) : State :=
  if s.store.activity = .erasing ∧ s.store.readWaits = true ∧ 1 ≤ s.store.eraseRun then
    s.modStore fun t => { t with suspending := true }
  else s

def execEraseSuspend (s : State) : Host.Outcome State Fault Refusal := .next s.eraseSuspendStep

/-- The suspension is complete: the array is ERASE_SUSPENDED and serves the pending reads; with none, the erase resumes. -/
def State.suspendCompleteStep (s : State) : State :=
  if s.store.activity = .erasing ∧ s.store.suspending = true then
    (s.modStore fun t => { t with activity := .eraseSuspended, suspending := false }).goOn
  else s

def execSuspendComplete (s : State) : Host.Outcome State Fault Refusal := .next s.suspendCompleteStep

/-- A read completes: its bytes go to the voice or into the reply; then the next read is served, the erase or the job in
progress goes on, a job starts, or the array is IDLE (R157). -/
def State.arrayReadCompleteStep (s : State) : State :=
  match s.store.reading with
  | some rd =>
    let t := s.modStore fun st => { st with reading := none }
    let u := match rd with
      | .fetch v f => t.fetchDone v f
      | .clipRead r => t.answer r.dest .ok (t.store.bytes r.addr r.count)
      | .dead => t
    let w := u.goOn
    if w.store.arrayFree then w.startJob else w
  | none => s

def execArrayReadComplete (s : State) : Host.Outcome State Fault Refusal := .next s.arrayReadCompleteStep

end Sys2Proof.Machine
end

