-- ==== Sys2Proof/Machine/Dispatch.lean ====
section
/-! DEFINITION. The meaning of every command: one arm per row of the table of operations and events. -/

namespace Sys2Proof.Machine

def exec (i : Instr) (s : State) : Host.Outcome State Fault Refusal :=
  match i with
  | .powerOnReset stop vbat isense => Sys2Proof.Machine.execPowerOnReset stop vbat isense s
  | .portPowerRestore p => Sys2Proof.Machine.execPortPowerRestore p s
  | .scanComplete => Sys2Proof.Machine.execScanComplete s
  | .selFall l => Sys2Proof.Machine.execSelFall l s
  | .selRise l clocked midByte => Sys2Proof.Machine.execSelRise l clocked midByte s
  | .ageTick l => Sys2Proof.Machine.execAgeTick l s
  | .unknownRequest l tag code params => Sys2Proof.Machine.execUnknownRequest l tag code params s
  | .identify l tag params => Sys2Proof.Machine.execIdentify l tag params s
  | .setLink l tag params => Sys2Proof.Machine.execSetLink l tag params s
  | .clearFlags l tag params => Sys2Proof.Machine.execClearFlags l tag params s
  | .leave l tag params => Sys2Proof.Machine.execLeave l tag params s
  | .resetArm l tag params => Sys2Proof.Machine.execResetArm l tag params s
  | .reset l tag params stop vbat isense => Sys2Proof.Machine.execReset l tag params stop vbat isense s
  | .portInfo l tag params => Sys2Proof.Machine.execPortInfo l tag params s
  | .readValue l tag params => Sys2Proof.Machine.execReadValue l tag params s
  | .setMode l tag params => Sys2Proof.Machine.execSetMode l tag params s
  | .portWrite l tag params => Sys2Proof.Machine.execPortWrite l tag params s
  | .setTap l tag params => Sys2Proof.Machine.execSetTap l tag params s
  | .readLog l tag params => Sys2Proof.Machine.execReadLog l tag params s
  | .portReset l tag params => Sys2Proof.Machine.execPortReset l tag params s
  | .lock l tag params => Sys2Proof.Machine.execLock l tag params s
  | .unlock l tag params => Sys2Proof.Machine.execUnlock l tag params s
  | .release l tag params => Sys2Proof.Machine.execRelease l tag params s
  | .move l tag params => Sys2Proof.Machine.execMove l tag params s
  | .stop l tag params => Sys2Proof.Machine.execStop l tag params s
  | .setRegulator l tag params => Sys2Proof.Machine.execSetRegulator l tag params s
  | .setPosition l tag params => Sys2Proof.Machine.execSetPosition l tag params s
  | .resume l tag params => Sys2Proof.Machine.execResume l tag params s
  | .pair l tag params => Sys2Proof.Machine.execPair l tag params s
  | .unpair l tag params => Sys2Proof.Machine.execUnpair l tag params s
  | .movePair l tag params => Sys2Proof.Machine.execMovePair l tag params s
  | .motionStatus l tag params => Sys2Proof.Machine.execMotionStatus l tag params s
  | .supplyStatus l tag params => Sys2Proof.Machine.execSupplyStatus l tag params s
  | .setSupply l tag params => Sys2Proof.Machine.execSetSupply l tag params s
  | .subscribe l tag params => Sys2Proof.Machine.execSubscribe l tag params s
  | .unsubscribe l tag params => Sys2Proof.Machine.execUnsubscribe l tag params s
  | .listStreams l tag params => Sys2Proof.Machine.execListStreams l tag params s
  | .clipBegin l tag params => Sys2Proof.Machine.execClipBegin l tag params s
  | .clipData l tag params => Sys2Proof.Machine.execClipData l tag params s
  | .clipEnd l tag params => Sys2Proof.Machine.execClipEnd l tag params s
  | .clipDelete l tag params => Sys2Proof.Machine.execClipDelete l tag params s
  | .clipInfo l tag params guardHigh => Sys2Proof.Machine.execClipInfo l tag params guardHigh s
  | .clipRead l tag params => Sys2Proof.Machine.execClipRead l tag params s
  | .setProtect l tag params guardHigh => Sys2Proof.Machine.execSetProtect l tag params guardHigh s
  | .play l tag params => Sys2Proof.Machine.execPlay l tag params s
  | .stopVoice l tag params => Sys2Proof.Machine.execStopVoice l tag params s
  | .setVolume l tag params => Sys2Proof.Machine.execSetVolume l tag params s
  | .voiceStatus l tag params => Sys2Proof.Machine.execVoiceStatus l tag params s
  | .probeEvent p level rxLow => Sys2Proof.Machine.execProbeEvent p level rxLow s
  | .overcurrentTrip p => Sys2Proof.Machine.execOvercurrentTrip p s
  | .retryTimerExpiry p => Sys2Proof.Machine.execRetryTimerExpiry p s
  | .messageOutcome p received framing => Sys2Proof.Machine.execMessageOutcome p received framing s
  | .gapTimeout p received => Sys2Proof.Machine.execGapTimeout p received s
  | .ackSent p => Sys2Proof.Machine.execAckSent p s
  | .attemptTimerExpiry p => Sys2Proof.Machine.execAttemptTimerExpiry p s
  | .keepAliveExpiry p => Sys2Proof.Machine.execKeepAliveExpiry p s
  | .silenceLoss p => Sys2Proof.Machine.execSilenceLoss p s
  | .modeTimerExpiry p => Sys2Proof.Machine.execModeTimerExpiry p s
  | .writeTimerExpiry p => Sys2Proof.Machine.execWriteTimerExpiry p s
  | .encoderTransition p a b => Sys2Proof.Machine.execEncoderTransition p a b s
  | .regulationEvent p => Sys2Proof.Machine.execRegulationEvent p s
  | .stopLineAssert => Sys2Proof.Machine.execStopLineAssert s
  | .stopLineRelease => Sys2Proof.Machine.execStopLineRelease s
  | .supplySample vbat isense => Sys2Proof.Machine.execSupplySample vbat isense s
  | .warningTimerExpiry => Sys2Proof.Machine.execWarningTimerExpiry s
  | .jobStart => Sys2Proof.Machine.execJobStart s
  | .cleanupStart => Sys2Proof.Machine.execCleanupStart s
  | .programComplete => Sys2Proof.Machine.execProgramComplete s
  | .eraseComplete => Sys2Proof.Machine.execEraseComplete s
  | .eraseSuspend => Sys2Proof.Machine.execEraseSuspend s
  | .suspendComplete => Sys2Proof.Machine.execSuspendComplete s
  | .arrayReadComplete => Sys2Proof.Machine.execArrayReadComplete s
  | .outputSample => Sys2Proof.Machine.execOutputSample s
  | .firstDescLeadByte p => Sys2Proof.Machine.execFirstDescLeadByte p s
  | .idleGapAfterFramingError p => Sys2Proof.Machine.execIdleGapAfterFramingError p s
  | .requestWithoutCode l tag => Sys2Proof.Machine.execRequestWithoutCode l tag s

end Sys2Proof.Machine
end

