-- ==== Sys2Proof/Safety.lean ====
section
/-! DEFINITION. The terms the statements use: a request waiting at the head of its link, what taking and answering it leaves
of the link, the requests among the commands, and the invariants every step keeps. -/

namespace Sys2Proof

/-- The request a command asks for: its link, tag, request code (section 12.2) and parameter bytes; none for the events and
for the requests that no code names. -/
def Instr.asks : Instr → Option (LinkId × Byte × Nat × List Byte)
  | .identify l tag ps => some (l, tag, 0x01, ps)
  | .setLink l tag ps => some (l, tag, 0x02, ps)
  | .clearFlags l tag ps => some (l, tag, 0x03, ps)
  | .leave l tag ps => some (l, tag, 0x04, ps)
  | .resetArm l tag ps => some (l, tag, 0x05, ps)
  | .reset l tag ps _ _ _ => some (l, tag, 0x06, ps)
  | .portInfo l tag ps => some (l, tag, 0x10, ps)
  | .readValue l tag ps => some (l, tag, 0x11, ps)
  | .setMode l tag ps => some (l, tag, 0x12, ps)
  | .portWrite l tag ps => some (l, tag, 0x13, ps)
  | .setTap l tag ps => some (l, tag, 0x14, ps)
  | .readLog l tag ps => some (l, tag, 0x15, ps)
  | .portReset l tag ps => some (l, tag, 0x16, ps)
  | .lock l tag ps => some (l, tag, 0x20, ps)
  | .unlock l tag ps => some (l, tag, 0x21, ps)
  | .release l tag ps => some (l, tag, 0x22, ps)
  | .move l tag ps => some (l, tag, 0x30, ps)
  | .stop l tag ps => some (l, tag, 0x31, ps)
  | .setRegulator l tag ps => some (l, tag, 0x32, ps)
  | .setPosition l tag ps => some (l, tag, 0x33, ps)
  | .resume l tag ps => some (l, tag, 0x34, ps)
  | .pair l tag ps => some (l, tag, 0x35, ps)
  | .unpair l tag ps => some (l, tag, 0x36, ps)
  | .movePair l tag ps => some (l, tag, 0x37, ps)
  | .motionStatus l tag ps => some (l, tag, 0x38, ps)
  | .supplyStatus l tag ps => some (l, tag, 0x40, ps)
  | .setSupply l tag ps => some (l, tag, 0x41, ps)
  | .subscribe l tag ps => some (l, tag, 0x50, ps)
  | .unsubscribe l tag ps => some (l, tag, 0x51, ps)
  | .listStreams l tag ps => some (l, tag, 0x52, ps)
  | .clipBegin l tag ps => some (l, tag, 0x60, ps)
  | .clipData l tag ps => some (l, tag, 0x61, ps)
  | .clipEnd l tag ps => some (l, tag, 0x62, ps)
  | .clipDelete l tag ps => some (l, tag, 0x63, ps)
  | .clipInfo l tag ps _ => some (l, tag, 0x64, ps)
  | .clipRead l tag ps => some (l, tag, 0x66, ps)
  | .setProtect l tag ps _ => some (l, tag, 0x65, ps)
  | .play l tag ps => some (l, tag, 0x70, ps)
  | .stopVoice l tag ps => some (l, tag, 0x71, ps)
  | .setVolume l tag ps => some (l, tag, 0x72, ps)
  | .voiceStatus l tag ps => some (l, tag, 0x73, ps)
  | .powerOnReset _ _ _ => none
  | .portPowerRestore _ => none
  | .scanComplete => none
  | .selFall _ => none
  | .selRise _ _ _ => none
  | .ageTick _ => none
  | .unknownRequest _ _ _ _ => none
  | .probeEvent _ _ _ => none
  | .overcurrentTrip _ => none
  | .retryTimerExpiry _ => none
  | .messageOutcome _ _ _ => none
  | .gapTimeout _ _ => none
  | .ackSent _ => none
  | .attemptTimerExpiry _ => none
  | .keepAliveExpiry _ => none
  | .silenceLoss _ => none
  | .modeTimerExpiry _ => none
  | .writeTimerExpiry _ => none
  | .encoderTransition _ _ _ => none
  | .regulationEvent _ => none
  | .stopLineAssert => none
  | .stopLineRelease => none
  | .supplySample _ _ => none
  | .warningTimerExpiry => none
  | .jobStart => none
  | .cleanupStart => none
  | .programComplete => none
  | .eraseComplete => none
  | .eraseSuspend => none
  | .suspendComplete => none
  | .arrayReadComplete => none
  | .outputSample => none
  | .firstDescLeadByte _ => none
  | .idleGapAfterFramingError _ => none
  | .requestWithoutCode _ _ => none

end Sys2Proof

namespace Sys2Proof.Machine

/-! ## Requests at their links (R174, R175) -/

/-- The request with this tag, code and parameters is the next one the handler of link `l` takes (R175). -/
abbrev State.asked (s : State) (l : LinkId) (tag : Byte) (code : Nat) (ps : List Byte) : Prop :=
  (s.link l).inbound.head? = some ⟨tag, some (BitVec.ofNat 8 code), ps⟩

/-- A link whose oldest request was taken and answered at once: it left the inbound queue, cleared the reset-arm mark, and
its reply stands last in the reply queue (R174, R175, R182). -/
def Link.replied (k : Link) (tag : Byte) (code : Nat) (st : Status) (payload : List Byte) : Link :=
  { k with
    inbound := k.inbound.drop 1, armed := false
    replies := k.replies ++ [⟨tag, BitVec.ofNat 8 code, st, payload⟩] }

/-- A link whose oldest request was taken and is not yet answered (R174, R175, R182). -/
def Link.accepted (k : Link) (l : LinkId) (tag : Byte) (code : Nat) : Link :=
  { k with
    inbound := k.inbound.drop 1, armed := false
    taken := k.taken ++ [⟨l, k.activation, tag, BitVec.ofNat 8 code⟩] }

/-- The state after a request was taken and answered, with nothing but its link changed. -/
def State.replied (s : State) (l : LinkId) (tag : Byte) (code : Nat) (st : Status) (payload : List Byte) : State :=
  s.setLink l ((s.link l).replied tag code st payload)

/-- The state after a request was taken and left unanswered, with nothing but its link changed. -/
def State.accepted (s : State) (l : LinkId) (tag : Byte) (code : Nat) : State :=
  s.setLink l ((s.link l).accepted l tag code)

/-! ## Notices and segments -/

/-- The entry a DATA notice carries. -/
def Notice.dataEntry : Notice → Option Nat
  | .data d => some d.entry
  | _ => none

/-- An event notice that a step sends to an ACTIVE link stands in the link's queue, or the queue was full: it then still holds
its 32 messages and NOTICE_LOST is set (R133). The queue of 32 is claimed where no two DATA notices were of one entry, as every
step keeps it (`Link.inv`): a removed stream then takes one DATA notice away and puts its STREAM_END in the place (R137). -/
abbrev State.sends (s t : State) (l : LinkId) (n : Notice) : Prop :=
  (s.link l).state = .active → n ∈ (t.link l).notices
    ∨ (t.link l).sticky.noticeLost = true
      ∧ (((s.link l).notices.filterMap Notice.dataEntry).Nodup → 32 ≤ (t.link l).notices.length)

/-- A SEGMENT_END of a segment of a port or pair with an outcome is sent to the segment's issuer (R73). -/
abbrev State.sendsEnd (s t : State) (p : Port) (q : Option PairId) (g : Segment) (o : SegOutcome) : Prop :=
  ∃ e : SegmentEnd, e.port = p ∧ e.pair = q ∧ e.tag = g.tag ∧ e.kind = g.work.kind ∧ e.outcome = o
    ∧ s.sends t g.issuer (.segmentEnd e)

/-- The SEGMENT_ENDs of a port's or pair's segments that all end with one outcome stand last in their issuer's queue, in queue
order, when it has room for them (R73). A segment comes with the port its notice names; the first one ran for `elapsed`. -/
abbrev State.endsInOrder (s t : State) (l : LinkId) (q : Option PairId) (segs : List (Port × Segment)) (o : SegOutcome)
    (elapsed : Nat) : Prop :=
  (s.link l).state = .active → (∀ x ∈ segs, x.2.issuer = l) → (s.link l).notices.length + segs.length ≤ 32 →
    ∃ ns : List Notice, (t.link l).notices = (s.link l).notices ++ ns ∧ ns.length = segs.length
      ∧ ∀ (n : Nat) (p : Port) (g : Segment), segs[n]? = some (p, g) →
        ns[n]? = some (.segmentEnd ⟨p, q, g.tag, g.work.kind, o,
          if (s.port p).encoderMotor then some (s.unit p).position else none, if n = 0 then elapsed else 0⟩)

/-- A motor as an end action leaves it, with `hold` where it holds a position (R72). -/
abbrev MotionUnit.endedBy (m : MotionUnit) (a : EndAction) (hold : BitVec 32) : Prop :=
  (a = .coast → m.motor = .coasting ∧ m.hold = none ∧ m.reg.duty = 0)
    ∧ (a = .brake → m.motor = .braking ∧ m.hold = none ∧ m.reg.duty = 0)
    ∧ (a = .hold → m.motor = .holding ∧ m.hold = some hold)

/-- A motion unit whose motor settled COASTING or BRAKING: no duty and no hold, with the rest of it as it stood (R54, R72). -/
def MotionUnit.settledBy (m : MotionUnit) (state : MotorState) : MotionUnit :=
  { m with motor := state, hold := none, reg := { m.reg with duty := 0, clamped := false, holdCreep := none } }

/-- Where a link's lapse action leaves a motor (R54). -/
def State.lapseMotor (s : State) (l : LinkId) : MotorState :=
  if (s.link l).settings.lapseAction = .coast then .coasting else .braking

/-- The claims a link held are released at its lapse or LEAVE (R54). The record of every port it held is free. A single port's
queue is empty and its motor has taken the lapse action; a unit whose port holds no motor or light stays COASTING (log entry
39). A pair keeps its record with an empty queue, both its claims are free and both motors have taken the lapse action. Every
other unit, claim and pair is as before. A pair is spoken of where its ports are in no other one, as they are in every pair
that PAIR forms (R102). -/
abbrev State.releasesClaims (s t : State) (l : LinkId) : Prop :=
  (∀ p, (s.claim p).holder = some l → t.claim p = ⟨none, false⟩
    ∧ (s.pairOf p = none → t.unit p = { (s.unit p).settledBy (if (s.port p).drives then s.lapseMotor l else .coasting) with
        queue := [], act := if (s.unit p).queue = [] then (s.unit p).act else none }))
  ∧ (∀ q r, s.pairAt q = some r → ((s.claim r.portA).holder = some l ∨ (s.claim r.portB).holder = some l) →
    (∀ y z, y ≠ q → s.pairAt y = some z → ∀ x, x = r.portA ∨ x = r.portB → z.portA ≠ x ∧ z.portB ≠ x) →
    (∃ z, t.pairAt q = some z ∧ z.portA = r.portA ∧ z.portB = r.portB ∧ z.ks = r.ks ∧ z.queue = [])
      ∧ ∀ x, x = r.portA ∨ x = r.portB →
        t.claim x = ⟨none, false⟩ ∧ t.unit x = (s.unit x).settledBy (s.lapseMotor l))
  ∧ (∀ p, (s.claim p).holder ≠ some l →
    (∀ q r, s.pairAt q = some r → r.portA = p ∨ r.portB = p →
      (s.claim r.portA).holder ≠ some l ∧ (s.claim r.portB).holder ≠ some l) →
    t.unit p = s.unit p ∧ t.claim p = s.claim p)
  ∧ ∀ q, (∀ r, s.pairAt q = some r → (s.claim r.portA).holder ≠ some l ∧ (s.claim r.portB).holder ≠ some l) →
    t.pairAt q = s.pairAt q

/-- The clip store at a link's lapse or LEAVE (R155): the clip it was writing becomes ABANDONED, its write context is released
and its jobs leave the queue, but for one in progress, which goes on marked; the jobs behind keep their order. The CLIP_READs of
the link not yet served are withdrawn. Otherwise directory, jobs and context stand, and the array always does. -/
abbrev State.abandonsClip (s t : State) (l : LinkId) : Prop :=
  (∀ c, s.store.ctx = some c → c.owner = l →
    t.store.ctx = none
    ∧ t.store.directory = s.store.directory.map (fun e => if e.id = c.id then { e with state := .abandoned } else e)
    ∧ (s.store.jobs = [] → t.store.jobs = [])
    ∧ ∀ j rest, s.store.jobs = j :: rest → t.store.jobs =
      (if j.clip ≠ some c.id then [j] else if s.store.jobRunning then [{ j with abandoned := true }] else [])
        ++ rest.filter fun i => i.clip != some c.id)
  ∧ ((∀ c ∈ s.store.ctx, c.owner ≠ l) →
    t.store.ctx = s.store.ctx ∧ t.store.directory = s.store.directory ∧ t.store.jobs = s.store.jobs)
  ∧ t.store.reads = s.store.reads.filter (fun r => r.dest.link != l)
  ∧ t.store.array = s.store.array ∧ t.store.infoRow = s.store.infoRow

/-- What the other link is sent at a link's lapse or LEAVE: PEER_LAPSED stands last in its queue, or NOTICE_LOST is set where it
was full, if it is ACTIVE (R133, R180); no SEGMENT_END and no CLAIM_LOST (R54), and no other notice. -/
abbrev State.tellsPeer (s t : State) (l : LinkId) (cause : LapseCause) : Prop :=
  (t.link l.other).notices = (s.link l.other).notices
      ++ (if (s.link l.other).state = .active ∧ (s.link l.other).notices.length < 32 then [.peerLapsed l cause] else [])
    ∧ ((t.link l.other).sticky.noticeLost = true ↔ (s.link l.other).sticky.noticeLost = true
      ∨ (s.link l.other).state = .active ∧ 32 ≤ (s.link l.other).notices.length)

/-- A stop condition that can be decided, on a source that is none of the ports given (R60, R62): the source has a sample
record and describes the mode, and the index is below the mode's value count. -/
abbrev State.decides (s : State) (ports : List Port) (c : StopCond) : Prop :=
  c.source ∉ ports ∧ (s.port c.source).sample.isSome = true
    ∧ c.index < (((s.port c.source).modeDesc c.mode).map ModeDesc.valueCount).getD 0

/-! ## Invariants -/

/-- Two spans of sectors share none. -/
abbrev DirEntry.apart (d e : DirEntry) : Prop := d.first + d.count ≤ e.first ∨ e.first + e.count ≤ d.first

/-- The clip store: the array in its canonical form, at most four jobs (R148), and a directory in ascending id, of ids 0 to
63 whose spans hold a sector or more, lie in the array and share no sector (R145 to R147). -/
abbrev Store.inv (t : Store) : Prop :=
  Memory.wf t.array ∧ t.jobs.length ≤ 4
    ∧ t.directory.Pairwise (fun d e => d.id < e.id ∧ d.apart e)
    ∧ ∀ e ∈ t.directory, e.id ≤ 63 ∧ 1 ≤ e.count ∧ e.first + e.count ≤ 128

/-- The drive: the supply ceiling within its bounds with the volume ceiling formed from it (R116, R117), and no duty above
the ceiling of its port (R90). -/
abbrev State.driveInv (s : State) : Prop :=
  250 ≤ s.supply.ci ∧ s.supply.ci ≤ 1000 ∧ 250 ≤ s.supply.s ∧ s.supply.s ≤ 1000
    ∧ s.supply.volCeil = truncDiv (s.supply.s * 256) 1000
    ∧ ∀ p ∈ Port.all, 100 ≤ (s.unit p).settings.dutyLimit ∧ (s.unit p).settings.dutyLimit ≤ 1000
      ∧ mag (s.unit p).reg.duty ≤ ceilingOf (s.unit p).settings.dutyLimit s.supply.s

/-- A link: at most 8 requests wait, at most 32 notices with no two DATA notices of one
entry (R133, R174), the quiet count is at most 15, and the age timer runs
exactly while the link is ACTIVE (R179). -/
abbrev Link.inv (k : Link) : Prop :=
  k.inbound.length ≤ 8 ∧ k.notices.length ≤ 32 ∧ (k.notices.filterMap Notice.dataEntry).Nodup ∧ k.quiet ≤ 15
    ∧ (k.ageTimer.isSome = true ↔ k.state = .active)

/-- Where the replies still owed go: those of the waiting SET_MODEs (R35), the queued writes (R39), the store's jobs (R148)
and the CLIP_READs waiting or being read (R157). -/
def State.awaited (s : State) : List ReplyTo :=
  (Port.all.flatMap fun p => (s.port p).waiting.map ModeWait.dest ++ (s.port p).writes.map WriteReq.dest)
    ++ s.store.jobs.map Job.dest ++ s.store.reads.map ClipRead.dest
    ++ (match s.store.reading with
      | some (.clipRead r) => [r.dest]
      | _ => [])

/-- The law of the count: it never exceeds 8, and every reply still owed to a link's present stay in ACTIVE is counted among
its taken requests (R174, R175). -/
abbrev State.countInv (s : State) : Prop :=
  (∀ l ∈ LinkId.all, (s.link l).count ≤ 8)
    ∧ ∀ r ∈ s.awaited, r.activation ≤ (s.link r.link).activation
      ∧ (r.activation = (s.link r.link).activation → s.awaited.count r ≤ (s.link r.link).taken.count r)

/-- A port unit: a run of at most 3 (R2), at most two trips in the fault history (R12), four writes (R39), eight log
records (R41), and a rate cap of 1 to 5 (R1). -/
abbrev PortUnit.inv (u : PortUnit) : Prop :=
  u.run ≤ 3 ∧ u.faults.length ≤ 2 ∧ u.writes.length ≤ 4 ∧ u.log.length ≤ 8 ∧ 1 ≤ u.rateCap ∧ u.rateCap ≤ 5

/-- A motion unit: at most one active and three waiting segments, and a hold position exactly while HOLDING (R57). -/
abbrev MotionUnit.inv (m : MotionUnit) : Prop :=
  m.queue.length ≤ 4 ∧ (m.hold.isSome = true ↔ m.motor = .holding)

/-- The motion units and the pair queues (R57, R101). -/
abbrev State.motionInv (s : State) : Prop :=
  (∀ p ∈ Port.all, (s.unit p).inv) ∧ ∀ q ∈ PairId.all, ∀ r ∈ s.pairAt q, r.queue.length ≤ 4

/-- While the units are HALTED or the supply is in BROWNOUT, no segment is active or waiting, every motor is COASTING or
BRAKING with duty 0, and HALTED is a state of all units together (R75, R77, R90). -/
abbrev State.haltInv (s : State) : Prop :=
  (∀ p ∈ Port.all, (s.unit p).halted = (s.unit .p1).halted)
    ∧ ((s.unit .p1).halted = true ∨ s.supply.state = .brownout →
      (∀ p ∈ Port.all, (s.unit p).queue = [] ∧ (s.unit p).reg.duty = 0
        ∧ ((s.unit p).motor = .coasting ∨ (s.unit p).motor = .braking))
      ∧ ∀ q ∈ PairId.all, ∀ r ∈ s.pairAt q, r.queue = [])

/-- The subscription table: entries in ascending id, the ids 0 to 23, no entry without a member, and no two with one key
(R126, R129, R138). -/
abbrev State.streamInv (s : State) : Prop :=
  s.streams.Pairwise (fun d e => d.id < e.id ∧ d.key ≠ e.key)
    ∧ ∀ e ∈ s.streams, e.id < 24 ∧ (e.members.cl0 = true ∨ e.members.cl1 = true)

end Sys2Proof.Machine
end

