-- ==== Sys2Proof/WellFormed.lean ====
section
/-! DEFINITION. Which commands the part can meet: requests that fit a frame (R173), requests of codes the device does not
define (R175), and received bytes that form one port message or a part of one (R17, R19). A command outside these changes
no more than its meaning says; well-formedness is a premise of none of the meanings. -/

namespace Sys2Proof

/-- A request fits a frame: its length byte L counts tag, code and parameters and is at most 63 (R173). -/
def fitsFrame (ps : List Byte) : Bool := decide (ps.length ≤ 61)

/-- The bytes are one complete port message (R17). -/
def wholeMessage (bs : List Byte) : Bool := Machine.messageLength bs == some bs.length

/-- The bytes are a part of one port message, short of its check byte (R19). -/
def shortMessage (bs : List Byte) : Bool :=
  match Machine.messageLength bs with
  | some n => decide (bs.length < n)
  | none => true

/-- A command the part can meet. -/
def Instr.wf : Instr → Bool
  | .powerOnReset _ _ _ => true
  | .portPowerRestore _ => true
  | .scanComplete => true
  | .selFall _ => true
  | .selRise _ _ _ => true
  | .ageTick _ => true
  | .unknownRequest _ _ code ps => fitsFrame ps && (Machine.lengthAllowed code.toNat ps).isNone
  | .identify _ _ ps => fitsFrame ps
  | .setLink _ _ ps => fitsFrame ps
  | .clearFlags _ _ ps => fitsFrame ps
  | .leave _ _ ps => fitsFrame ps
  | .resetArm _ _ ps => fitsFrame ps
  | .reset _ _ ps _ _ _ => fitsFrame ps
  | .portInfo _ _ ps => fitsFrame ps
  | .readValue _ _ ps => fitsFrame ps
  | .setMode _ _ ps => fitsFrame ps
  | .portWrite _ _ ps => fitsFrame ps
  | .setTap _ _ ps => fitsFrame ps
  | .readLog _ _ ps => fitsFrame ps
  | .portReset _ _ ps => fitsFrame ps
  | .lock _ _ ps => fitsFrame ps
  | .unlock _ _ ps => fitsFrame ps
  | .release _ _ ps => fitsFrame ps
  | .move _ _ ps => fitsFrame ps
  | .stop _ _ ps => fitsFrame ps
  | .setRegulator _ _ ps => fitsFrame ps
  | .setPosition _ _ ps => fitsFrame ps
  | .resume _ _ ps => fitsFrame ps
  | .pair _ _ ps => fitsFrame ps
  | .unpair _ _ ps => fitsFrame ps
  | .movePair _ _ ps => fitsFrame ps
  | .motionStatus _ _ ps => fitsFrame ps
  | .supplyStatus _ _ ps => fitsFrame ps
  | .setSupply _ _ ps => fitsFrame ps
  | .subscribe _ _ ps => fitsFrame ps
  | .unsubscribe _ _ ps => fitsFrame ps
  | .listStreams _ _ ps => fitsFrame ps
  | .clipBegin _ _ ps => fitsFrame ps
  | .clipData _ _ ps => fitsFrame ps
  | .clipEnd _ _ ps => fitsFrame ps
  | .clipDelete _ _ ps => fitsFrame ps
  | .clipInfo _ _ ps _ => fitsFrame ps
  | .clipRead _ _ ps => fitsFrame ps
  | .setProtect _ _ ps _ => fitsFrame ps
  | .play _ _ ps => fitsFrame ps
  | .stopVoice _ _ ps => fitsFrame ps
  | .setVolume _ _ ps => fitsFrame ps
  | .voiceStatus _ _ ps => fitsFrame ps
  | .probeEvent _ _ _ => true
  | .overcurrentTrip _ => true
  | .retryTimerExpiry _ => true
  | .messageOutcome _ bs framing => if framing then shortMessage bs else wholeMessage bs
  | .gapTimeout _ bs => !bs.isEmpty && shortMessage bs
  | .ackSent _ => true
  | .attemptTimerExpiry _ => true
  | .keepAliveExpiry _ => true
  | .silenceLoss _ => true
  | .modeTimerExpiry _ => true
  | .writeTimerExpiry _ => true
  | .encoderTransition _ _ _ => true
  | .regulationEvent _ => true
  | .stopLineAssert => true
  | .stopLineRelease => true
  | .supplySample _ _ => true
  | .warningTimerExpiry => true
  | .jobStart => true
  | .cleanupStart => true
  | .programComplete => true
  | .eraseComplete => true
  | .eraseSuspend => true
  | .suspendComplete => true
  | .arrayReadComplete => true
  | .outputSample => true
  | .firstDescLeadByte _ => true
  | .idleGapAfterFramingError _ => true
  | .requestWithoutCode _ _ => true

end Sys2Proof
end

