-- ==== Sys2Proof/Certificates/Slice0/Obligations.lean ====
section
/-! DEFINITION. The statements for the provers, chapter by chapter: what each command does in the states its rules speak of,
with everything it leaves as it was, and the invariants every step keeps. -/

section Statements

open Sys2Proof Sys2Proof.Machine

/-! ## The machine -/

/-- One step takes the command at the front of the queue and is its meaning on the state with the rest of the queue. -/
def Obligations.StepRunsFrontCommand : Prop :=
  ∀ (c : Instr) (rest : List Instr) (s : State),
    step { s with pending := c :: rest } = exec c { s with pending := rest }

/-- The model's choice (log entries 1 and 3): with no command waiting, a step is one millisecond. Device time advances, every
running timer has one millisecond less, an erase in progress one more, and nothing else changes. -/
def Obligations.IdleStepPassesMillisecond : Prop :=
  ∀ s : State, s.pending = [] →
    ∃ t, step s = .next t ∧ t.deviceTime = s.deviceTime + 1
      ∧ (∀ p, t.port p = { s.port p with
          powerTimer := (s.port p).powerTimer.map (· - 1), retry := (s.port p).retry.map (· - 1)
          silence := (s.port p).silence.map (· - 1), keepAlive := (s.port p).keepAlive.map (· - 1)
          modeTimer := (s.port p).modeTimer.map (· - 1), writeTimer := (s.port p).writeTimer.map (· - 1)
          hs := (s.port p).hs.map fun h => { h with timer := h.timer.map (· - 1) } })
      ∧ (∀ l, t.link l = { s.link l with ageTimer := (s.link l).ageTimer.map (· - 1) })
      ∧ t.supply = { s.supply with warning := s.supply.warning.map (· - 1) }
      ∧ t.store = { s.store with
          eraseRun := s.store.eraseRun
            + (if s.store.activity = .erasing ∧ s.store.suspending = false then 1 else 0) }
      ∧ t = { s with now := s.now + 1, ports := t.ports, links := t.links, supply := t.supply, store := t.store }

/-- Every request of a length that is not allowed for its code is answered MALFORMED when it is taken, and so is a request
without a code, with request code 0; a request of a code the device does not define is answered UNKNOWN. Nothing but the
link changes. -/
def Obligations.UnservableRequestsAreAnswered : Prop :=
  (∀ (i : Instr) (l : LinkId) (tag : Byte) (code : Nat) (ps : List Byte) (s : State),
    i.asks = some (l, tag, code, ps) → s.asked l tag code ps → lengthAllowed code ps ≠ some true →
      exec i s = .next (s.replied l tag code .malformed []))
  ∧ (∀ (l : LinkId) (tag : Byte) (s : State), (s.link l).inbound.head? = some ⟨tag, none, []⟩ →
      exec (.requestWithoutCode l tag) s = .next (s.replied l tag 0 .malformed []))
  ∧ ∀ (l : LinkId) (tag code : Byte) (ps : List Byte) (s : State), lengthAllowed code.toNat ps = none →
      s.asked l tag code.toNat ps →
      exec (.unknownRequest l tag code ps) s = .next (s.replied l tag code.toNat .unknown [])

/-- The model's choice (log entry 4): a request command that does not name the oldest request of its link is no event of the
part and changes nothing. -/
def Obligations.RequestsNotWaitingChangeNothing : Prop :=
  ∀ (i : Instr) (l : LinkId) (tag : Byte) (code : Nat) (ps : List Byte) (s : State),
    i.asks = some (l, tag, code, ps) → ¬ s.asked l tag code ps → exec i s = .next s

/-! ## Resets (R1, R43, R57, R101, R113, R126, R142, R160, R182, R184) -/

/-- What both resets leave of each link (R184): IDLE, queues empty, nothing taken, a count of 0 with READY high, ATTN low,
RESTARTED alone set, the settings at their reset values and the mark clear. The commanded reset is a RESET taken with the
mark set. A transfer in progress has its frame discarded and sends zeros for its remaining clocks (R182). -/
def Obligations.ResetSetsEachLink : Prop :=
  ∀ (s : State) (stop : Bool) (vbat : Nat) (isense : Int) (i : Instr),
    (i = .powerOnReset stop vbat isense
      ∨ ∃ l tag, i = .reset l tag [] stop vbat isense ∧ s.asked l tag 0x06 [] ∧ (s.link l).armed = true) →
    ∃ t, exec i s = .next t ∧ ∀ l,
      (t.link l).state = .idle ∧ (t.link l).inbound = [] ∧ (t.link l).replies = [] ∧ (t.link l).notices = []
      ∧ (t.link l).taken = [] ∧ (t.link l).count = 0 ∧ (t.link l).ready = true ∧ (t.link l).attn = false
      ∧ (t.link l).quiet = 0 ∧ (t.link l).frameMark = false ∧ (t.link l).ageTimer = none
      ∧ (t.link l).sticky = ⟨true, false, false, false⟩ ∧ (t.link l).settings = ⟨1, 500, 4, .brake⟩
      ∧ (t.link l).armed = false
      ∧ (t.link l).transfer.isSome = (s.link l).transfer.isSome
      ∧ ∀ x, (t.link l).transfer = some x → x.aborted = true ∧ ∀ n, x.sdoByte n = 0

/-- What both resets leave of the other blocks: every port record, claim, pair, stream and voice as after reset, the store
scanning with its array and info row as they stood, nothing read, queued or in progress in it, B = 128 with the lock clear
where the info row is erased; each motion unit COASTING and empty, its counter, its regulator state and its settings at their
reset values (R80, R98), HALTED exactly when the STOP line is asserted at the reset's end; and the supply monitor on its first
sample with its settings at their reset values (R113 to R118). The model's choices in it: the commands that wait are kept (log
entry 40), an undetermined part of the array stays so (log entry 11), an encoder keeps the levels of its lines (log entry 8), a
port's rate code is 0 (log entry 45), and the record of the messages a port has sent starts empty (log entry 13). -/
def Obligations.ResetSetsEachBlock : Prop :=
  ∀ (s : State) (stop : Bool) (vbat : Nat) (isense : Int) (i : Instr),
    (i = .powerOnReset stop vbat isense
      ∨ ∃ l tag, i = .reset l tag [] stop vbat isense ∧ s.asked l tag 0x06 [] ∧ (s.link l).armed = true) →
    ∃ t, exec i s = .next t
      ∧ t.ports = State.reset.ports ∧ t.claims = State.reset.claims ∧ t.pairs = State.reset.pairs
      ∧ t.streams = [] ∧ t.sound = State.reset.sound ∧ t.deviceTime = 0 ∧ t.stopLine = stop
      ∧ (∀ p, t.unit p = ⟨stop, .coasting, [], none, 0, (s.unit p).encA, (s.unit p).encB,
          ⟨0, 0, 0, false, ⟨0, 0, 0, 0⟩, 4, 0, none⟩, ⟨200, 40, 0, 64, 2000, 2000, 1000, 400, 0⟩, none⟩)
      ∧ t.store.array = s.store.array ∧ t.store.infoRow = s.store.infoRow ∧ t.store.undet = s.store.undet
      ∧ t.store.scanning = true ∧ t.store.directory = [] ∧ t.store.jobs = [] ∧ t.store.ctx = none
      ∧ t.store.activity = .idle ∧ t.store.reads = [] ∧ t.store.opInHand = none
      ∧ t.store.reading = none ∧ (∀ v, t.store.fetches.get v = none) ∧ t.store.work = [] ∧ t.store.jobRunning = false
      ∧ t.store.cleanup = false ∧ t.store.suspending = false ∧ t.store.eraseRun = 0 ∧ t.store.pointer = 0
      ∧ (∀ b lock, s.store.infoRow = some (b, lock) → t.store.heldB = b ∧ t.store.heldLock = lock)
      ∧ (s.store.infoRow = none → t.store.heldB = 128 ∧ t.store.heldLock = false)
      ∧ t.supply.v = min 16000 (vbat : Int) ∧ t.supply.i = max 0 (min 16000 isense)
      ∧ t.supply.vf = t.supply.v ∧ t.supply.iflt = 0
      ∧ t.supply.cv = (if 6400 ≤ t.supply.vf then 1000 else if t.supply.vf ≤ 5600 then 400
          else 400 + truncDiv (600 * (t.supply.vf - 5600)) 800)
      ∧ t.supply.ci = 1000 ∧ t.supply.s = min t.supply.cv t.supply.ci
      ∧ t.supply.volCeil = truncDiv (t.supply.s * 256) 1000
      ∧ t.supply.state = (if 6400 ≤ t.supply.vf then .normal else .low)
      ∧ t.supply.lowRun = (if t.supply.vf < 5600 then 1 else 0)
      ∧ t.supply.warning = (if 6400 ≤ t.supply.vf then none else some 60000)
      ∧ t.supply.vnom = 7200 ∧ t.supply.vsoft = 6400 ∧ t.supply.vhard = 5600 ∧ t.supply.ilim = 4000
      ∧ t.supply.warnClip = some 0
      ∧ t.pending = s.pending

/-! ## Links (chapter 11) -/

/-- ATTN is high exactly while a reply waits, a notice other than DATA waits, or the DATA notices reach the threshold
(R177). -/
def Obligations.AttnFollowsQueues : Prop :=
  ∀ k : Link,
    k.attn = true ↔ k.replies ≠ [] ∨ (∃ n ∈ k.notices, ∀ d, n ≠ .data d)
      ∨ k.settings.threshold ≤ (k.notices.filter Notice.isData).length

/-- At the SELn fall the message is picked: the head of the reply queue, else of the notice queue, else a FILLER of length
2; it carries the flags byte of that moment in its third byte, and nothing else changes. SDOn sends the picked message, and
zero bytes after its last byte (R176). -/
def Obligations.SelFallPicksMessage : Prop :=
  ∀ (l : LinkId) (s : State), (s.link l).transfer = none →
    ∃ picked bytes,
      exec (.selFall l) s
        = .next (s.setLink l { s.link l with transfer := some ⟨picked, bytes, true, false, false⟩ })
      ∧ bytes[2]? = some (s.flagsByte l)
      ∧ (∀ r rest, (s.link l).replies = r :: rest → picked = .reply
          ∧ bytes = BitVec.ofNat 8 (r.payload.length + 5) :: 0x01 :: s.flagsByte l :: r.tag :: r.code :: r.status.byte
              :: r.payload)
      ∧ (∀ n rest, (s.link l).replies = [] → (s.link l).notices = n :: rest →
          picked = (match n with
            | .data d => .data d.entry
            | _ => .event)
          ∧ bytes = BitVec.ofNat 8 (n.bytes.2.length + 2) :: n.bytes.1 :: s.flagsByte l :: n.bytes.2)
      ∧ ((s.link l).replies = [] → (s.link l).notices = [] → picked = .filler ∧ bytes = [2, 0, s.flagsByte l])
      ∧ (∀ n, (⟨picked, bytes, true, false, false⟩ : Transfer).sdoByte n = if n < bytes.length then bytes.getD n 0 else 0)

/-- The flags byte: the sticky flags RESTARTED, LAPSE_SEEN, REQUEST_LOST and NOTICE_LOST in bits 0 to 3, HALTED in bit 4
while any motion unit is HALTED, the supply state in bits 5 and 6, SCANNING in bit 7 (R178, section 12.1). -/
def Obligations.FlagsByteShowsFlags : Prop :=
  ∀ (s : State) (l : LinkId),
    (s.flagsByte l).getLsbD 0 = (s.link l).sticky.restarted ∧ (s.flagsByte l).getLsbD 1 = (s.link l).sticky.lapseSeen
    ∧ (s.flagsByte l).getLsbD 2 = (s.link l).sticky.requestLost ∧ (s.flagsByte l).getLsbD 3 = (s.link l).sticky.noticeLost
    ∧ ((s.flagsByte l).getLsbD 4 = true ↔ ∃ p, (s.unit p).halted = true)
    ∧ ((s.flagsByte l).toNat / 32) % 4 = (match s.supply.state with
        | .normal => 0
        | .low => 1
        | .brownout => 2)
    ∧ (s.flagsByte l).getLsbD 7 = s.store.scanning

/-- A frame arrival acts on its link's state, whatever the frame carries: IDLE and LAPSED become ACTIVE with the quiet count
0 and the age timer started, a LAPSED link setting LAPSE_SEEN; an ACTIVE link sets its frame mark (R173, R179). The picked
message leaves its queue exactly if all its bytes were clocked out and it still stood there unreplaced (R134, R176). The model's
readings in it: the frame mark is clear at the entry to ACTIVE (log entry 49), and the frame of a transfer that a reset struck is
link activity too and removes nothing (log entry 17). -/
def Obligations.SelRiseArrivesAndDelivers : Prop :=
  ∀ (l : LinkId) (clocked : List Byte) (midByte : Bool) (s : State) (t : Transfer),
    (s.link l).transfer = some t →
    ∃ k, exec (.selRise l clocked midByte) s = .next (s.setLink l k)
      ∧ k.transfer = none ∧ k.state = .active
      ∧ ((s.link l).state = .active → k.frameMark = true ∧ k.quiet = (s.link l).quiet
        ∧ k.ageTimer = (s.link l).ageTimer ∧ k.sticky.lapseSeen = (s.link l).sticky.lapseSeen)
      ∧ ((s.link l).state ≠ .active → k.frameMark = false ∧ k.quiet = 0
        ∧ k.ageTimer = some (s.link l).settings.interval
        ∧ (k.sticky.lapseSeen = true ↔ (s.link l).state = .lapsed ∨ (s.link l).sticky.lapseSeen = true))
      ∧ (t.held = true ∧ t.replaced = false ∧ t.aborted = false ∧ t.bytes.length ≤ clocked.length →
        k.replies = (if t.picked = .reply then (s.link l).replies.drop 1 else (s.link l).replies)
        ∧ k.notices = (if t.picked = .reply ∨ t.picked = .filler then (s.link l).notices
            else (s.link l).notices.drop 1))
      ∧ (t.held = false ∨ t.replaced = true ∨ t.aborted = true ∨ clocked.length < t.bytes.length →
        k.replies = (s.link l).replies ∧ k.notices = (s.link l).notices)
      ∧ k.taken = (s.link l).taken ∧ k.settings = (s.link l).settings ∧ k.armed = (s.link l).armed
      ∧ k.activation = (s.link l).activation ∧ k.sticky.restarted = (s.link l).sticky.restarted
      ∧ k.sticky.noticeLost = (s.link l).sticky.noticeLost

/-- The judging of a frame after the outbound removal (R173, R174). A complete frame with a request is appended to the inbound
queue below a count of 8, and otherwise discarded with REQUEST_LOST set; extra bytes are ignored. So is a complete frame of
length 1, a request without a code. An incomplete frame, a length byte above 63 and a transfer without a whole byte set
REQUEST_LOST; a pure fetch and the frame of a transfer that a reset struck (log entry 17) set no flag. A transfer that ends
inside a byte is incomplete also when its frame arrived whole before that byte: the model's choice (log entry 48). -/
def Obligations.SelRiseJudgesFrame : Prop :=
  (∀ (l : LinkId) (tag code : Byte) (ps extra : List Byte) (s : State) (t : Transfer),
    (s.link l).transfer = some t → t.aborted = false → ps.length ≤ 61 →
    ∃ k, exec (.selRise l (BitVec.ofNat 8 (ps.length + 2) :: tag :: code :: ps ++ extra) false) s = .next (s.setLink l k)
      ∧ (if (s.link l).inbound.length + (s.link l).taken.length + k.replies.length < 8 then
          k.inbound = (s.link l).inbound ++ [⟨tag, some code, ps⟩]
            ∧ k.sticky.requestLost = (s.link l).sticky.requestLost
        else k.inbound = (s.link l).inbound ∧ k.sticky.requestLost = true))
  ∧ (∀ (l : LinkId) (tag : Byte) (extra : List Byte) (s : State) (t : Transfer),
    (s.link l).transfer = some t → t.aborted = false →
    ∃ k, exec (.selRise l (1 :: tag :: extra) false) s = .next (s.setLink l k)
      ∧ (if (s.link l).inbound.length + (s.link l).taken.length + k.replies.length < 8 then
          k.inbound = (s.link l).inbound ++ [⟨tag, none, []⟩] ∧ k.sticky.requestLost = (s.link l).sticky.requestLost
        else k.inbound = (s.link l).inbound ∧ k.sticky.requestLost = true))
  ∧ (∀ (l : LinkId) (clocked : List Byte) (midByte : Bool) (s : State) (t : Transfer),
    (s.link l).transfer = some t →
    ∃ k, exec (.selRise l clocked midByte) s = .next (s.setLink l k)
      ∧ (t.aborted = true → k.inbound = (s.link l).inbound ∧ k.sticky.requestLost = (s.link l).sticky.requestLost)
      ∧ (t.aborted = false →
        (clocked = [] ∨ midByte = true
          ∨ (∃ len body, clocked = len :: body ∧ (63 < len.toNat ∨ body.length < len.toNat))) →
          k.inbound = (s.link l).inbound ∧ k.sticky.requestLost = true)
      ∧ (∀ body, t.aborted = false → midByte = false → clocked = 0 :: body →
          k.inbound = (s.link l).inbound ∧ k.sticky.requestLost = (s.link l).sticky.requestLost))

/-- An age tick (R179, R180). Below the robustness, the quiet count is 0 after a frame and one more without, at most 15; the mark
is cleared and the timer runs again. When it reaches the robustness, the link is LAPSED with its queues emptied, its mark clear
and its settings and sticky flags kept. It holds no claim: the segments of the ports and pairs it held are gone and their motors
have taken its lapse action (R54), a unit without a motor or light staying COASTING (log entry 39). It is a member of no stream
(R138); a clip it was writing is ABANDONED and its pending reads are withdrawn (R155); no voice of it reports (R168). Its peer, if
ACTIVE, is sent PEER_LAPSED and nothing else. Device time and the supply monitor are untouched. -/
def Obligations.AgeTickCountsAndLapses : Prop :=
  (∀ (l : LinkId) (s : State) (n : Nat),
    (s.link l).state = .active → (s.link l).ageTimer.isSome = true →
    n = (if (s.link l).frameMark then 0 else min 15 ((s.link l).quiet + 1)) →
    ((s.link l).settings.robustness = 0 ∨ n < (s.link l).settings.robustness) →
    exec (.ageTick l) s = .next (s.setLink l
      { s.link l with quiet := n, frameMark := false, ageTimer := some (s.link l).settings.interval }))
  ∧ (∀ (l : LinkId) (s : State), s.countInv →
    (s.link l).state = .active → (s.link l).ageTimer.isSome = true → (s.link l).frameMark = false →
    (s.link l).settings.robustness ≠ 0 → (s.link l).settings.robustness ≤ min 15 ((s.link l).quiet + 1) →
    ∃ t, exec (.ageTick l) s = .next t
      ∧ (t.link l).state = .lapsed ∧ (t.link l).inbound = [] ∧ (t.link l).replies = [] ∧ (t.link l).notices = []
      ∧ (t.link l).count = 0 ∧ (t.link l).armed = false ∧ (t.link l).ageTimer = none
      ∧ (t.link l).settings = (s.link l).settings ∧ (t.link l).sticky = (s.link l).sticky
      ∧ (t.link l).activation ≠ (s.link l).activation
      ∧ (∀ p, (t.claim p).holder ≠ some l) ∧ s.releasesClaims t l ∧ (∀ e ∈ t.streams, e.members.get l = false)
      ∧ s.abandonsClip t l
      ∧ (∀ v, (t.voice v).busy = true → (t.voice v).owner = some (.link l) →
        (t.voice v).report = false ∧ (t.voice v).loops = 0)
      ∧ s.tellsPeer t l .lapse
      ∧ t.now = s.now ∧ t.supply = s.supply ∧ t.ports = s.ports ∧ t.stopLine = s.stopLine ∧ t.pending = s.pending)

/-- LEAVE: the link becomes IDLE with nothing held but the LEAVE's own OK reply, its work undone as by a lapse (R180, R181): no
request and no notice; no claim, the ports and pairs it held empty and settled by its lapse action (R54; log entry 39 for a unit
without a motor or light); no stream (R138); the clip it was writing ABANDONED and no read of it pending (R155); no reported
voice (R168). Its peer, if ACTIVE, is sent PEER_LAPSED with cause LEAVE and nothing else. The clear frame mark is the model's
choice (log entry 49). -/
def Obligations.LeaveReleasesLink : Prop :=
  ∀ (l : LinkId) (tag : Byte) (s : State), s.asked l tag 0x04 [] →
    ∃ t, exec (.leave l tag []) s = .next t
      ∧ (t.link l).state = .idle ∧ (t.link l).inbound = [] ∧ (t.link l).taken = [] ∧ (t.link l).notices = []
      ∧ (t.link l).replies = [⟨tag, 0x04, .ok, []⟩] ∧ (t.link l).count = 1 ∧ (t.link l).attn = true
      ∧ (t.link l).quiet = 0 ∧ (t.link l).frameMark = false ∧ (t.link l).ageTimer = none ∧ (t.link l).armed = false
      ∧ (t.link l).settings = (s.link l).settings ∧ (t.link l).sticky = (s.link l).sticky
      ∧ (∀ p, (t.claim p).holder ≠ some l) ∧ s.releasesClaims t l ∧ (∀ e ∈ t.streams, e.members.get l = false)
      ∧ s.abandonsClip t l
      ∧ (∀ v, (t.voice v).busy = true → (t.voice v).owner = some (.link l) →
        (t.voice v).report = false ∧ (t.voice v).loops = 0)
      ∧ s.tellsPeer t l .leave
      ∧ t.now = s.now ∧ t.supply = s.supply ∧ t.ports = s.ports ∧ t.stopLine = s.stopLine ∧ t.pending = s.pending

/-- The requests of the links (R178, R182, R183). IDENTIFY is answered with the family code 0x3620, revision 1 and the
capacities; CLEAR_FLAGS clears the selected flags of its own link and reports them as they stood, and refuses a selection that
names none; SET_LINK replaces the present settings, each clamped to its range, and reports all four; a RESET taken with the
mark clear is refused NOT_ARMED; RESET_ARM sets the mark of its own link. Field widths that no rule lists are the model's
reading (log entry 30): the family code in two bytes, the revision, the flags and the threshold in one each. That presence bits 4
to 7 are ignored is the model's choice (log entry 51). -/
def Obligations.LinkRequests : Prop :=
  ((∀ (l : LinkId) (tag : Byte) (s : State), s.asked l tag 0x01 [] →
    exec (.identify l tag []) s
      = .next (s.replied l tag 0x01 .ok [0x20, 0x36, 1, BitVec.ofNat 8 l.num, 6, 4, 24, 128, 64, 3]))
  ∧ ∀ (l : LinkId) (tag sel : Byte) (s : State), s.asked l tag 0x03 [sel] →
    exec (.clearFlags l tag [sel]) s
      = .next (if sel.toNat % 16 = 0 then s.replied l tag 0x03 .badParam []
        else
          let f := (s.link l).sticky
          s.setLink l
            { (s.link l).replied tag 0x03 .ok
                [BitVec.ofNat 8 (f.restarted.toNat + 2 * f.lapseSeen.toNat + 4 * f.requestLost.toNat
                  + 8 * f.noticeLost.toNat)] with
              sticky := ⟨f.restarted && !sel.getLsbD 0, f.lapseSeen && !sel.getLsbD 1,
                f.requestLost && !sel.getLsbD 2, f.noticeLost && !sel.getLsbD 3⟩ }))
  ∧ (∀ (l : LinkId) (tag sel th qLow qHigh rb act : Byte) (s : State) (k : LinkSettings) (q : Nat),
    s.asked l tag 0x02 [sel, th, qLow, qHigh, rb, act] → k = (s.link l).settings → q = qLow.toNat + 256 * qHigh.toNat →
    exec (.setLink l tag [sel, th, qLow, qHigh, rb, act]) s
      = .next (if sel.getLsbD 3 = true ∧ 1 < act.toNat then s.replied l tag 0x02 .badParam []
        else
          let new : LinkSettings :=
            ⟨if sel.getLsbD 0 then max 1 (min 32 th.toNat) else k.threshold,
              if sel.getLsbD 1 then max 100 (min 5000 q) else k.interval,
              if sel.getLsbD 2 then min 15 rb.toNat else k.robustness,
              if sel.getLsbD 3 then (if act = 0 then .coast else .brake) else k.lapseAction⟩
          let clamped : Bool := (sel.getLsbD 0 && decide (th.toNat < 1 ∨ 32 < th.toNat))
            || (sel.getLsbD 1 && decide (q < 100 ∨ 5000 < q)) || (sel.getLsbD 2 && decide (15 < rb.toNat))
          s.setLink l
            { (s.link l).replied tag 0x02 (if clamped then .adjusted else .ok)
                [BitVec.ofNat 8 new.threshold, BitVec.ofNat 8 new.interval, BitVec.ofNat 8 (new.interval / 256),
                  BitVec.ofNat 8 new.robustness, if new.lapseAction = .coast then 0 else 1] with
              settings := new }))
  ∧ ((∀ (l : LinkId) (tag : Byte) (stop : Bool) (vbat : Nat) (isense : Int) (s : State),
    s.asked l tag 0x06 [] → (s.link l).armed = false →
      exec (.reset l tag [] stop vbat isense) s = .next (s.replied l tag 0x06 .notArmed []))
  ∧ ∀ (l : LinkId) (tag : Byte) (s : State), s.asked l tag 0x05 [] →
      exec (.resetArm l tag []) s
        = .next (s.setLink l { (s.link l).replied tag 0x05 .ok [] with armed := true }))

/-! ## Ports (chapter 1) -/

/-- The supply-off period after a reset ends with the supply on. A probe event of a port with its supply on counts the run of
equal readings, saturating at 3; where no new classification is due and the port is no TOUCH, nothing else changes. A PROBING
port that classifies level 0 becomes EMPTY without a notice. The retry timer of a port in FAULT expires: the supply is on and
the port is PROBING with the classification reset. PORT_RESET does the same to a FAULT_LATCHED port and empties its fault
history; on any other port it is answered OK and changes nothing (R1, R2, R3, R13, R15). -/
def Obligations.PortPowerAndProbing : Prop :=
  ((∀ (p : Port) (s : State), (s.port p).powerTimer.isSome = true →
    exec (.portPowerRestore p) s = .next (s.setPort p { s.port p with power := true, powerTimer := none }))
  ∧ (∀ (p : Port) (level : Level) (rxLow : Bool) (s : State) (run : Nat), (s.port p).power = true →
    run = (if (s.port p).lastReading = some level then min 3 ((s.port p).run + 1) else 1) →
    (run ≠ 3 ∨ (s.port p).level = some level) → (s.port p).kind ≠ .touch →
    exec (.probeEvent p level rxLow) s = .next (s.setPort p { s.port p with lastReading := some level, run := run }))
  ∧ ∀ (p : Port) (rxLow : Bool) (s : State), (s.port p).power = true → (s.port p).state = .probing →
    (s.port p).level = none → (s.port p).lastReading = some 0 → 2 ≤ (s.port p).run →
    exec (.probeEvent p 0 rxLow) s = .next (s.setPort p { s.port p with state := .empty, level := some 0, run := 3 }))
  ∧ ((∀ (p : Port) (s : State), (s.port p).state = .fault →
    exec (.retryTimerExpiry p) s = .next (s.setPort p { s.port p with
      state := .probing, power := true, retry := none, level := none, lastReading := none, run := 0 }))
  ∧ ∀ (l : LinkId) (tag : Byte) (p : Port) (s : State), s.asked l tag 0x16 [BitVec.ofNat 8 p.num] →
      exec (.portReset l tag [BitVec.ofNat 8 p.num]) s = .next
        ((if (s.port p).state = .faultLatched then
            s.setPort p { s.port p with
              state := .probing, power := true, retry := none, level := none, lastReading := none, run := 0, faults := [] }
          else s).replied l tag 0x16 .ok []))

/-- A PROBING or EMPTY port that classifies level 1 to 7 attaches (R3, R5, R6, R7): its motion unit is COASTING, empty, with
the default settings and its history filled with the position. Level 1 makes it DESCRIBING with kind SERIAL, opens attempt 0
at 2400 baud with a RATE message, and sends no notice; level 2, 3 and 5 to 7 make it PASSIVE and send ATTACHED; level 4 makes
it TOUCH, in mode 0, with its first sample numbered 0. No other port, claim or clip changes, and, but for what a touch sample
ends, no pair and no other motion unit. A later probe event of a TOUCH port takes a sample: an active segment whose condition
names the port in mode 0, is met and has another baseline ends CONDITION (R67); a segment alone in its queue ends with its end
action (R72), and with its notify its issuer is told (R73). The type id, cause, latched byte and trips that ATTACHED carries are
the model's reading (log entry 19). -/
def Obligations.ProbeAttaches : Prop :=
  (∀ (p : Port) (level : Level) (rxLow : Bool) (s : State), (s.port p).power = true →
    ((s.port p).state = .probing ∨ (s.port p).state = .empty) → level ≠ 0 → (s.port p).level ≠ some level →
    (s.port p).lastReading = some level → 2 ≤ (s.port p).run →
    ∃ t, exec (.probeEvent p level rxLow) s = .next t
      ∧ (t.port p).level = some level
      ∧ (level = 1 → (t.port p).state = .describing ∧ (t.port p).kind = .serial ∧ (t.port p).desc = none
        ∧ (t.port p).sample = none ∧ (t.port p).rate = 0 ∧ (t.port p).sent = (s.port p).sent ++ [.rate 0]
        ∧ (t.port p).hs = some ⟨0, some 1500, false, none, [], none⟩ ∧ t.links = s.links ∧ t.streams = s.streams)
      ∧ (level ≠ 1 → (t.port p).state = .passive
        ∧ (t.port p).kind = (if level = 2 then .plainMotor else if level = 3 then .light else if level = 4 then .touch
            else .unknown)
        ∧ (∀ l, (s.link l).state = .active → 32 ≤ (t.link l).notices.length
            ∨ (t.link l).notices.getLast? = some (.portEvent ⟨.attached, p, (t.port p).kind, (s.port p).typeId,
                if level = 4 then some 0 else none, .none, false, 0⟩)))
      ∧ (level = 4 → (t.port p).mode = some 0 ∧ (t.port p).desc = some ⟨none, [⟨1, 1, 0, 1, 0, 1, 10, 0⟩]⟩
        ∧ ((s.port p).sample = none → (t.port p).sample
            = some ⟨0, [if rxLow then 1 else 0], [if rxLow then 1 else 0], some 0, s.deviceTime, false⟩))
      ∧ (level ≠ 4 → t.unit p = { s.unit p with
          motor := .coasting, queue := [], hold := none, act := none
          reg := ⟨0, 0, 0, false, ⟨(s.unit p).position, (s.unit p).position, (s.unit p).position, (s.unit p).position⟩, 4, 0,
            none⟩
          settings := ⟨200, 40, 0, 64, 2000, 2000, 1000, 400, 0⟩ })
      ∧ (level ≠ 4 → t.pairs = s.pairs ∧ ∀ q, q ≠ p → t.unit q = s.unit q)
      ∧ (∀ q, q ≠ p → t.port q = s.port q) ∧ t.claims = s.claims ∧ t.store = s.store ∧ t.sound = s.sound
      ∧ t.supply = s.supply ∧ t.now = s.now ∧ t.pending = s.pending)
  ∧ ∀ (p x : Port) (rxLow : Bool) (s : State) (r : SampleRec) (m : MotionUnit) (g : Segment) (a : Activation) (c : StopCond)
    (v : Int) (n : BitVec 16), (s.port p).power = true → (s.port p).kind = .touch → (s.port p).level = some 4 →
    (s.port p).sample = some r → v = (if rxLow then 1 else 0) → n = (r.seq.map fun k => k + 1).getD 0 →
    m = s.unit x → m.queue = [g] → m.act = some a → g.cond = some c → c.source = p → c.mode = 0 → c.index = 0 →
    a.baseline ≠ some n →
    (match c.relation with
      | .below => v < c.t1
      | .above => c.t1 < v
      | .inside => c.t1 ≤ v ∧ v ≤ c.t2
      | .outside => v < c.t1 ∨ c.t2 < v) →
    ∃ t, exec (.probeEvent p 4 rxLow) s = .next t
      ∧ (t.port p).sample = some ⟨0, [v], [v], some n, s.deviceTime, false⟩
      ∧ (t.unit x).queue = [] ∧ (t.unit x).act = none ∧ (t.unit x).position = m.position
      ∧ ((∀ q z, s.pairAt q = some z → ∀ h ∈ z.queue, ∀ d ∈ h.seg.cond, d.source ≠ p) →
        (t.unit x).endedBy g.endAction (a.target.getD m.position))
      ∧ (g.notify = true → s.sendsEnd t x none g .condition)
      ∧ (∀ q, q ≠ p → t.port q = s.port q) ∧ t.claims = s.claims ∧ t.supply = s.supply ∧ t.now = s.now
      ∧ t.store = s.store ∧ t.sound = s.sound ∧ t.pending = s.pending

/-- A described or passive port that classifies level 0 is detached (R3, R8 to R11): its waiting SET_MODEs and writes are
answered NO_DEVICE, its record is cleared but for the tap and the fault history, its claim is free, its streams are gone. Its
own segments end DETACHED and its motor coasts; its pair is dissolved, the pair's segments ending DETACHED and both motors
coasting. An active segment of another port or pair whose condition names it ends SOURCE_LOST with its end action (R69), and
none is left active. Every ACTIVE link is told; the kind, type id and mode of the notice are log entry 19, and that the discarding
of characters ends with the detach is log entry 29. The other ports' records and claims, the clip store, the voices and the supply
monitor are as before. -/
def Obligations.ProbeDetaches : Prop :=
  ∀ (p : Port) (rxLow : Bool) (s : State), (s.port p).power = true →
    ((s.port p).state = .passive ∨ (s.port p).state = .describing ∨ (s.port p).state = .active) →
    (s.port p).level ≠ some 0 → (s.port p).lastReading = some 0 → 2 ≤ (s.port p).run →
    ∃ t, exec (.probeEvent p 0 rxLow) s = .next t
      ∧ t.port p = { PortUnit.afterReset with
          state := .empty, power := true, powerTimer := (s.port p).powerTimer, level := some 0, lastReading := some 0
          run := 3, faults := (s.port p).faults, retry := (s.port p).retry, tapTarget := (s.port p).tapTarget
          tapSel := (s.port p).tapSel, rate := (s.port p).rate, sent := (s.port p).sent }
      ∧ (∀ w ∈ (s.port p).waiting, w.dest.activation = (s.link w.dest.link).activation →
          ⟨w.dest.tag, w.dest.code, .noDevice, []⟩ ∈ (t.link w.dest.link).replies)
      ∧ (∀ w ∈ (s.port p).writes, w.dest.activation = (s.link w.dest.link).activation →
          ⟨w.dest.tag, w.dest.code, .noDevice, []⟩ ∈ (t.link w.dest.link).replies)
      ∧ t.claim p = ⟨none, false⟩ ∧ (∀ e ∈ t.streams, e ∈ s.streams ∧ e.key.port ≠ some p)
      ∧ (∀ e ∈ s.streams, e.key.port ≠ some p → e ∈ t.streams)
      ∧ (s.pairOf p = none → (t.unit p).queue = [] ∧ (t.unit p).motor = .coasting ∧ (t.unit p).reg.duty = 0
        ∧ ∀ g ∈ (s.unit p).queue, s.sendsEnd t p none g .detached)
      ∧ (∀ q, s.pairOf p = some q → t.pairAt q = none)
      ∧ (∀ q r, s.pairOf p = some q → s.pairAt q = some r →
        (∀ g ∈ r.queue, s.sendsEnd t (if 0 ≤ g.steer then r.portA else r.portB) (some q) g.seg .detached)
        ∧ ∀ x, x = r.portA ∨ x = r.portB → (s.unit x).queue = [] →
          (∀ y z, y ≠ q → s.pairAt y = some z → z.portA ≠ x ∧ z.portB ≠ x) →
          (t.unit x).motor = .coasting ∧ (t.unit x).hold = none ∧ (t.unit x).reg.duty = 0)
      ∧ (∀ q g rest, (t.unit q).queue = g :: rest → ∀ c ∈ g.cond, c.source ≠ p)
      ∧ (∀ q r g rest, t.pairAt q = some r → r.queue = g :: rest → ∀ c ∈ g.seg.cond, c.source ≠ p)
      ∧ (∀ x g rest, x ≠ p → s.pairOf x = none → (s.unit x).queue = g :: rest → g.cond.map StopCond.source = some p →
        (t.unit x).queue = [] ∧ s.sendsEnd t x none g .sourceLost ∧ (∀ h ∈ rest, s.sendsEnd t x none h .flushed)
        ∧ (t.unit x).endedBy g.endAction (((s.unit x).act.bind Activation.target).getD (s.unit x).position))
      ∧ (∀ q r g rest, s.pairOf p ≠ some q → s.pairAt q = some r → r.queue = g :: rest →
        g.seg.cond.map StopCond.source = some p →
        (∃ r', t.pairAt q = some r' ∧ r'.queue = [] ∧ r'.act = none ∧ r'.corrA = 0 ∧ r'.corrB = 0)
        ∧ s.sendsEnd t (if 0 ≤ g.steer then r.portA else r.portB) (some q) g.seg .sourceLost
        ∧ ∀ h ∈ rest, s.sendsEnd t (if 0 ≤ h.steer then r.portA else r.portB) (some q) h.seg .flushed)
      ∧ (∀ l, (s.link l).state = .active → 32 ≤ (t.link l).notices.length
          ∨ (t.link l).notices.getLast? = some (.portEvent ⟨.detached, p, (s.port p).kind, (s.port p).typeId, none, .none,
              false, 0⟩))
      ∧ (∀ q, q ≠ p → t.port q = s.port q ∧ t.claim q = s.claim q)
      ∧ t.store = s.store ∧ t.sound = s.sound ∧ t.supply = s.supply ∧ t.now = s.now ∧ t.pending = s.pending

/-- An overcurrent trip of a port with its supply on (R12): the supply goes off; entries of the fault history older than
10,000 ms leave; with two left the port is FAULT_LATCHED and its retry timer stopped, otherwise the trip is entered and the
port is in FAULT for 1000 ms. A port that was attached loses its device and its claim. Each ACTIVE link is told the trips
counted; that the FAULT notice carries kind none, no type id and no mode is the model's reading (log entry 19). Other ports'
records are as before. -/
def Obligations.OvercurrentTrips : Prop :=
  ∀ (p : Port) (s : State) (kept : List Nat), (s.port p).power = true →
    kept = (s.port p).faults.filter (fun x => decide (s.now - x ≤ 10000)) →
    ∃ t, exec (.overcurrentTrip p) s = .next t
      ∧ (t.port p).power = false
      ∧ (2 ≤ kept.length → (t.port p).state = .faultLatched ∧ (t.port p).retry = none ∧ (t.port p).faults = kept)
      ∧ (kept.length < 2 → (t.port p).state = .fault ∧ (t.port p).retry = some 1000
        ∧ (t.port p).faults = kept ++ [s.now])
      ∧ ((s.port p).kind ≠ .none → (t.port p).kind = .none ∧ (t.port p).desc = none ∧ (t.port p).sample = none
        ∧ (t.port p).rateCap = 5 ∧ (t.port p).log = [] ∧ t.claim p = ⟨none, false⟩)
      ∧ ((s.port p).kind = .none → t.claims = s.claims ∧ t.motion = s.motion ∧ t.pairs = s.pairs ∧ t.streams = s.streams)
      ∧ (∀ l, (s.link l).state = .active → 32 ≤ (t.link l).notices.length
          ∨ (t.link l).notices.getLast? = some (.portEvent ⟨.fault, p, .none, none, none, .overcurrent,
              decide (2 ≤ kept.length), if 2 ≤ kept.length then 3 else kept.length + 1⟩))
      ∧ (∀ q, q ≠ p → t.port q = s.port q ∧ t.claim q = s.claim q)
      ∧ t.store = s.store ∧ t.sound = s.sound ∧ t.supply = s.supply ∧ t.now = s.now ∧ t.pending = s.pending

/-- The port requests that only report or set one record. PORT_INFO reports the port's state when it is taken: its fields stand
in their bytes in the order R16 lists them; with a mode selector it adds that mode's description. READ_VALUE reports the
sample record in R34's order, or NO_DEVICE without one. READ_LOG reports the records, five bytes each, and empties the log.
SET_TAP sets the tap. Nothing else changes (R16, R34, R41, R42, R186). The model's readings in it: the tap's two bytes (log entry 30), a yes or no sent
as 1 or 0 (log entry 24), the value format after the raw values (log entry 20), and the trip count of a latched port as the entries
within 10 s plus one, where that is not 3 (log entry 52). -/
def Obligations.PortReports : Prop :=
  (∀ (l : LinkId) (tag : Byte) (p : Port) (s : State) (u : PortUnit), s.asked l tag 0x10 [BitVec.ofNat 8 p.num, 0xFF] →
    u = s.port p →
    ∃ bs : List Byte, exec (.portInfo l tag [BitVec.ofNat 8 p.num, 0xFF]) s = .next (s.replied l tag 0x10 .ok bs)
      ∧ bs.length = 26 ∧ bs.getD 1 0 = (BitVec.ofNat 8 u.kind.code)
      ∧ bs.getD 2 0 = ((u.level.map fun x => BitVec.ofNat 8 x.toNat).getD 0xFF)
      ∧ (bs.drop 3).take 3 = (match u.typeId with
          | some x => 1 :: le2 x.toNat
          | none => [0, 0, 0])
      ∧ bs.getD 7 0 = ((u.mode.map fun x => BitVec.ofNat 8 x).getD 0xFF)
      ∧ bs.getD 8 0 = ((u.pendingMode.map fun x => BitVec.ofNat 8 x).getD 0xFF)
      ∧ (∀ h ms, u.desc = some ⟨some h, ms⟩ → bs.getD 6 0 = BitVec.ofNat 8 h.modeCount
        ∧ bs.getD 9 0 = (if h.hasEncoder then 1 else 0)
        ∧ (bs.drop 10).take 6 = (match h.countsPerRev with
            | some x => 1 :: le2 x
            | none => [0, 0, 0]) ++ (match h.maxSpeed with
            | some x => 1 :: le2 x
            | none => [0, 0, 0]))
      ∧ (u.desc = none → bs.getD 6 0 = 0 ∧ bs.getD 9 0 = 0xFF ∧ (bs.drop 10).take 6 = [0, 0, 0, 0, 0, 0])
      ∧ bs.getD 16 0 = ((u.agreed.map fun x => BitVec.ofNat 8 x).getD 0xFF)
      ∧ bs.getD 17 0 = (BitVec.ofNat 8 u.rateCap)
      ∧ bs.getD 19 0 = (BitVec.ofNat 8 ((u.faults.filter fun x => decide (s.now - x ≤ 10000)).length
          + if u.state = .faultLatched then 1 else 0))
      ∧ bs.getD 20 0 = (if u.state = .faultLatched then 1 else 0)
      ∧ bs.getD 21 0 = (match (s.claim p).holder with
          | some .cl0 => 0
          | some .cl1 => 1
          | none => 2)
      ∧ bs.getD 22 0 = (if (s.claim p).locked then 1 else 0)
      ∧ bs.getD 23 0 = (((s.pairOf p).map fun q => BitVec.ofNat 8 q.num).getD 0xFF)
      ∧ bs.getD 24 0 = (match u.tapTarget with
          | none => 0
          | some .cl0 => 1
          | some .cl1 => 2)
      ∧ bs.getD 25 0 = ((u.tapSel.map fun x => BitVec.ofNat 8 x.code).getD 0xFF))
  ∧ (∀ (l : LinkId) (tag sel : Byte) (p : Port) (s : State), s.asked l tag 0x10 [BitVec.ofNat 8 p.num, sel] → sel ≠ 0xFF →
    exec (.portInfo l tag [BitVec.ofNat 8 p.num, sel]) s = .next
      (match (s.port p).modeDesc sel.toNat with
        | some m => s.replied l tag 0x10 .ok (s.summaryBytes p
            ++ (BitVec.ofNat 8 m.valueCount :: BitVec.ofNat 8 m.format
              :: (le4i m.rawLow ++ le4i m.rawHigh ++ le4i m.outLow ++ le4i m.outHigh ++ le2 m.minInterval ++ [m.unit])))
        | none => s.replied l tag 0x10 .badParam []))
  ∧ (∀ (l : LinkId) (tag : Byte) (p : Port) (s : State), s.asked l tag 0x11 [BitVec.ofNat 8 p.num] →
    exec (.readValue l tag [BitVec.ofNat 8 p.num]) s = .next
      (match (s.port p).sample with
        | some r => s.replied l tag 0x11 .ok
            ([BitVec.ofNat 8 p.num, BitVec.ofNat 8 r.valuesMode, BitVec.ofNat 8 r.raw.length] ++ r.raw.flatMap le4i
              ++ [BitVec.ofNat 8 ((((s.port p).modeDesc r.valuesMode).map ModeDesc.format).getD 0)]
              ++ r.scaled.flatMap le4i ++ (match r.seq with
                | some n => 1 :: le2 n.toNat
                | none => [0, 0, 0])
              ++ le4 r.arrival.toNat ++ [if r.stale then 1 else 0])
        | none => s.replied l tag 0x11 .noDevice []))
  ∧ (∀ (l : LinkId) (tag : Byte) (p : Port) (s : State), s.asked l tag 0x15 [BitVec.ofNat 8 p.num] →
    exec (.readLog l tag [BitVec.ofNat 8 p.num]) s = .next
      ((s.setPort p { s.port p with log := [] }).replied l tag 0x15 .ok
        (BitVec.ofNat 8 (s.port p).log.length :: (s.port p).log.flatMap fun r =>
          [BitVec.ofNat 8 r.outcome.code, (r.cls.map fun c => BitVec.ofNat 8 c.code).getD 0xFF,
            (r.len.map fun n => BitVec.ofNat 8 n).getD 0xFF, BitVec.ofNat 8 r.time.toNat,
            BitVec.ofNat 8 (r.time.toNat / 256)])))
  ∧ ∀ (l : LinkId) (tag : Byte) (p : Port) (target : Option LinkId) (sel : TapSel) (s : State) (ps : List Byte),
    ps = [BitVec.ofNat 8 p.num, match target with
      | none => 0
      | some .cl0 => 1
      | some .cl1 => 2, BitVec.ofNat 8 sel.code] →
    s.asked l tag 0x14 ps →
    exec (.setTap l tag ps) s = .next
      ((s.setPort p { s.port p with tapTarget := target, tapSel := some sel }).replied l tag 0x14 .ok [])

/-! ## The device serial protocol (chapter 2) -/

/-- Scaling (R33): the raw value is clamped into the mode's raw range and mapped linearly, to the nearest integer, so that
the result lies between the two output bounds and meets each at its end of the range. -/
def Obligations.ScaleMapsLinearly : Prop :=
  ∀ (m : ModeDesc) (r : Int), m.rawLow < m.rawHigh →
    (r ≤ m.rawLow → scale m r = m.outLow) ∧ (m.rawHigh ≤ r → scale m r = m.outHigh)
    ∧ min m.outLow m.outHigh ≤ scale m r ∧ scale m r ≤ max m.outLow m.outHigh
    ∧ (m.rawLow ≤ r → r ≤ m.rawHigh →
      mag (2 * ((scale m r - m.outLow) * (m.rawHigh - m.rawLow) - (r - m.rawLow) * (m.outHigh - m.outLow)))
        ≤ m.rawHigh - m.rawLow)

/-- A message that ends with an outcome other than OK on an ACTIVE port below the fourth in a row (R19, R20, R29, R41): it is
logged, and the error run is one more; MODE_MISMATCH leaves the run, and restarts the silence timer only while a mode is
pending. With no tap set, nothing else changes. A framing error starts the discarding of characters, which an idle gap ends;
a gap within a message ends it TRUNCATED. -/
def Obligations.BadMessagesCount : Prop :=
  (∀ (p : Port) (bs : List Byte) (s : State) (o : MsgOutcome) (u : PortUnit), u = s.port p →
    u.state = .active → u.discarding = false → u.tapTarget = none → wholeMessage bs = true →
    o = u.expect.outcome bs → o ≠ .ok → (o ≠ .modeMismatch → u.errorRun < 3) → (o = .modeMismatch → u.errorRun < 4) →
    exec (.messageOutcome p bs false) s = .next (s.setPort p { u with
      log := appendLog u.log ⟨o, messageClass bs, bs.head?.map leadLength, BitVec.ofNat 16 s.now⟩
      errorRun := if o = .modeMismatch then u.errorRun else u.errorRun + 1
      silence := if o = .modeMismatch ∧ u.pendingMode ≠ none then some 250 else u.silence }))
  ∧ (∀ (p : Port) (bs : List Byte) (s : State) (u : PortUnit), u = s.port p →
    u.state = .active → u.discarding = false → u.tapTarget = none → shortMessage bs = true → u.errorRun < 3 →
    exec (.messageOutcome p bs true) s = .next (s.setPort p { u with
        log := appendLog u.log ⟨.framingError, messageClass bs, bs.head?.map leadLength, BitVec.ofNat 16 s.now⟩
        errorRun := u.errorRun + 1, discarding := true })
    ∧ (bs ≠ [] → exec (.gapTimeout p bs) s = .next (s.setPort p { u with
        log := appendLog u.log ⟨.truncated, messageClass bs, bs.head?.map leadLength, BitVec.ofNat 16 s.now⟩
        errorRun := u.errorRun + 1 })))
  ∧ ∀ (p : Port) (s : State),
    exec (.idleGapAfterFramingError p) s = .next (s.setPort p { s.port p with discarding := false })

/-- An OK DATA on an ACTIVE port with no mode pending (R32, R20): the sample record takes the raw values, each scaled, the
next sequence number and the time; STALE is cleared, the silence timer restarts and the error run is 0. The message is
logged. While a mode is pending, the same DATA in that mode confirms it (R37): the mode becomes the current one and the
waiting SET_MODEs are answered OK; where it differs from the mode before, MODE_CHANGED is sent, streams of the port in other
modes are SUSPENDED, those in the new mode resume and emit on this sample (R135), and an active segment whose condition named
the port in the old mode ends SOURCE_LOST (R69). No other port's record and no claim changes. The fields of MODE_CHANGED that R37
does not list, its type id, cause, latched byte and trips, are the model's reading (log entry 19). -/
def Obligations.DataUpdatesSample : Prop :=
  (∀ (p : Port) (bs : List Byte) (s : State) (u : PortUnit) (mode : Nat) (m : ModeDesc), u = s.port p →
    u.state = .active → u.discarding = false → u.pendingMode = none → u.mode = some mode → u.modeDesc mode = some m →
    wholeMessage bs = true → messageClass bs = some .data → u.expect.outcome bs = .ok →
    ∃ t, exec (.messageOutcome p bs false) s = .next t
      ∧ t.port p = { u with
          log := appendLog u.log ⟨.ok, some .data, bs.head?.map leadLength, BitVec.ofNat 16 s.now⟩
          silence := some 250, errorRun := 0
          sample := some ⟨mode, rawValues m.format m.valueCount (bs.drop 2),
            (rawValues m.format m.valueCount (bs.drop 2)).map (scale m),
            some (match u.sample.bind SampleRec.seq with
              | some n => n + 1
              | none => 0), s.deviceTime, false⟩ }
      ∧ (∀ q, q ≠ p → t.port q = s.port q) ∧ t.claims = s.claims ∧ t.supply = s.supply ∧ t.store = s.store
      ∧ t.sound = s.sound ∧ t.now = s.now ∧ t.pending = s.pending)
  ∧ ∀ (p : Port) (bs : List Byte) (s : State) (u : PortUnit) (mode : Nat) (m : ModeDesc) (raw scaled : List Int), u = s.port p →
    u.state = .active → u.discarding = false → u.pendingMode = some mode → u.modeDesc mode = some m →
    wholeMessage bs = true → messageClass bs = some .data → u.expect.outcome bs = .ok →
    raw = rawValues m.format m.valueCount (bs.drop 2) → scaled = raw.map (scale m) →
    ∃ t, exec (.messageOutcome p bs false) s = .next t
      ∧ t.port p = { u with
          log := appendLog u.log ⟨.ok, some .data, bs.head?.map leadLength, BitVec.ofNat 16 s.now⟩
          silence := some 250, errorRun := 0, mode := some mode, pendingMode := none, restore := false, modeTimer := none
          waiting := []
          sample := some ⟨mode, raw, scaled, some (match u.sample.bind SampleRec.seq with
            | some n => n + 1
            | none => 0), s.deviceTime, false⟩ }
      ∧ (∀ w ∈ u.waiting, w.dest.activation = (s.link w.dest.link).activation →
          ⟨w.dest.tag, w.dest.code, .ok, []⟩ ∈ (t.link w.dest.link).replies)
      ∧ (∀ old, u.mode = some old → old ≠ mode →
        (∀ l, s.sends t l (.portEvent ⟨.modeChanged, p, u.kind, u.typeId, some mode, .none, false, 0⟩))
        ∧ (∀ e ∈ s.streams, e.key.kind = .sensor → e.key.port = some p → e.key.mode ≠ mode →
          { e with suspended := true } ∈ t.streams)
        ∧ (∀ e ∈ s.streams, e.key.kind = .sensor → e.key.port = some p → e.key.mode = mode → e.suspended = true →
          { e with suspended := false, lastEmit := some s.deviceTime, lastSent := scaled } ∈ t.streams)
        ∧ (∀ x g rest c, (s.unit x).queue = g :: rest → g.cond = some c → c.source = p → c.mode = old →
          (t.unit x).queue = [] ∧ s.sendsEnd t x none g .sourceLost ∧ ∀ h ∈ rest, s.sendsEnd t x none h .flushed))
      ∧ (u.mode = some mode → ∀ e ∈ s.streams, e.suspended = true → e ∈ t.streams)
      ∧ (∀ q, q ≠ p → t.port q = s.port q) ∧ t.claims = s.claims ∧ t.supply = s.supply ∧ t.store = s.store
      ∧ t.sound = s.sound ∧ t.now = s.now ∧ t.pending = s.pending

/-- A loss of an ACTIVE port (R28 to R30): the silence timer's expiry leaves the rate cap; the fourth bad message in a row
(a truncated one, one broken by a framing error, or a whole one whose outcome is neither OK nor MODE_MISMATCH, R20) lowers it
to one below the rate in use, and not below 1. The port stays attached and described, DESCRIBING at 2400 baud with
attempt 0 open; its sample record is STALE; pending SET_MODEs and writes are answered and gone. Claims, motion, pairs and
streams stand, and no notice is sent for the loss: with no tap set, no notice at all. That characters being discarded go on being
discarded through a loss is the model's reading (log entry 29). -/
def Obligations.LossRestartsHandshake : Prop :=
  ∀ (p : Port) (i : Instr) (s : State) (u : PortUnit) (bs : List Byte), u = s.port p → u.state = .active →
    (i = .silenceLoss p ∧ u.silence.isSome = true
      ∨ i = .gapTimeout p bs ∧ bs ≠ [] ∧ shortMessage bs = true ∧ u.errorRun = 3 ∧ u.discarding = false
      ∨ i = .messageOutcome p bs true ∧ shortMessage bs = true ∧ u.errorRun = 3 ∧ u.discarding = false
      ∨ i = .messageOutcome p bs false ∧ wholeMessage bs = true ∧ u.errorRun = 3 ∧ u.discarding = false
        ∧ u.expect.outcome bs ≠ .ok ∧ u.expect.outcome bs ≠ .modeMismatch) →
    ∃ t, exec i s = .next t
      ∧ (t.port p).state = .describing ∧ (t.port p).kind = u.kind ∧ (t.port p).typeId = u.typeId
      ∧ (t.port p).desc = u.desc ∧ (t.port p).mode = u.mode ∧ (t.port p).rate = 0
      ∧ (t.port p).hs = some ⟨0, some 1500, false, none, [], none⟩ ∧ (t.port p).sent = u.sent ++ [.rate 0]
      ∧ (t.port p).sample = u.sample.map (fun r => { r with stale := true })
      ∧ (t.port p).silence = none ∧ (t.port p).keepAlive = none ∧ (t.port p).errorRun = 0
      ∧ (t.port p).pendingMode = none ∧ (t.port p).waiting = [] ∧ (t.port p).writes = [] ∧ (t.port p).writeTimer = none
      ∧ (t.port p).rateCap = (if i = .silenceLoss p then u.rateCap
          else max 1 (min u.rateCap (u.agreed.getD u.rateCap) - 1))
      ∧ (i ≠ .silenceLoss p → (t.port p).discarding = decide (i = .messageOutcome p bs true))
      ∧ (∀ q, q ≠ p → t.port q = s.port q) ∧ t.claims = s.claims ∧ t.motion = s.motion ∧ t.pairs = s.pairs
      ∧ t.streams = s.streams ∧ t.store = s.store ∧ t.sound = s.sound ∧ t.supply = s.supply ∧ t.now = s.now
      ∧ t.pending = s.pending
      ∧ (i = .silenceLoss p ∨ u.tapTarget = none →
        ∀ l, (t.link l).notices = (s.link l).notices ∧ (t.link l).sticky = (s.link l).sticky)
      ∧ (∀ w ∈ u.waiting, w.dest.activation = (s.link w.dest.link).activation →
          ⟨w.dest.tag, w.dest.code, .modeFailed, []⟩ ∈ (t.link w.dest.link).replies)
      ∧ (∀ w ∈ u.writes, w.dest.activation = (s.link w.dest.link).activation →
          ⟨w.dest.tag, w.dest.code, .noResponse, []⟩ ∈ (t.link w.dest.link).replies)

/-- The handshake (R14, R22 to R26). The first DESC's lead byte restarts the attempt timer once. An OK HEAD is staged when none is, and
an OK MODE with the number of modes staged, within R23's limits, max speed and minimum interval brought into range; END after
all MODEs is accepted with an ACK at the smaller of the device's rate and the cap. A message that is not OK, a second HEAD and
the timer's expiry fail the attempt: a new one opens; the third puts the port in FAULT with cause HANDSHAKE for 1000 ms, its
supply off and its device gone. The sent ACK makes the port ACTIVE with fresh timers. First handshake: mode 0, the staged
descriptor, an empty sample record, the motor's defaults and ATTACHED. Same identity: descriptor, mode and record stay,
REDESCRIBED is sent, and MODE goes out for a pending mode, or for a mode other than 0 as a mode restore. Another identity: the
old device is detached and the new one attached, the agreed rate kept. What a notice does not carry is log entry 19; the
discarding of characters that goes on is log entry 29. -/
def Obligations.HandshakeEnds : Prop :=
  ((∀ (p : Port) (s : State) (h : Handshake), (s.port p).hs = some h → (s.port p).receives = true → h.leadSeen = false →
    h.ended = none →
    exec (.firstDescLeadByte p) s
      = .next (s.setPort p { s.port p with hs := some { h with timer := some 1500, leadSeen := true } }))
  ∧ (∀ (p : Port) (bs ps : List Byte) (s : State) (u : PortUnit) (h : Handshake), u = s.port p → u.state = .describing →
    u.discarding = false → u.tapTarget = none → u.hs = some h → h.ended = none →
    (∀ v : PortUnit, v = { u with log := appendLog u.log ⟨.ok, some .desc, some ps.length, BitVec.ofNat 16 s.now⟩ } →
      (bs = 0x0A :: ps ++ [checkByte (0x0A :: ps)] → ps.length = 10 → byteAt ps 0 = 0 → h.stagedHead = none →
        1 ≤ byteAt ps 3 → byteAt ps 3 ≤ 8 → byteAt ps 4 ≤ 5 →
        ((byteAt ps 5).testBit 0 = true → wordAt ps 6 ≠ 0 ∧ wordAt ps 8 ≠ 0) →
        exec (.messageOutcome p bs false) s = .next (s.setPort p { v with
          hs := some { h with stagedHead := some (BitVec.ofNat 16 (wordAt ps 1),
            ⟨byteAt ps 3, byteAt ps 4, (byteAt ps 5).testBit 0,
              if (byteAt ps 5).testBit 0 then some (wordAt ps 6) else none,
              if (byteAt ps 5).testBit 0 then some (min 32000 (wordAt ps 8)) else none⟩) } }))
      ∧ (∀ x, bs = 0x17 :: ps ++ [checkByte (0x17 :: ps)] → ps.length = 23 → byteAt ps 0 = 1 → h.stagedHead = some x →
        byteAt ps 1 = h.stagedModes.length → h.stagedModes.length < x.2.modeCount → 1 ≤ byteAt ps 2 → byteAt ps 2 ≤ 4 →
        byteAt ps 3 ∈ [1, 2, 4] → signedOf 32 (longAt ps 4) < signedOf 32 (longAt ps 8) → wordAt ps 20 ≤ 60000 →
        exec (.messageOutcome p bs false) s = .next (s.setPort p { v with
          hs := some { h with stagedModes := h.stagedModes ++ [⟨byteAt ps 2, byteAt ps 3, signedOf 32 (longAt ps 4),
            signedOf 32 (longAt ps 8), signedOf 32 (longAt ps 12), signedOf 32 (longAt ps 16), max 10 (wordAt ps 20),
            ps.getD 22 0⟩] } }))
      ∧ (∀ x, bs = 0x02 :: ps ++ [checkByte (0x02 :: ps)] → ps.length = 2 → byteAt ps 0 = 2 → h.stagedHead = some x →
        h.stagedModes.length = x.2.modeCount → byteAt ps 1 = x.2.modeCount →
        exec (.messageOutcome p bs false) s = .next (s.setPort p { v with
          hs := some { h with timer := none, ended := some (min x.2.maxRate u.rateCap) }
          sent := u.sent ++ [.ack (min x.2.maxRate u.rateCap)] }))
      ∧ (∀ x, bs = 0x0A :: ps ++ [checkByte (0x0A :: ps)] → ps.length = 10 → byteAt ps 0 = 0 → h.stagedHead = some x →
        h.attempt < 2 →
        exec (.messageOutcome p bs false) s = .next (s.setPort p { v with
          hs := some ⟨h.attempt + 1, some 1500, false, none, [], none⟩, sent := u.sent ++ [.rate 0] })))
    ∧ (∀ o, wholeMessage bs = true → o = u.expect.outcome bs → o ≠ .ok → h.attempt < 2 →
      exec (.messageOutcome p bs false) s = .next (s.setPort p { u with
        log := appendLog u.log ⟨o, messageClass bs, bs.head?.map leadLength, BitVec.ofNat 16 s.now⟩
        hs := some ⟨h.attempt + 1, some 1500, false, none, [], none⟩, sent := u.sent ++ [.rate 0] }))))
  ∧ (∀ (p : Port) (s : State) (u act : PortUnit) (h : Handshake) (typeId : BitVec 16) (head : Head) (code : Nat),
    u = s.port p → u.hs = some h → h.stagedHead = some (typeId, head) → h.ended = some code →
    act = { u with
      state := .active, rate := code, agreed := some code, silence := some 250, errorRun := 0, keepAlive := some 100
      hs := none } →
    (u.desc = none →
      ∃ t, exec (.ackSent p) s = .next t
        ∧ t.port p = { act with
            kind := .serial, typeId := some typeId, desc := some ⟨some head, h.stagedModes⟩, mode := some 0
            sample := (t.port p).sample }
        ∧ (∃ r, (t.port p).sample = some r ∧ r.raw = [] ∧ r.scaled = [] ∧ r.seq = none ∧ r.stale = false)
        ∧ t.unit p = { s.unit p with settings := ⟨200, 40,
            (if head.hasEncoder then (head.maxSpeed.map fun v => clamp 0 1023 (truncDiv 256000 v)).getD 0 else 0),
            64, 2000, 2000, 1000, 400, 0⟩ }
        ∧ (∀ l, (s.link l).state = .active → 32 ≤ (t.link l).notices.length
            ∨ (t.link l).notices.getLast? = some (.portEvent ⟨.attached, p, .serial, some typeId, some 0, .none, false, 0⟩))
        ∧ (∀ q, q ≠ p → t.port q = s.port q ∧ t.unit q = s.unit q) ∧ t.claims = s.claims ∧ t.pairs = s.pairs
        ∧ t.streams = s.streams ∧ t.store = s.store ∧ t.sound = s.sound ∧ t.supply = s.supply ∧ t.now = s.now)
    ∧ (u.typeId = some typeId → u.desc = some ⟨some head, h.stagedModes⟩ →
      ∃ t, exec (.ackSent p) s = .next t
        ∧ (∀ m, u.pendingMode = some m → t.port p = { act with sent := u.sent ++ [.mode m] })
        ∧ (∀ m, u.pendingMode = none → u.mode = some m → m ≠ 0 → t.port p = { act with
            pendingMode := some m, restore := true, modeTimer := some 1000, sent := u.sent ++ [.mode m] })
        ∧ (u.pendingMode = none → u.mode = some 0 → t.port p = act)
        ∧ (∀ l, (s.link l).state = .active → 32 ≤ (t.link l).notices.length
            ∨ (t.link l).notices.getLast? = some (.portEvent ⟨.redescribed, p, u.kind, some typeId, u.mode, .none, false, 0⟩))
        ∧ (∀ q, q ≠ p → t.port q = s.port q) ∧ t = { s with ports := t.ports, links := t.links })
    ∧ (∀ d, u.desc = some d → u.typeId ≠ some typeId ∨ d ≠ ⟨some head, h.stagedModes⟩ →
      ∃ t, exec (.ackSent p) s = .next t
        ∧ t.port p = { PortUnit.afterReset with
            state := .active, power := u.power, powerTimer := u.powerTimer, level := u.level, lastReading := u.lastReading
            run := u.run, kind := .serial, typeId := some typeId, desc := some ⟨some head, h.stagedModes⟩, mode := some 0
            sample := (t.port p).sample, agreed := some code, faults := u.faults, retry := u.retry
            tapTarget := u.tapTarget, tapSel := u.tapSel, rate := code, discarding := u.discarding, silence := some 250
            keepAlive := some 100, sent := u.sent }
        ∧ (∃ r, (t.port p).sample = some r ∧ r.raw = [] ∧ r.scaled = [] ∧ r.seq = none ∧ r.stale = false)
        ∧ t.claim p = ⟨none, false⟩ ∧ (∀ e ∈ t.streams, e ∈ s.streams ∧ e.key.port ≠ some p)
        ∧ (t.unit p).queue = [] ∧ (t.unit p).motor = .coasting ∧ (∀ q, s.pairOf p = some q → t.pairAt q = none)
        ∧ (t.unit p).settings = ⟨200, 40,
            (if head.hasEncoder then (head.maxSpeed.map fun v => clamp 0 1023 (truncDiv 256000 v)).getD 0 else 0),
            64, 2000, 2000, 1000, 400, 0⟩
        ∧ (∀ l, s.sends t l (.portEvent ⟨.detached, p, u.kind, u.typeId, none, .none, false, 0⟩))
        ∧ (∀ l, (s.link l).state = .active → 32 ≤ (t.link l).notices.length
            ∨ (t.link l).notices.getLast? = some (.portEvent ⟨.attached, p, .serial, some typeId, some 0, .none, false, 0⟩))
        ∧ (∀ q, q ≠ p → t.port q = s.port q ∧ t.claim q = s.claim q) ∧ t.store = s.store ∧ t.sound = s.sound
        ∧ t.supply = s.supply ∧ t.now = s.now))
  ∧ (∀ (p : Port) (s : State) (h : Handshake), (s.port p).hs = some h → h.timer.isSome = true →
    (h.attempt < 2 → exec (.attemptTimerExpiry p) s = .next (s.setPort p { s.port p with
      hs := some ⟨h.attempt + 1, some 1500, false, none, [], none⟩, sent := (s.port p).sent ++ [.rate 0] }))
    ∧ (h.attempt = 2 → (s.port p).kind ≠ .none →
      ∃ t, exec (.attemptTimerExpiry p) s = .next t
        ∧ (t.port p).state = .fault ∧ (t.port p).power = false ∧ (t.port p).retry = some 1000
        ∧ (t.port p).kind = .none ∧ (t.port p).hs = none ∧ (t.port p).faults = (s.port p).faults
        ∧ t.claim p = ⟨none, false⟩
        ∧ (∀ l, (s.link l).state = .active → 32 ≤ (t.link l).notices.length
          ∨ (t.link l).notices.getLast? = some (.portEvent ⟨.fault, p, .none, none, none, .handshake, false,
              ((s.port p).faults.filter fun x => decide (s.now - x ≤ 10000)).length⟩))
        ∧ (∀ q, q ≠ p → t.port q = s.port q ∧ t.claim q = s.claim q) ∧ t.store = s.store ∧ t.supply = s.supply))

/-- The keep-alive expiry of an ACTIVE port sends KEEP, followed by MODE while a mode is pending, and restarts its 100 ms
(R27). The mode timer's expiry answers every waiting SET_MODE MODE_FAILED, in list order, and removes the pending mode; a mode
restore that fails falls back to mode 0: MODE_CHANGED is sent, streams of the port in other modes are SUSPENDED, those in mode
0 resume, and an active segment whose condition named the port in the old mode ends SOURCE_LOST, its end action applied (R38,
R69, R135). The write timer's expiry answers the write awaiting acknowledgement NO_RESPONSE and sends the next (R40). The type id,
cause, latched byte and trips that MODE_CHANGED carries are the model's reading (log entry 19). -/
def Obligations.SerialTimersExpire : Prop :=
  (∀ (p : Port) (s : State), (s.port p).state = .active → (s.port p).keepAlive.isSome = true →
    exec (.keepAliveExpiry p) s = .next (s.setPort p { s.port p with
      keepAlive := some 100
      sent := (s.port p).sent ++ [.keep] ++ (match (s.port p).pendingMode with
        | some m => [.mode m]
        | none => []) }))
  ∧ (∀ (p : Port) (s : State) (m : Nat), (s.port p).modeTimer.isSome = true → (s.port p).pendingMode = some m →
    (s.port p).restore = false →
    exec (.modeTimerExpiry p) s = .next
      (((s.port p).waiting.foldl (fun t w => t.answer w.dest .modeFailed []) s).setPort p { s.port p with
        pendingMode := none, modeTimer := none, waiting := [] }))
  ∧ (∀ (p : Port) (s : State) (u : PortUnit) (m old : Nat), u = s.port p → u.modeTimer.isSome = true →
    u.pendingMode = some m → u.restore = true → u.mode = some old →
    ∃ t, exec (.modeTimerExpiry p) s = .next t
      ∧ t.port p = { u with mode := some 0, pendingMode := none, restore := false, modeTimer := none }
      ∧ (∀ l, s.sends t l (.portEvent ⟨.modeChanged, p, u.kind, u.typeId, some 0, .none, false, 0⟩))
      ∧ t.streams = s.streams.map (fun e =>
          if e.key.kind = .sensor ∧ e.key.port = some p then
            (if e.key.mode = 0 then (if e.suspended then { e with suspended := false, lastEmit := none } else e)
              else { e with suspended := true })
          else e)
      ∧ (∀ x g rest c, (s.unit x).queue = g :: rest → g.cond = some c → c.source = p → c.mode = old →
        (t.unit x).queue = [] ∧ s.sendsEnd t x none g .sourceLost ∧ (∀ h ∈ rest, s.sendsEnd t x none h .flushed)
        ∧ (s.pairOf x = none →
          (t.unit x).endedBy g.endAction (((s.unit x).act.bind Activation.target).getD (s.unit x).position)))
      ∧ (∀ x g rest, (t.unit x).queue = g :: rest → t.unit x = s.unit x ∨ (s.pairOf x).isSome = true)
      ∧ (∀ q, q ≠ p → t.port q = s.port q) ∧ t.claims = s.claims ∧ t.supply = s.supply ∧ t.store = s.store
      ∧ t.sound = s.sound ∧ t.now = s.now ∧ t.pending = s.pending)
  ∧ ∀ (p : Port) (s : State) (w : WriteReq) (rest : List WriteReq), (s.port p).writeTimer.isSome = true →
    (s.port p).writes = w :: rest →
    exec (.writeTimerExpiry p) s = .next
      ((s.answer w.dest .noResponse []).setPort p { s.port p with
        writes := rest, writeTimer := if rest = [] then none else some 200
        sent := (s.port p).sent ++ (rest.head?.map fun x => .write x.data).toList })

/-- SET_MODE and PORT_WRITE of the link that holds the port (R36, R39): the mode in use is confirmed at once; a new mode
becomes pending with this request alone waiting, is sent, and has 1000 ms; a write of 1 to 31 bytes joins a queue of fewer
than four, the first of them being sent at once with 200 ms. -/
def Obligations.SetModeAndPortWrite : Prop :=
  (∀ (l : LinkId) (tag mode : Byte) (p : Port) (s : State) (u : PortUnit),
    s.asked l tag 0x12 [BitVec.ofNat 8 p.num, mode] → u = s.port p → u.state = .active → u.kind = .serial →
    (u.modeDesc mode.toNat).isSome = true → s.pairOf p = none → (s.claim p).holder = some l →
    u.pendingMode = none → u.waiting = [] →
    exec (.setMode l tag [BitVec.ofNat 8 p.num, mode]) s = .next
      (if u.mode = some mode.toNat then s.replied l tag 0x12 .ok []
      else (s.accepted l tag 0x12).setPort p { u with
        pendingMode := some mode.toNat, restore := false, modeTimer := some 1000
        waiting := [⟨⟨l, (s.link l).activation, tag, 0x12⟩, mode.toNat⟩], sent := u.sent ++ [.mode mode.toNat] }))
  ∧ ∀ (l : LinkId) (tag n : Byte) (data : List Byte) (p : Port) (s : State) (u : PortUnit) (ps : List Byte),
    ps = BitVec.ofNat 8 p.num :: n :: data → s.asked l tag 0x13 ps → u = s.port p → u.state = .active →
    u.kind = .serial → u.desc.isSome = true → s.pairOf p = none → (s.claim p).holder = some l →
    data.length = n.toNat → 1 ≤ n.toNat → n.toNat ≤ 31 → u.writes.length < 4 →
    exec (.portWrite l tag ps) s = .next ((s.accepted l tag 0x13).setPort p { u with
      writes := u.writes ++ [⟨⟨l, (s.link l).activation, tag, 0x13⟩, data⟩]
      writeTimer := if u.writes = [] then some 200 else u.writeTimer
      sent := u.sent ++ (if u.writes = [] then [.write data] else []) })

/-! ## Claims (chapter 3) -/

/-- The claim step for a claiming request that names one port (R44, R45): a port number outside 1 to 6 is refused BAD_PARAM,
a port without a device NO_DEVICE, a port of a pair PAIRED, and a port locked by the other link LOCKED; nothing but the
request's own link changes. -/
def Obligations.ClaimStepRefuses : Prop :=
  ∀ (i : Instr) (l : LinkId) (tag : Byte) (code : Nat) (ps : List Byte) (s : State),
    i ∈ [Instr.move l tag ps, .stop l tag ps, .setRegulator l tag ps, .setPosition l tag ps, .setMode l tag ps,
      .portWrite l tag ps] →
    i.asks = some (l, tag, code, ps) → s.asked l tag code ps → lengthAllowed code ps = some true →
    (portAt ps 0 = none → exec i s = .next (s.replied l tag code .badParam []))
    ∧ ∀ p, portAt ps 0 = some p →
      ((s.port p).state ∈ [PortState.empty, .probing, .fault, .faultLatched] →
        exec i s = .next (s.replied l tag code .noDevice []))
      ∧ ((s.port p).state ∈ [PortState.passive, .describing, .active] → (s.pairOf p).isSome = true →
        exec i s = .next (s.replied l tag code .paired []))
      ∧ ((s.port p).state ∈ [PortState.passive, .describing, .active] → s.pairOf p = none →
        s.claim p = ⟨some l.other, true⟩ → exec i s = .next (s.replied l tag code .locked []))

/-- LOCK, UNLOCK and RELEASE (R49 to R51). LOCK of a free port or pair, or of the link's own, makes the link the holder with
the lock set; UNLOCK of the holder's port or pair clears the lock; each is answered OK and changes nothing else. RELEASE of a
port ends its segments RELEASED, the active one first and then the waiting ones in queue order, each with its SEGMENT_END (R73),
coasts its motor and clears its record; of a pair, the pair's segments, both motors and both records; the pair record stays. -/
def Obligations.LockUnlockRelease : Prop :=
  (∀ (l : LinkId) (tag : Byte) (p : Port) (s : State), s.pairOf p = none →
    (s.asked l tag 0x20 [0, BitVec.ofNat 8 p.num] → (s.port p).state ∈ [PortState.passive, .describing, .active] →
      (s.claim p = ⟨none, false⟩ ∨ (s.claim p).holder = some l) →
      exec (.lock l tag [0, BitVec.ofNat 8 p.num]) s = .next ((s.setClaim p ⟨some l, true⟩).replied l tag 0x20 .ok []))
    ∧ (s.asked l tag 0x21 [0, BitVec.ofNat 8 p.num] → (s.claim p).holder = some l →
      exec (.unlock l tag [0, BitVec.ofNat 8 p.num]) s = .next ((s.setClaim p ⟨some l, false⟩).replied l tag 0x21 .ok []))
    ∧ (s.asked l tag 0x22 [0, BitVec.ofNat 8 p.num] → (s.claim p).holder = some l →
      ∃ t, exec (.release l tag [0, BitVec.ofNat 8 p.num]) s = .next t
        ∧ t.claims = s.claims.set p ⟨none, false⟩
        ∧ t.unit p = { s.unit p with
            queue := [], act := (if (s.unit p).queue = [] then (s.unit p).act else none), motor := .coasting, hold := none
            reg := { (s.unit p).reg with duty := 0, clamped := false, holdCreep := none } }
        ∧ (∀ g ∈ (s.unit p).queue, s.sendsEnd t p none g .released)
        ∧ s.endsInOrder t l none ((s.unit p).queue.map fun g => (p, g)) .released
            (((s.unit p).act.map fun x => s.now - x.start).getD 0)
        ∧ (∀ q, q ≠ p → t.unit q = s.unit q) ∧ (t.link l).replies = (s.link l).replies ++ [⟨tag, 0x22, .ok, []⟩]
        ∧ t = { s with claims := t.claims, motion := t.motion, links := t.links }))
  ∧ ∀ (l : LinkId) (tag : Byte) (q : PairId) (r : PairRec) (s : State), s.pairAt q = some r → r.portA ≠ r.portB →
    (s.asked l tag 0x20 [1, BitVec.ofNat 8 q.num] →
      (s.claim r.portA = ⟨none, false⟩ ∧ s.claim r.portB = ⟨none, false⟩
        ∨ (s.claim r.portA).holder = some l ∧ (s.claim r.portB).holder = some l) →
      exec (.lock l tag [1, BitVec.ofNat 8 q.num]) s
        = .next (((s.setClaim r.portA ⟨some l, true⟩).setClaim r.portB ⟨some l, true⟩).replied l tag 0x20 .ok []))
    ∧ (s.asked l tag 0x21 [1, BitVec.ofNat 8 q.num] → (s.claim r.portA).holder = some l →
      (s.claim r.portB).holder = some l →
      exec (.unlock l tag [1, BitVec.ofNat 8 q.num]) s
        = .next (((s.setClaim r.portA ⟨some l, false⟩).setClaim r.portB ⟨some l, false⟩).replied l tag 0x21 .ok []))
    ∧ (s.asked l tag 0x22 [1, BitVec.ofNat 8 q.num] → (s.claim r.portA).holder = some l →
      (s.claim r.portB).holder = some l →
      ∃ t, exec (.release l tag [1, BitVec.ofNat 8 q.num]) s = .next t
        ∧ t.claims = (s.claims.set r.portA ⟨none, false⟩).set r.portB ⟨none, false⟩
        ∧ (∃ r', t.pairAt q = some r' ∧ r'.queue = [] ∧ r'.portA = r.portA ∧ r'.portB = r.portB ∧ r'.ks = r.ks)
        ∧ (∀ g ∈ r.queue, s.sendsEnd t (if 0 ≤ g.steer then r.portA else r.portB) (some q) g.seg .released)
        ∧ s.endsInOrder t l (some q) (r.queue.map fun g => (if 0 ≤ g.steer then r.portA else r.portB, g.seg)) .released
            ((r.act.map fun x => s.now - x.start).getD 0)
        ∧ (t.unit r.portA).motor = .coasting ∧ (t.unit r.portB).motor = .coasting
        ∧ (t.unit r.portA).reg.duty = 0 ∧ (t.unit r.portB).reg.duty = 0
        ∧ (∀ p, p ≠ r.portA → p ≠ r.portB → t.unit p = s.unit p) ∧ (∀ x, x ≠ q → t.pairAt x = s.pairAt x)
        ∧ (t.link l).replies = (s.link l).replies ++ [⟨tag, 0x22, .ok, []⟩]
        ∧ t = { s with claims := t.claims, motion := t.motion, pairs := t.pairs, links := t.links })

/-- A takeover (R45, R47, R48), seen through LOCK: the other link's segments end TAKEN_OVER, each with its SEGMENT_END in queue
order (R73), the record passes to the requesting link, CLAIM_LOST tells the old holder how many segments ended, and the motor
takes the end action of the segment that was active; with no segment it is left as it stands. -/
def Obligations.TakeoverMovesClaim : Prop :=
  ∀ (l : LinkId) (tag : Byte) (p : Port) (s : State), s.asked l tag 0x20 [0, BitVec.ofNat 8 p.num] →
    (s.port p).state ∈ [PortState.passive, .describing, .active] → s.pairOf p = none →
    s.claim p = ⟨some l.other, false⟩ →
    ∃ t, exec (.lock l tag [0, BitVec.ofNat 8 p.num]) s = .next t
      ∧ t.claims = s.claims.set p ⟨some l, true⟩ ∧ (t.unit p).queue = []
      ∧ (t.unit p).position = (s.unit p).position ∧ (t.unit p).settings = (s.unit p).settings
      ∧ (t.unit p).reg.acc = (s.unit p).reg.acc ∧ (t.unit p).reg.integral = (s.unit p).reg.integral
      ∧ ((s.unit p).queue = [] → (t.unit p).motor = (s.unit p).motor ∧ (t.unit p).hold = (s.unit p).hold
        ∧ (t.unit p).reg = (s.unit p).reg)
      ∧ (∀ g rest, (s.unit p).queue = g :: rest →
        (t.unit p).motor = (match g.endAction with
          | .coast => .coasting
          | .brake => .braking
          | .hold => .holding)
        ∧ (g.endAction = .hold → (t.unit p).hold = some (((s.unit p).act.bind Activation.target).getD (s.unit p).position))
        ∧ (g.endAction ≠ .hold → (t.unit p).reg.duty = 0 ∧ (t.unit p).hold = none))
      ∧ ((s.link l.other).state = .active → 32 ≤ (t.link l.other).notices.length
          ∨ (t.link l.other).notices.getLast? = some (.claimLost ⟨p, none, l, 0x20, (s.unit p).queue.length⟩))
      ∧ (∀ g ∈ (s.unit p).queue, s.sendsEnd t p none g .takenOver)
      ∧ ((s.link l.other).state = .active → (∀ g ∈ (s.unit p).queue, g.issuer = l.other) →
        (s.link l.other).notices.length + (s.unit p).queue.length < 32 →
        ∃ ns : List Notice, (t.link l.other).notices = (s.link l.other).notices ++ ns
            ++ [.claimLost ⟨p, none, l, 0x20, (s.unit p).queue.length⟩]
          ∧ ns.length = (s.unit p).queue.length
          ∧ ∀ (n : Nat) (g : Segment), (s.unit p).queue[n]? = some g → ∃ e : SegmentEnd, ns[n]? = some (.segmentEnd e) ∧ e.port = p ∧ e.pair = none
            ∧ e.tag = g.tag ∧ e.kind = g.work.kind ∧ e.outcome = .takenOver)
      ∧ (∀ q, q ≠ p → t.unit q = s.unit q)
      ∧ (t.link l).replies = (s.link l).replies ++ [⟨tag, 0x20, .ok, []⟩]
      ∧ t = { s with claims := t.claims, motion := t.motion, links := t.links }

/-! ## Motion (chapters 4 and 5) -/

/-- MOVE on a port the link holds (R60 to R65), its segment with no stop condition or with one that can be decided. Into an
empty queue, the segment becomes active at once: the motor RUNNING with no hold, its activation started now with the target of
its kind and the source's sequence number as baseline, and the ramp loaded as the motor stood. Behind 1 to 3 segments, with
APPEND, it waits and the motor is not changed. OK is answered for values in range, ADJUSTED with the applied values otherwise.
A condition that cannot be decided is refused BAD_PARAM. With REPLACE over queued segments, the active one ends REPLACED and
each waiting one FLUSHED, in queue order, the new segment alone is queued and active, and within one family the ramp
accumulator and the integral are kept. That flag bits 4 to 7 are ignored is the model's choice (log entry 51). -/
def Obligations.MoveQueuesOrReplaces : Prop :=
  (∀ (l : LinkId) (tag : Byte) (ps : List Byte) (p : Port) (s : State) (u : PortUnit) (m : MotionUnit) (g g' : Segment)
    (replace : Bool),
    s.asked l tag 0x30 ps → ps.length = 28 → portAt ps 0 = some p → blockSegment l tag ps 1 = some g →
    placementAt ps 27 = some replace → u = s.port p → m = s.unit p → s.pairOf p = none → (s.claim p).holder = some l →
    u.state ∈ [PortState.passive, .active, .describing] → u.drives = true →
    (u.encoderMotor = true ∨ (g.work.regulated = false ∧ g.endAction ≠ .hold)) →
    m.halted = false → s.supply.state ≠ .brownout → g' = g.inRange u.maxSpeed →
    ((∃ c ∈ g.cond, ¬ s.decides [p] c) → exec (.move l tag ps) s = .next (s.replied l tag 0x30 .badParam []))
    ∧ ((∀ c ∈ g.cond, s.decides [p] c) → m.queue = [] →
      exec (.move l tag ps) s = .next
        ((s.setUnit p { m with
            queue := [g'], motor := .running, hold := none
            act := some ⟨s.now, g.cond.bind fun c => (s.port c.source).sample.bind SampleRec.seq, (match g'.work with
              | .runBy d => some (m.position + d)
              | .runTo x => some x
              | _ => none), 0, .cruise, 0, 0⟩
            reg := { m.reg with
              acc := clampMag 32000000 (if g'.work.regulated then m.reg.speed * 1000
                else if m.motor = .coasting ∨ m.motor = .braking then 0 else m.reg.duty * 1000)
              integral := if g'.work.regulated = true ∧ m.motor ≠ .holding then 0 else m.reg.integral
              holdCreep := none } }).replied l tag 0x30 (if g' = g then .ok else .adjusted)
          (if g' = g then [] else g'.appliedBytes)))
    ∧ ((∀ c ∈ g.cond, s.decides [p] c) → 1 ≤ m.queue.length → m.queue.length ≤ 3 → replace = false →
      exec (.move l tag ps) s = .next
        ((s.setUnit p { m with queue := m.queue ++ [g'] }).replied l tag 0x30 (if g' = g then .ok else .adjusted)
          (if g' = g then [] else g'.appliedBytes)))
    ∧ ((∀ c ∈ g.cond, s.decides [p] c) → 4 ≤ m.queue.length → replace = false →
      exec (.move l tag ps) s = .next (s.replied l tag 0x30 .queueFull [])))
  ∧ (∀ (l : LinkId) (tag : Byte) (ps : List Byte) (p : Port) (s : State) (m : MotionUnit) (g old : Segment)
    (rest : List Segment),
    s.asked l tag 0x30 ps → ps.length = 28 → portAt ps 0 = some p → blockSegment l tag ps 1 = some g →
    (∀ c ∈ g.cond, s.decides [p] c) →
    placementAt ps 27 = some true → m = s.unit p → s.pairOf p = none → (s.claim p).holder = some l →
    (s.port p).state ∈ [PortState.passive, .active, .describing] → (s.port p).encoderMotor = true →
    m.halted = false → s.supply.state ≠ .brownout → m.motor = .running → m.queue = old :: rest →
    ∃ t, exec (.move l tag ps) s = .next t
      ∧ (t.unit p).queue = [g.inRange (s.port p).maxSpeed] ∧ (t.unit p).motor = .running ∧ (t.unit p).hold = none
      ∧ ((t.unit p).act.map Activation.start) = some s.now ∧ (t.unit p).position = m.position
      ∧ ((t.unit p).act.bind Activation.baseline) = (g.cond.bind fun c => (s.port c.source).sample.bind SampleRec.seq)
      ∧ (old.work.regulated = g.work.regulated →
        (t.unit p).reg.acc = m.reg.acc ∧ (t.unit p).reg.integral = m.reg.integral)
      ∧ ((s.link l).state = .active → old.issuer = l → (∀ h ∈ rest, h.issuer = l) →
        (s.link l).notices.length + m.queue.length ≤ 32 →
        ∃ ns : List Notice, (t.link l).notices = (s.link l).notices ++ ns ∧ ns.length = m.queue.length
          ∧ (∃ e, ns.head? = some (.segmentEnd e) ∧ e.tag = old.tag ∧ e.outcome = .replaced ∧ e.port = p)
          ∧ (∀ n ∈ ns.drop 1, ∃ e, n = .segmentEnd e ∧ e.outcome = .flushed ∧ e.elapsed = 0))
      ∧ (∀ q, q ≠ p → t.unit q = s.unit q) ∧ t = { s with motion := t.motion, links := t.links })

/-- STOP on a port the link holds (R74): the active segment ends STOPPED and the waiting ones FLUSHED, each with its
SEGMENT_END in queue order (R73), and the motor takes the given end action, a HOLD at the segment's target or the position;
while HALTED or in BROWNOUT it is answered OK and changes nothing. That a HOLD with no segment active holds the position as it
stands is the model's reading (log entry 36). -/
def Obligations.StopEndsMotion : Prop :=
  ∀ (l : LinkId) (tag a : Byte) (p : Port) (s : State) (m : MotionUnit) (e : EndAction),
    s.asked l tag 0x31 [BitVec.ofNat 8 p.num, a] → EndAction.ofCode a.toNat = some e → m = s.unit p →
    s.pairOf p = none → (s.claim p).holder = some l → (s.port p).state ∈ [PortState.passive, .active, .describing] →
    (s.port p).drives = true → (e = .hold → (s.port p).encoderMotor = true) →
    (m.halted = true ∨ s.supply.state = .brownout →
      exec (.stop l tag [BitVec.ofNat 8 p.num, a]) s = .next (s.replied l tag 0x31 .ok []))
    ∧ (m.halted = false → s.supply.state ≠ .brownout →
      ∃ t, exec (.stop l tag [BitVec.ofNat 8 p.num, a]) s = .next t
        ∧ (t.unit p).queue = [] ∧ (t.unit p).position = m.position ∧ (t.unit p).settings = m.settings
        ∧ (t.unit p).reg.acc = m.reg.acc ∧ (t.unit p).reg.integral = m.reg.integral
        ∧ (t.unit p).motor = (match e with
          | .coast => .coasting
          | .brake => .braking
          | .hold => .holding)
        ∧ (e = .hold → (t.unit p).hold = some ((m.act.bind Activation.target).getD m.position))
        ∧ (e ≠ .hold → (t.unit p).hold = none ∧ (t.unit p).reg.duty = 0)
        ∧ (∀ g rest, m.queue = g :: rest →
          s.sendsEnd t p none g .stopped ∧ ∀ h ∈ rest, s.sendsEnd t p none h .flushed)
        ∧ ((s.link l).state = .active → (∀ g ∈ m.queue, g.issuer = l) →
          (s.link l).notices.length + m.queue.length ≤ 32 →
          ∃ ns : List Notice, (t.link l).notices = (s.link l).notices ++ ns ∧ ns.length = m.queue.length
            ∧ ∀ (n : Nat) (g : Segment), m.queue[n]? = some g → ns[n]? = some (.segmentEnd ⟨p, none, g.tag, g.work.kind,
              if n = 0 then .stopped else .flushed,
              if (s.port p).encoderMotor then some m.position else none,
              if n = 0 then (m.act.map fun x => s.now - x.start).getD 0 else 0⟩))
        ∧ (t.link l).replies = (s.link l).replies ++ [⟨tag, 0x31, .ok, []⟩]
        ∧ (∀ q, q ≠ p → t.unit q = s.unit q) ∧ t = { s with motion := t.motion, links := t.links })

/-- The STOP line and RESUME (R75, R76). An assertion while a unit is NORMAL ends every segment of every port and pair, sets
every motor or light BRAKING and every other unit COASTING (R58; log entry 39) with no hold and duty 0, makes every unit
HALTED and tells each ACTIVE link; one while every unit is HALTED changes only the line. The release changes only the line.
RESUME makes every unit NORMAL with the line released, is refused HALTED with it asserted, and changes nothing when no unit is
HALTED. -/
def Obligations.HaltAndResume : Prop :=
  (∀ s : State, (∀ p, (s.unit p).halted = true) → exec .stopLineAssert s = .next { s with stopLine := true })
  ∧ (∀ s : State, (∃ p, (s.unit p).halted = false) →
    ∃ t, exec .stopLineAssert s = .next t ∧ t.stopLine = true
      ∧ (∀ p, (t.unit p).halted = true ∧ (t.unit p).queue = [] ∧ (t.unit p).hold = none ∧ (t.unit p).reg.duty = 0
        ∧ (t.unit p).motor = (if (s.port p).drives then .braking else .coasting)
        ∧ (t.unit p).position = (s.unit p).position ∧ (t.unit p).settings = (s.unit p).settings)
      ∧ (∀ q r, t.pairAt q = some r → r.queue = []) ∧ (∀ q, (t.pairAt q).isSome = (s.pairAt q).isSome)
      ∧ (∀ l, (s.link l).state = .active → 32 ≤ (t.link l).notices.length
          ∨ (t.link l).notices.getLast? = some (.haltState true true))
      ∧ t = { s with motion := t.motion, pairs := t.pairs, links := t.links, stopLine := true })
  ∧ (∀ s : State, exec .stopLineRelease s = .next { s with stopLine := false })
  ∧ ∀ (l : LinkId) (tag : Byte) (s : State), s.asked l tag 0x34 [] →
    ((∀ p, (s.unit p).halted = false) → exec (.resume l tag []) s = .next (s.replied l tag 0x34 .ok []))
    ∧ ((∃ p, (s.unit p).halted = true) → s.stopLine = true →
      exec (.resume l tag []) s = .next (s.replied l tag 0x34 .halted []))
    ∧ ((∃ p, (s.unit p).halted = true) → s.stopLine = false →
      ∃ t, exec (.resume l tag []) s = .next t ∧ (∀ p, t.unit p = { s.unit p with halted := false })
        ∧ (t.link l).replies = (s.link l).replies ++ [⟨tag, 0x34, .ok, []⟩]
        ∧ (∀ k, (s.link k).state = .active → 32 ≤ (t.link k).notices.length
          ∨ (t.link k).notices.getLast? = some (.haltState false false))
        ∧ t = { s with motion := t.motion, links := t.links })

/-- SET_REGULATOR replaces the present settings, each clamped to its range, and lowers a duty above the new ceiling with its sign
kept; its reply carries all nine. SET_POSITION on an encoder motor that neither holds nor runs to a target sets the counter and
refills the speed history; otherwise it is refused MOVING. MOTION_STATUS reports the unit: its fields stand in their bytes in
the order R79 lists them (R186; the locked byte is log entry 24). An encoder transition of one place forward in the cycle in
which ENCA leads adds 1 to the counter, modulo 2³², one back subtracts 1; a change of both lines or of neither counts nothing
(R78, R79, R81, R90, R99). That presence bits 9 to 15 of SET_REGULATOR are ignored is the model's choice (log entry 51). -/
def Obligations.PositionSettingsAndStatus : Prop :=
  ((∀ (l : LinkId) (tag : Byte) (ps : List Byte) (p : Port) (s : State) (m : MotionUnit) (k : RegSettings) (c : Int),
    s.asked l tag 0x32 ps → ps.length = 20 → portAt ps 0 = some p → s.pairOf p = none → (s.claim p).holder = some l →
    (s.port p).state ∈ [PortState.passive, .active, .describing] → (s.port p).encoderMotor = true → m = s.unit p →
    k = ⟨if (wordAt ps 1).testBit 0 then clamp 0 1023 (wordAt ps 3) else m.settings.kp,
      if (wordAt ps 1).testBit 1 then clamp 0 1023 (wordAt ps 5) else m.settings.ki,
      if (wordAt ps 1).testBit 2 then clamp 0 1023 (wordAt ps 7) else m.settings.kf,
      if (wordAt ps 1).testBit 3 then clamp 0 255 (byteAt ps 9) else m.settings.kh,
      if (wordAt ps 1).testBit 4 then clamp 1 65535 (wordAt ps 10) else m.settings.accel,
      if (wordAt ps 1).testBit 5 then clamp 1 65535 (wordAt ps 12) else m.settings.decel,
      if (wordAt ps 1).testBit 6 then clamp 100 1000 (wordAt ps 14) else m.settings.dutyLimit,
      if (wordAt ps 1).testBit 7 then clamp 100 5000 (wordAt ps 16) else m.settings.stallTime,
      if (wordAt ps 1).testBit 8 then clamp 0 32000 (wordAt ps 18) else m.settings.stallSpeed⟩ →
    c = min k.dutyLimit s.supply.s →
    ∃ st, (st = .ok ∨ st = .adjusted)
      ∧ exec (.setRegulator l tag ps) s = .next
        ((s.setUnit p { m with
            settings := k
            reg := if c < mag m.reg.duty then { m.reg with duty := clampMag c m.reg.duty, clamped := true } else m.reg
          }).replied l tag 0x32 st k.bytes))
  ∧ (∀ (l : LinkId) (tag : Byte) (x0 x1 x2 x3 : Byte) (p : Port) (s : State) (m : MotionUnit) (x : BitVec 32),
    s.asked l tag 0x33 [BitVec.ofNat 8 p.num, x0, x1, x2, x3] → x = x3 ++ x2 ++ x1 ++ x0 → s.pairOf p = none →
    (s.claim p).holder = some l → (s.port p).state ∈ [PortState.passive, .active, .describing] →
    (s.port p).encoderMotor = true → m = s.unit p →
    exec (.setPosition l tag [BitVec.ofNat 8 p.num, x0, x1, x2, x3]) s = .next
      (if m.motor = .holding ∨ (m.queue.head?.any fun g => g.work.positioning) = true then
        s.replied l tag 0x33 .moving []
      else (s.setUnit p { m with position := x, reg := { m.reg with history := ⟨x, x, x, x⟩, refill := 4 } }).replied l tag
        0x33 .ok []))
  ∧ ∀ (l : LinkId) (tag : Byte) (p : Port) (s : State), s.asked l tag 0x38 [BitVec.ofNat 8 p.num] →
    ∃ bs : List Byte, exec (.motionStatus l tag [BitVec.ofNat 8 p.num]) s = .next (s.replied l tag 0x38 .ok bs)
      ∧ bs = s.motionBytes p ∧ bs.length = 30
      ∧ (bs.drop 2).take 9 = (if (s.port p).encoderMotor then
          1 :: (le4 (s.unit p).position.toNat ++ le4i (s.unit p).reg.speed) else [0, 0, 0, 0, 0, 0, 0, 0, 0])
      ∧ (bs.drop 11).take 2 = le2i (s.unit p).reg.duty
      ∧ (s.pairOf p = none →
        (∀ g rest, (s.unit p).queue = g :: rest →
          (bs.drop 13).take 9 = 1 :: g.tag :: BitVec.ofNat 8 g.work.kind.code :: 1
            :: (le4 (((s.unit p).act.map fun a => s.now - a.start).getD 0) ++ [BitVec.ofNat 8 rest.length]))
        ∧ ((s.unit p).queue = [] → (bs.drop 13).take 9 = [0, 0, 0xFF, 0, 0, 0, 0, 0, 0]))
      ∧ (∀ q r g rest, s.pairOf p = some q → s.pairAt q = some r → r.queue = g :: rest →
        (bs.drop 13).take 9 = 1 :: g.seg.tag :: BitVec.ofNat 8 g.seg.work.kind.code :: 1
          :: (le4 ((r.act.map fun a => s.now - a.start).getD 0) ++ [BitVec.ofNat 8 rest.length]))
      ∧ (bs.drop 22).take 5 = (match (s.unit p).hold with
          | some x => 1 :: le4 x.toNat
          | none => [0, 0, 0, 0, 0])
      ∧ bs.drop 27 = [match (s.claim p).holder with
          | some .cl0 => 0
          | some .cl1 => 1
          | none => 2, if (s.claim p).locked then 1 else 0, ((s.pairOf p).map fun q => BitVec.ofNat 8 q.num).getD 0xFF])
  ∧ (∀ (p : Port) (a b : Bool) (s : State),
    ∃ d : BitVec 32,
      exec (.encoderTransition p a b) s
        = .next (s.setUnit p { s.unit p with position := (s.unit p).position + d, encA := a, encB := b })
      ∧ ((s.unit p).encA = a → (s.unit p).encB = b → d = 0) ∧ ((s.unit p).encA ≠ a → (s.unit p).encB ≠ b → d = 0)
      ∧ ((s.unit p).encA ≠ a → (s.unit p).encB = b → d = (if a = b then -1 else 1))
      ∧ ((s.unit p).encA = a → (s.unit p).encB ≠ b → d = (if a = b then 1 else -1)))

/-- The regulation event of a port that runs a RUN segment (R82 to R91): the measured speed from the history, the ramp toward the
speed, the error, the integral, the output, the compensation and the ceiling, each as its rule gives; clamped below the stall
speed, the stall timer counts. Short of the stall time, no segment ends, and the position, the settings, the queue and every
other unit are as before. At the stall time the policy acts (R68): CONTINUE sets the timer to 0; END and ABORT end the segment
STALLED with a SEGMENT_END, END going on to the next segment if one waits, ABORT ending the waiting ones FLUSHED; with none
left, the end action applies. -/
def Obligations.RegulatedRunEvent : Prop :=
  ∀ (p : Port) (s : State) (m m' : MotionUnit) (g : Segment) (rest : List Segment) (a : Activation) (k : RegSettings)
    (v acc target e i u duty c : Int) (timer : Nat),
    s.pairOf p = none → m = s.unit p → m.motor = .running → m.queue = g :: rest → m.act = some a → g.work = .run →
    k = m.settings →
    v = (if m.reg.refill = 0 then clampMag 65535 ((m.position - m.reg.history.oldest).toInt * 50) else 0) →
    acc = clampMag 32000000
      (if mag (g.speed * 1000 - m.reg.acc) ≤ (g.accel.map Int.ofNat).getD k.accel * 5 then g.speed * 1000
        else if m.reg.acc < g.speed * 1000 then m.reg.acc + (g.accel.map Int.ofNat).getD k.accel * 5
        else m.reg.acc - (g.accel.map Int.ofNat).getD k.accel * 5) →
    target = truncDiv acc 1000 → e = clampMag 65535 (target - v) →
    i = (if k.ki = 0 then 0 else clampMag (truncDiv 4096000 k.ki)
      (if m.reg.clamped = true ∧ 0 < e * m.reg.duty then m.reg.integral else m.reg.integral + e)) →
    u = clampMag 1000 (truncDiv (k.kp * e) 256 + truncDiv (k.ki * i) 4096 + truncDiv (k.kf * target) 256) →
    duty = truncDiv (u * s.supply.vnom) (max 3000 s.supply.vf) → c = min k.dutyLimit s.supply.s →
    timer = (if c < mag duty ∧ mag v < (if k.stallSpeed = 0 then max 20 (truncDiv (mag g.speed) 20) else k.stallSpeed) then
      a.stall + 1 else 0) →
    m' = { m with
      act := some { a with stall := timer }
      reg := ⟨acc, i, clampMag c duty, decide (c < mag duty),
        ⟨m.reg.history.second, m.reg.history.third, m.reg.history.newest, m.position⟩, m.reg.refill - 1, v,
        m.reg.holdCreep⟩ } →
    ((timer : Int) < truncDiv k.stallTime 5 →
      ∃ t, exec (.regulationEvent p) s = .next t ∧ t.unit p = m'
        ∧ t = { s with motion := s.motion.set p (t.unit p), links := t.links, streams := t.streams })
    ∧ (truncDiv k.stallTime 5 ≤ (timer : Int) → 0 < timer →
      ∃ t, exec (.regulationEvent p) s = .next t
        ∧ (g.stall = .keepOn → t.unit p = { m' with act := some { a with stall := 0 } })
        ∧ (g.stall ≠ .keepOn → s.sendsEnd t p none g .stalled)
        ∧ (g.stall = .abort ∨ (g.stall = .finish ∧ rest = []) →
          (t.unit p).queue = [] ∧ (t.unit p).act = none ∧ (t.unit p).endedBy g.endAction (a.target.getD m.position)
          ∧ ∀ h ∈ rest, s.sendsEnd t p none h .flushed)
        ∧ (∀ h more, g.stall = .finish → rest = h :: more → h.cond = none →
          (t.unit p).queue = rest ∧ (t.unit p).motor = .running ∧ (t.unit p).act.map Activation.start = some s.now
          ∧ (h.work.regulated = true → (t.unit p).reg.acc = acc ∧ (t.unit p).reg.integral = i))
        ∧ t = { s with motion := s.motion.set p (t.unit p), links := t.links, streams := t.streams })

/-- The other regulation events of a port that runs its own queue (R82, R84, R93 to R97), each after the speed estimate: at rest
the duty is 0; a DUTY segment ramps its duty; a HOLDING motor drives toward its hold position within its hold creep. A segment
whose time has passed, or whose fourth event in a row settles within 3 counts of its target, ends DONE: told with its notify
(R73); the next one becomes active with the motor RUNNING (R71), or the end action applies. A positioning segment ramps toward
its target in CRUISE, turns to DECEL at its stopping distance, and to SETTLE within 3 counts or past the target, where the
target is proportional to the distance. Last, the outputs of a port (R4, R58, R92): M1p and M2p for a motor, TXp for a LIGHT. -/
def Obligations.OtherRegulationEvents : Prop :=
  (∀ (p : Port) (s : State) (m : MotionUnit) (v : Int) (hist : History), s.pairOf p = none → m = s.unit p →
    v = (if m.reg.refill = 0 then clampMag 65535 ((m.position - m.reg.history.oldest).toInt * 50) else 0) →
    hist = ⟨m.reg.history.second, m.reg.history.third, m.reg.history.newest, m.position⟩ →
    ∃ t, exec (.regulationEvent p) s = .next t ∧ (∀ q, q ≠ p → t.unit q = s.unit q)
      ∧ t = { s with motion := t.motion, links := t.links, streams := t.streams }
      ∧ (t.unit p).reg.speed = v ∧ (t.unit p).reg.history = hist ∧ (t.unit p).position = m.position
      ∧ (m.motor = .coasting ∨ m.motor = .braking →
        t.unit p = { m with reg := { m.reg with
          duty := 0, clamped := false, history := hist, refill := m.reg.refill - 1, speed := v } })
      ∧ (∀ g rest a acc duty c, m.motor = .running → m.queue = g :: rest → m.act = some a → g.work = .duty →
        acc = rampTo 1000000 m.reg.acc (g.speed * 1000) ((g.accel.map Int.ofNat).getD m.settings.accel * 5) →
        duty = truncDiv (truncDiv acc 1000 * s.supply.vnom) (max 3000 s.supply.vf) →
        c = min m.settings.dutyLimit s.supply.s →
        t.unit p = { m with reg := { m.reg with
          acc := acc, duty := clampMag c duty, clamped := decide (c < mag duty), history := hist
          refill := m.reg.refill - 1, speed := v } })
      ∧ (∀ h target, m.motor = .holding → m.hold = some h →
        target = clampMag (m.reg.holdCreep.getD 10) (truncDiv (m.settings.kh * (h - m.position).toInt) 16) →
        (t.unit p).reg.acc = target * 1000 ∧ (t.unit p).motor = .holding ∧ (t.unit p).hold = some h
        ∧ (m.settings.ki = 0 → (t.unit p).reg.integral = 0
          ∧ (t.unit p).reg.duty = clampMag (min m.settings.dutyLimit s.supply.s)
              (truncDiv (clampMag 1000 (truncDiv (m.settings.kp * clampMag 65535 (target - v)) 256
                + truncDiv (m.settings.kf * target) 256) * s.supply.vnom) (max 3000 s.supply.vf))))
      ∧ (∀ g rest a, m.motor = .running → m.queue = g :: rest → m.act = some a →
        ((∃ ms, g.work.time = some ms ∧ ms ≤ s.now - a.start)
          ∨ (g.work.positioning = true ∧ a.phase = .settle ∧ 3 ≤ a.settle
            ∧ ∃ x, a.target = some x ∧ mag (x - m.position).toInt ≤ 3)) →
        (g.notify = true → s.sendsEnd t p none g .done)
        ∧ (g.notify = false → rest = [] → (∀ e ∈ s.streams, e.key.port ≠ some p) → t.links = s.links)
        ∧ (rest = [] → (t.unit p).queue = [] ∧ (t.unit p).act = none
          ∧ (t.unit p).endedBy g.endAction (a.target.getD m.position))
        ∧ (∀ h more, rest = h :: more → (∀ c ∈ h.cond, s.decides [] c) →
          (t.unit p).queue = rest ∧ (t.unit p).motor = .running ∧ (t.unit p).hold = none
          ∧ (t.unit p).act = some ⟨s.now, h.cond.bind fun c => (s.port c.source).sample.bind SampleRec.seq, (match h.work with
            | .runBy d => some (m.position + d)
            | .runTo x => some x
            | _ => none), 0, .cruise, 0, 0⟩
          ∧ (t.unit p).reg.duty = m.reg.duty
          ∧ (t.unit p).reg.acc = (if h.work.regulated = g.work.regulated then m.reg.acc
              else clampMag 32000000 (if h.work.regulated then v * 1000 else m.reg.duty * 1000))
          ∧ (t.unit p).reg.integral = (if h.work.regulated = true ∧ g.work.regulated = false then 0 else m.reg.integral)))
      ∧ (∀ g rest a x d ramped decel creep count goal phase dir settle, m.motor = .running → m.queue = g :: rest →
        m.act = some a → g.work.positioning = true → a.target = some x → d = (x - m.position).toInt →
        ramped = truncDiv m.reg.acc 1000 → decel = (g.decel.map Int.ofNat).getD m.settings.decel →
        creep = max 10 (truncDiv (mag g.speed) 16) →
        (a.stall : Int) + 1 < truncDiv m.settings.stallTime 5 →
        count = (if a.phase = .settle ∧ mag d ≤ 3 then a.settle + 1 else 0) → count < 4 →
        phase = (match a.phase with
          | .cruise => if mag d ≤ 3 then .settle else if 0 < ramped * d ∧ 2 * decel * mag d ≤ ramped * ramped then .decel
              else .cruise
          | .decel => if mag d ≤ 3 ∨ d.sign ≠ a.decelDir then .settle else .decel
          | .settle => .settle) →
        dir = (if a.phase = .cruise ∧ phase = .decel then d.sign else a.decelDir) →
        settle = (if a.phase ≠ .settle ∧ phase = .settle ∧ mag d ≤ 3 then 1 else count) →
        goal = (if phase = .decel then creep * 1000 * dir else mag g.speed * 1000 * d.sign) →
        (t.unit p).queue = m.queue ∧ (t.unit p).motor = .running
        ∧ (∃ n, (t.unit p).act = some { a with phase := phase, decelDir := dir, settle := settle, stall := n })
        ∧ (t.unit p).reg.acc = (if phase = .settle then clampMag creep (truncDiv (m.settings.kh * d) 16) * 1000
            else rampTo 32000000 m.reg.acc goal
              ((if phase = .decel then decel else (g.accel.map Int.ofNat).getD m.settings.accel) * 5))))
  ∧ ∀ (s : State) (p : Port) (n duty : Int) (state : MotorState), duty = (s.unit p).reg.duty → state = (s.unit p).motor →
    n = truncDiv (mag duty * 1200) 1000 →
    ((s.port p).kind = .plainMotor ∨ (s.port p).encoderMotor = true →
      s.bridgeOut p = (match state with
        | .coasting => (.off, .off)
        | .braking => (.low, .low)
        | _ => if 0 < duty then (.pulsed n, .low) else if duty < 0 then (.low, .pulsed n) else (.low, .low)))
    ∧ ((s.port p).kind ≠ .plainMotor → (s.port p).encoderMotor = false → s.bridgeOut p = (.off, .off))
    ∧ ((s.port p).kind = .light →
      s.txOut p = .light (if state = .running then (if duty = 0 then .low else .pulsed n) else .off))
    ∧ ((s.port p).kind ≠ .light → s.txOut p = .protocol)

/-! ## Pairs (chapter 6) -/

/-- PAIR of two encoder motors with empty queues, each free or held by the link, in no pair (R53, R102): both are held, the
lowest free slot takes the ports in the order named, the given Ks or 32, an empty queue and no correction, and the reply
carries the pair id and Ks. No motor changes. With every slot taken it is refused TABLE_FULL after the claim step. -/
def Obligations.PairFormsPair : Prop :=
  ∀ (l : LinkId) (tag pres ksByte : Byte) (a b : Port) (s : State) (t : State) (ks : Nat),
    s.asked l tag 0x35 [BitVec.ofNat 8 a.num, BitVec.ofNat 8 b.num, pres, ksByte] → a ≠ b → pres.toNat ≤ 1 →
    ks = (if pres = 0 then 32 else ksByte.toNat) →
    (s.port a).noDevice = false → (s.port b).noDevice = false → (s.port a).encoderMotor = true →
    (s.port b).encoderMotor = true → s.pairOf a = none → s.pairOf b = none → (s.unit a).queue = [] → (s.unit b).queue = [] →
    ((s.claim a).holder = none ∨ (s.claim a).holder = some l) → ((s.claim b).holder = none ∨ (s.claim b).holder = some l) →
    t = (s.setClaim a (if (s.claim a).holder = none then ⟨some l, false⟩ else s.claim a)).setClaim b
      (if (s.claim b).holder = none then ⟨some l, false⟩ else s.claim b) →
    exec (.pair l tag [BitVec.ofNat 8 a.num, BitVec.ofNat 8 b.num, pres, ksByte]) s = .next
      (match PairId.all.find? fun q => (s.pairAt q).isNone with
        | some q => (t.setPair q (some ⟨a, b, ks, [], none, 0, 0⟩)).replied l tag 0x35 .ok
            [BitVec.ofNat 8 q.num, BitVec.ofNat 8 ks]
        | none => t.replied l tag 0x35 .tableFull [])

/-- MOVE_PAIR on a pair the link holds, its segment with no stop condition or with one that can be decided on a third port (R104
to R106). Into an empty queue the segment becomes active: both motors RUNNING without hold, the start positions and the baseline kept, the lead's
ramp loaded by its motor state, the correction 0; behind 1 to 3 segments, with APPEND, it waits. A condition that cannot be
decided is refused BAD_PARAM. UNPAIR by the holder ends the pair's segments UNPAIRED, coasts both motors and frees the slot,
the claims and settings standing (R111). That flag bits 4 to 7 are ignored is the model's choice (log entry 51). -/
def Obligations.MovePairAndUnpair : Prop :=
  (∀ (l : LinkId) (tag : Byte) (ps : List Byte) (q : PairId) (r : PairRec) (s : State) (g g' : PairSegment)
    (replace : Bool) (lead partner : Port),
    s.asked l tag 0x37 ps → ps.length = 29 → byteAt ps 0 = q.num → s.pairAt q = some r → r.portA ≠ r.portB →
    (s.claim r.portA).holder = some l → (s.claim r.portB).holder = some l →
    blockSegment l tag ps 1 = some g.seg → g.steer = signedOf 8 (byteAt ps 27) → placementAt ps 28 = some replace →
    g.seg.work.kind ∈ [SegKind.run, .runTime, .runBy] →
    (s.unit r.portA).halted = false → (s.unit r.portB).halted = false → s.supply.state ≠ .brownout →
    g' = ⟨g.seg.inRange (min (s.port r.portA).maxSpeed (s.port r.portB).maxSpeed), clampMag 100 g.steer⟩ →
    lead = (if 0 ≤ g'.steer then r.portA else r.portB) → partner = (if 0 ≤ g'.steer then r.portB else r.portA) →
    ((∃ c ∈ g.seg.cond, ¬ s.decides [r.portA, r.portB] c) →
      exec (.movePair l tag ps) s = .next (s.replied l tag 0x37 .badParam []))
    ∧ ((∀ c ∈ g.seg.cond, s.decides [r.portA, r.portB] c) → r.queue = [] →
      ∃ t, exec (.movePair l tag ps) s = .next t
        ∧ t.pairAt q = some { r with
            queue := [g'], corrA := 0, corrB := 0
            act := some ⟨s.now, g.seg.cond.bind fun c => (s.port c.source).sample.bind SampleRec.seq,
              (s.unit r.portA).position, (s.unit r.portB).position,
              (match g'.seg.work with
                | .runBy d => some ((s.unit lead).position + d)
                | _ => none), .cruise, 0, 0, 0⟩ }
        ∧ (∀ p, p = lead ∨ p = partner → (t.unit p).motor = .running ∧ (t.unit p).hold = none
          ∧ (t.unit p).position = (s.unit p).position ∧ (t.unit p).settings = (s.unit p).settings
          ∧ (t.unit p).queue = (s.unit p).queue
          ∧ (t.unit p).reg.integral = (if (s.unit p).motor = .holding then (s.unit p).reg.integral else 0))
        ∧ (t.unit lead).reg.acc = clampMag 32000000 ((s.unit lead).reg.speed * 1000)
        ∧ (t.unit partner).reg.acc = (s.unit partner).reg.acc
        ∧ (∀ p, p ≠ lead → p ≠ partner → t.unit p = s.unit p)
        ∧ (t.link l) = (s.link l).replied tag 0x37 (if g' = g then .ok else .adjusted)
            (if g' = g then [] else g'.appliedBytes)
        ∧ t = { s with motion := t.motion, pairs := s.pairs.set q (t.pairAt q), links := s.links.set l (t.link l) })
    ∧ ((∀ c ∈ g.seg.cond, s.decides [r.portA, r.portB] c) → 1 ≤ r.queue.length → r.queue.length ≤ 3 → replace = false →
      exec (.movePair l tag ps) s = .next
        ((s.setPair q (some { r with queue := r.queue ++ [g'] })).replied l tag 0x37 (if g' = g then .ok else .adjusted)
          (if g' = g then [] else g'.appliedBytes))))
  ∧ ∀ (l : LinkId) (tag : Byte) (q : PairId) (r : PairRec) (s : State), s.asked l tag 0x36 [BitVec.ofNat 8 q.num] →
    s.pairAt q = some r → r.portA ≠ r.portB → (s.claim r.portA).holder = some l → (s.claim r.portB).holder = some l →
    ∃ t, exec (.unpair l tag [BitVec.ofNat 8 q.num]) s = .next t
      ∧ t.pairs = s.pairs.set q none
      ∧ (∀ g ∈ r.queue, s.sendsEnd t (if 0 ≤ g.steer then r.portA else r.portB) (some q) g.seg .unpaired)
      ∧ (∀ p, p = r.portA ∨ p = r.portB → t.unit p = { s.unit p with
          motor := .coasting, hold := none, reg := { (s.unit p).reg with duty := 0, clamped := false, holdCreep := none } })
      ∧ (∀ p, p ≠ r.portA → p ≠ r.portB → t.unit p = s.unit p)
      ∧ (t.link l).replies = (s.link l).replies ++ [⟨tag, 0x36, .ok, []⟩]
      ∧ t = { s with motion := t.motion, pairs := t.pairs, links := t.links }

/-- The regulation events of a pair (R107 to R110). Under a RUN far from a stall, the lead's event steps the shared ramp, forms the
synchronisation error of both travels and stores both corrections; the partner's sets its accumulator to its weighted share
of the ramped pair speed; the queue stands. Under a RUN_BY short of its target, the lead's ramp runs toward it and turns to
creep speed at the stopping distance. At the lead's event, a segment whose time has passed or whose lead has travelled its
distance ends DONE; either motor's stall ends it STALLED by its policy (R68, R91): told to its issuer, the next one becomes active,
or with none left the end action applies to both motors, each holding its own position and the lead its target. -/
def Obligations.PairRegulation : Prop :=
  (∀ (p : Port) (q : PairId) (s : State) (r : PairRec) (g : PairSegment) (rest : List PairSegment) (a : PairActivation)
    (acc dA dB e kA kB bound : Int),
    s.pairOf p = some q → s.pairAt q = some r → r.portA ≠ r.portB → r.queue = g :: rest → r.act = some a →
    g.seg.work = .run →
    (a.stallA : Int) + 1 < truncDiv (s.unit r.portA).settings.stallTime 5 →
    (a.stallB : Int) + 1 < truncDiv (s.unit r.portB).settings.stallTime 5 →
    kA = (if 0 ≤ g.steer then 100 else 100 + 2 * g.steer) → kB = (if 0 ≤ g.steer then 100 - 2 * g.steer else 100) →
    acc = rampTo 32000000 (s.unit p).reg.acc (g.seg.speed * 1000)
      ((g.seg.accel.map Int.ofNat).getD (s.unit p).settings.accel * 5) →
    dA = ((s.unit r.portA).position - a.startA).toInt → dB = ((s.unit r.portB).position - a.startB).toInt →
    e = truncDiv (dA * kB - dB * kA) 100 → bound = (s.port p).maxSpeed →
    ∃ t, exec (.regulationEvent p) s = .next t
      ∧ (p = (if 0 ≤ g.steer then r.portA else r.portB) →
        (t.unit p).reg.acc = acc
        ∧ ∃ a', t.pairAt q = some { r with
            corrA := clampMag bound (truncDiv (e * kB * r.ks) 1600)
            corrB := clampMag bound (truncDiv (e * kA * r.ks) 1600), act := some a' })
      ∧ (p ≠ (if 0 ≤ g.steer then r.portA else r.portB) →
        (t.unit p).reg.acc
          = truncDiv (truncDiv (s.unit (if 0 ≤ g.steer then r.portA else r.portB)).reg.acc 1000
              * (if 0 ≤ g.steer then kB else kA)) 100 * 1000
        ∧ ∃ a', t.pairAt q = some { r with act := some a' })
      ∧ (t.unit p).position = (s.unit p).position ∧ (t.unit p).settings = (s.unit p).settings
      ∧ (t.unit p).motor = (s.unit p).motor ∧ (∀ x, x ≠ p → t.unit x = s.unit x)
      ∧ (∀ x, x ≠ q → t.pairAt x = s.pairAt x)
      ∧ t = { s with motion := t.motion, pairs := t.pairs, links := t.links, streams := t.streams })
  ∧ (∀ (p : Port) (q : PairId) (s : State) (r : PairRec) (g : PairSegment) (rest : List PairSegment) (a : PairActivation)
    (d x : BitVec 32) (y ramped decel creep dir goal : Int) (phase : Phase),
    s.pairOf p = some q → s.pairAt q = some r → r.portA ≠ r.portB → r.queue = g :: rest → r.act = some a →
    p = (if 0 ≤ g.steer then r.portA else r.portB) → g.seg.work = .runBy d → a.target = some x →
    y = (x - (s.unit p).position).toInt → 0 < d.toInt * y →
    (a.stallA : Int) + 1 < truncDiv (s.unit r.portA).settings.stallTime 5 →
    (a.stallB : Int) + 1 < truncDiv (s.unit r.portB).settings.stallTime 5 →
    ramped = truncDiv (s.unit p).reg.acc 1000 → decel = (g.seg.decel.map Int.ofNat).getD (s.unit p).settings.decel →
    creep = max 10 (truncDiv (mag g.seg.speed) 16) →
    phase = (if a.phase = .cruise ∧ 0 < ramped * y ∧ 2 * decel * mag y ≤ ramped * ramped then .decel else a.phase) →
    dir = (if a.phase = .cruise ∧ phase = .decel then y.sign else a.decelDir) →
    goal = (if phase = .decel then creep * 1000 * dir else mag g.seg.speed * 1000 * y.sign) →
    ∃ t, exec (.regulationEvent p) s = .next t
      ∧ (t.unit p).reg.acc = rampTo 32000000 (s.unit p).reg.acc goal
          ((if phase = .decel then decel else (g.seg.accel.map Int.ofNat).getD (s.unit p).settings.accel) * 5)
      ∧ (∃ r' n n', t.pairAt q = some r' ∧ r'.queue = r.queue
        ∧ r'.act = some { a with phase := phase, decelDir := dir, stallA := n, stallB := n' })
      ∧ (t.unit p).motor = (s.unit p).motor ∧ (∀ z, z ≠ p → t.unit z = s.unit z)
      ∧ t = { s with motion := t.motion, pairs := t.pairs, links := t.links, streams := t.streams })
  ∧ (∀ (p o : Port) (q : PairId) (s : State) (r : PairRec) (g : PairSegment) (rest : List PairSegment) (a : PairActivation),
    s.pairOf p = some q → s.pairAt q = some r → r.portA ≠ r.portB → r.queue = g :: rest → r.act = some a →
    p = (if 0 ≤ g.steer then r.portA else r.portB) → o = (if 0 ≤ g.steer then r.portB else r.portA) →
    ((∃ ms, g.seg.work.time = some ms ∧ ms ≤ s.now - a.start)
      ∨ (∃ d x y, g.seg.work = .runBy d ∧ a.target = some x ∧ y = (x - (s.unit p).position).toInt
          ∧ (y = 0 ∨ d.toInt = 0 ∨ d.toInt * y < 0))) →
    ∃ t, exec (.regulationEvent p) s = .next t
      ∧ (g.seg.notify = true → s.sendsEnd t p (some q) g.seg .done)
      ∧ (rest = [] → t.pairAt q = some { r with queue := [], act := none, corrA := 0, corrB := 0 }
        ∧ (t.unit p).endedBy g.seg.endAction (a.target.getD (s.unit p).position)
        ∧ (t.unit o).endedBy g.seg.endAction (s.unit o).position)
      ∧ (∀ h more, rest = h :: more → h.seg.cond = none →
        (∃ r', t.pairAt q = some r' ∧ r'.queue = rest ∧ r'.corrA = 0 ∧ r'.corrB = 0
          ∧ r'.act.map PairActivation.start = some s.now)
        ∧ (t.unit p).motor = .running ∧ (t.unit o).motor = .running)
      ∧ (∀ z, z ≠ p → z ≠ o → t.unit z = s.unit z)
      ∧ t = { s with motion := t.motion, pairs := t.pairs, links := t.links, streams := t.streams })
  ∧ ∀ (p lead other : Port) (q : PairId) (s : State) (r : PairRec) (g : PairSegment) (rest : List PairSegment)
    (a : PairActivation) (m : MotionUnit) (k : RegSettings) (dA dB err kA kB w bound ramped cA cB target v e i u duty c : Int)
    (timer : Nat),
    s.pairOf p = some q → s.pairAt q = some r → r.portA ≠ r.portB → r.queue = g :: rest → r.act = some a →
    g.seg.work = .run → m = s.unit p → k = m.settings →
    lead = (if 0 ≤ g.steer then r.portA else r.portB) → other = (if 0 ≤ g.steer then r.portB else r.portA) →
    kA = (if 0 ≤ g.steer then 100 else 100 + 2 * g.steer) → kB = (if 0 ≤ g.steer then 100 - 2 * g.steer else 100) →
    w = (if p = r.portA then kA else kB) → bound = (s.port p).maxSpeed →
    dA = ((s.unit r.portA).position - a.startA).toInt → dB = ((s.unit r.portB).position - a.startB).toInt →
    err = truncDiv (dA * kB - dB * kA) 100 →
    ramped = truncDiv (if p = lead then rampTo 32000000 m.reg.acc (g.seg.speed * 1000)
      ((g.seg.accel.map Int.ofNat).getD k.accel * 5) else (s.unit lead).reg.acc) 1000 →
    cA = (if p = lead then clampMag bound (truncDiv (err * kB * r.ks) 1600) else r.corrA) →
    cB = (if p = lead then clampMag bound (truncDiv (err * kA * r.ks) 1600) else r.corrB) →
    target = clampMag bound (if p = r.portA then truncDiv (ramped * w) 100 - cA else truncDiv (ramped * w) 100 + cB) →
    v = (if m.reg.refill = 0 then clampMag 65535 ((m.position - m.reg.history.oldest).toInt * 50) else 0) →
    e = clampMag 65535 (target - v) →
    i = (if k.ki = 0 then 0 else clampMag (truncDiv 4096000 k.ki)
      (if m.reg.clamped = true ∧ 0 < e * m.reg.duty then m.reg.integral else m.reg.integral + e)) →
    u = clampMag 1000 (truncDiv (k.kp * e) 256 + truncDiv (k.ki * i) 4096 + truncDiv (k.kf * target) 256) →
    duty = truncDiv (u * s.supply.vnom) (max 3000 s.supply.vf) → c = min k.dutyLimit s.supply.s →
    timer = (if c < mag duty ∧ mag v < (if k.stallSpeed = 0 then max 20 (truncDiv (mag (truncDiv (g.seg.speed * w) 100)) 20)
      else k.stallSpeed) then (if p = r.portA then a.stallA else a.stallB) + 1 else 0) →
    truncDiv k.stallTime 5 ≤ (timer : Int) → 0 < timer →
    ∃ t, exec (.regulationEvent p) s = .next t
      ∧ (g.seg.stall = .keepOn → ∃ r' a', t.pairAt q = some r' ∧ r'.queue = r.queue ∧ r'.act = some a'
        ∧ (if p = r.portA then a'.stallA = 0 ∧ a'.stallB = a.stallB else a'.stallB = 0 ∧ a'.stallA = a.stallA))
      ∧ (g.seg.stall ≠ .keepOn → s.sendsEnd t lead (some q) g.seg .stalled)
      ∧ (g.seg.stall = .abort ∨ (g.seg.stall = .finish ∧ rest = []) →
        t.pairAt q = some { r with queue := [], act := none, corrA := 0, corrB := 0 }
        ∧ (t.unit lead).endedBy g.seg.endAction (a.target.getD (s.unit lead).position)
        ∧ (t.unit other).endedBy g.seg.endAction (s.unit other).position)
      ∧ (∀ h more, g.seg.stall = .finish → rest = h :: more → h.seg.cond = none →
        (∃ r', t.pairAt q = some r' ∧ r'.queue = rest ∧ r'.corrA = 0 ∧ r'.corrB = 0
          ∧ r'.act.map PairActivation.start = some s.now)
        ∧ (t.unit lead).motor = .running ∧ (t.unit other).motor = .running)
      ∧ t = { s with motion := t.motion, pairs := t.pairs, links := t.links, streams := t.streams }

/-! ## Supply (chapter 7) -/

/-- A supply sample (R114 to R117): the readings saturate and are filtered; the voltage ceiling falls in a straight line from
1000 at V_soft to 400 at V_hard; the current ceiling falls by 125 above I_lim to no less than 250 and rises by 25 below seven
eighths of it to no more than 1000; S is the smaller, the volume ceiling S × 256 / 1000. The settings stand; no port record,
claim or clip changes. -/
def Obligations.SupplySampleFormsCeilings : Prop :=
  ∀ (vbat : Nat) (isense : Int) (s : State) (v i vf iflt : Int) (m : Supply), m = s.supply →
    v = min 16000 (vbat : Int) → i = max 0 (min 16000 isense) → vf = m.vf + truncDiv (v - m.vf) 8 →
    iflt = m.iflt + truncDiv (i - m.iflt) 4 →
    ∃ t, exec (.supplySample vbat isense) s = .next t
      ∧ t.supply.v = v ∧ t.supply.i = i ∧ t.supply.vf = vf ∧ t.supply.iflt = iflt
      ∧ t.supply.cv = (if m.vsoft ≤ vf then 1000 else if vf ≤ m.vhard then 400
          else 400 + truncDiv (600 * (vf - m.vhard)) (m.vsoft - m.vhard))
      ∧ t.supply.ci = (if m.ilim < iflt then max 250 (m.ci - 125)
          else if iflt < truncDiv (m.ilim * 7) 8 then min 1000 (m.ci + 25) else m.ci)
      ∧ t.supply.s = min t.supply.cv t.supply.ci ∧ t.supply.volCeil = truncDiv (t.supply.s * 256) 1000
      ∧ t.supply.lowRun = (if vf < m.vhard then min 4 (m.lowRun + 1) else 0)
      ∧ t.supply.vnom = m.vnom ∧ t.supply.vsoft = m.vsoft ∧ t.supply.vhard = m.vhard ∧ t.supply.ilim = m.ilim
      ∧ t.supply.warnClip = m.warnClip
      ∧ t.ports = s.ports ∧ t.claims = s.claims ∧ t.now = s.now ∧ t.stopLine = s.stopLine ∧ t.pending = s.pending
      ∧ t.store.array = s.store.array ∧ t.store.directory = s.store.directory ∧ t.store.jobs = s.store.jobs

/-- The supply states (R118 to R120, R77): the table's tests decide the new state; entering LOW starts the warning timer and
leaving it stops it; entering BROWNOUT ends every segment of every port and pair, coasts every motor and frees every voice;
each change is told to every ACTIVE link, where no stream follows the supply. -/
def Obligations.SupplyStateChanges : Prop :=
  ∀ (vbat : Nat) (isense : Int) (s : State) (vf : Int) (low : Nat) (new : SupplyState) (m : Supply), m = s.supply →
    vf = m.vf + truncDiv (min 16000 (vbat : Int) - m.vf) 8 →
    low = (if vf < m.vhard then min 4 (m.lowRun + 1) else 0) →
    new = (match m.state with
      | .normal => if vf < m.vsoft then .low else .normal
      | .low => if m.vsoft + 200 ≤ vf then .normal else if low = 4 then .brownout else .low
      | .brownout => if m.vsoft + 200 ≤ vf then .normal else if m.vhard + 400 ≤ vf then .low else .brownout) →
    ∃ t, exec (.supplySample vbat isense) s = .next t ∧ t.supply.state = new
      ∧ t.supply.warning = (if new = m.state then m.warning else if new = .low then some 60000 else none)
      ∧ (new = .brownout → m.state ≠ .brownout →
        (∀ p, (t.unit p).queue = [] ∧ (t.unit p).motor = .coasting ∧ (t.unit p).hold = none ∧ (t.unit p).reg.duty = 0)
        ∧ (∀ q r, t.pairAt q = some r → r.queue = []) ∧ ∀ v, (t.voice v).state = .free)
      ∧ (new = m.state → t.sound = s.sound ∧ t.store = s.store ∧ t.pairs = s.pairs
        ∧ ∀ p, (t.unit p).queue = (s.unit p).queue ∧ (t.unit p).motor = (s.unit p).motor)
      ∧ (new ≠ m.state → (∀ e ∈ s.streams, e.key.kind ≠ .supply) → ∀ l, (s.link l).state = .active →
        32 ≤ (t.link l).notices.length
          ∨ (t.link l).notices.getLast? = some (.supplyState new m.state vf t.supply.s))

/-- SET_SUPPLY and SUPPLY_STATUS (R123, R124): the present settings, clamped, replace the held ones where V_hard < V_soft ≤ V_nom
would hold and W is a clip or none, and the reply carries all five; otherwise BAD_PARAM, and nothing changes. SUPPLY_STATUS
reports the monitor. The warning timer's expiry (R121, R122): the timer restarts at 60 s; nothing plays without a READY,
unmarked clip W, while the scan runs, or while a warning voice is busy; otherwise clip W starts on the lowest free voice, owned
by SUPPLY at priority 8 and gain 255, at its own rate, without loops or report. That presence bits 5 to 7 of SET_SUPPLY are
ignored is the model's choice (log entry 51). -/
def Obligations.SupplyRequestsAndWarning : Prop :=
  ((∀ (l : LinkId) (tag : Byte) (ps : List Byte) (s : State) (m new : Supply), s.asked l tag 0x41 ps → ps.length = 10 →
    m = s.supply →
    new = { m with
      vnom := if (byteAt ps 0).testBit 0 then clamp 3000 12000 (wordAt ps 1) else m.vnom
      vsoft := if (byteAt ps 0).testBit 1 then clamp 3000 12000 (wordAt ps 3) else m.vsoft
      vhard := if (byteAt ps 0).testBit 2 then clamp 3000 12000 (wordAt ps 5) else m.vhard
      ilim := if (byteAt ps 0).testBit 3 then clamp 500 8000 (wordAt ps 7) else m.ilim
      warnClip := if (byteAt ps 0).testBit 4 then (if byteAt ps 9 = 255 then none else some (byteAt ps 9))
        else m.warnClip } →
    (((byteAt ps 0).testBit 4 = true ∧ 63 < byteAt ps 9 ∧ byteAt ps 9 ≠ 255) ∨ ¬ (new.vhard < new.vsoft)
        ∨ ¬ (new.vsoft ≤ new.vnom) → exec (.setSupply l tag ps) s = .next (s.replied l tag 0x41 .badParam []))
    ∧ (((byteAt ps 0).testBit 4 = true → byteAt ps 9 ≤ 63 ∨ byteAt ps 9 = 255) → new.vhard < new.vsoft →
      new.vsoft ≤ new.vnom →
      ∃ st, (st = .ok ∨ st = .adjusted)
        ∧ exec (.setSupply l tag ps) s = .next ((s.setSupply new).replied l tag 0x41 st
          (le2i new.vnom ++ le2i new.vsoft ++ le2i new.vhard ++ le2i new.ilim ++ optByte new.warnClip))))
  ∧ ∀ (l : LinkId) (tag : Byte) (s : State), s.asked l tag 0x40 [] →
    exec (.supplyStatus l tag []) s = .next (s.replied l tag 0x40 .ok
      (le2i s.supply.v ++ le2i s.supply.i ++ le2i s.supply.vf ++ le2i s.supply.iflt ++ le2i s.supply.cv
        ++ le2i s.supply.ci ++ le2i s.supply.s ++ le2i s.supply.volCeil
        ++ [match s.supply.state with
            | .normal => 0
            | .low => 1
            | .brownout => 2, BitVec.ofNat 8 s.supply.lowRun]
        ++ le2 (s.supply.warning.getD 0xFFFF) ++ le2i s.supply.vnom ++ le2i s.supply.vsoft ++ le2i s.supply.vhard
        ++ le2i s.supply.ilim ++ optByte s.supply.warnClip)))
  ∧ (∀ s : State, s.supply.warning.isSome = true →
    (s.supply.warnClip = none ∨ s.store.scanning = true
        ∨ (∃ v, (s.voice v).state ≠ .free ∧ (s.voice v).owner = some .supply)
        ∨ (∀ e ∈ s.store.directory, some e.id = s.supply.warnClip → e.state ≠ .ready ∨ e.marked = true) →
      exec .warningTimerExpiry s = .next { s with supply := { s.supply with warning := some 60000 } })
    ∧ (∀ e v, s.store.scanning = false → e ∈ s.store.directory → s.supply.warnClip = some e.id → e.state = .ready →
      e.marked = false → (∀ d ∈ s.store.directory, d.id = e.id → d = e) →
      (∀ w, (s.voice w).state ≠ .free → (s.voice w).owner ≠ some .supply) →
      VoiceId.all.find? (fun w => (s.voice w).state == .free) = some v → 1 ≤ e.clip.samples →
      ∃ t, exec .warningTimerExpiry s = .next t ∧ t.supply = { s.supply with warning := some 60000 }
        ∧ (t.voice v).state = .starting ∧ (t.voice v).owner = some .supply ∧ (t.voice v).priority = 8
        ∧ (t.voice v).gain = 255 ∧ (t.voice v).loops = 0 ∧ (t.voice v).report = false
        ∧ (t.voice v).step = e.clip.rate * 65536 / 16000 ∧ (t.voice v).order = s.sound.startCount
        ∧ t.sound.startCount = s.sound.startCount + 1 ∧ (∀ w, w ≠ v → t.voice w = s.voice w)
        ∧ t = { s with supply := t.supply, sound := t.sound, store := t.store }))

/-! ## Subscriptions and notices (chapter 8) -/

/-- How a notice joins a queue of an ACTIVE link (R133): an event notice is appended below 32 messages and otherwise dropped
with NOTICE_LOST set; a DATA notice takes the place of the held one of its entry, its merged count one more and at most 255,
is appended below 32 messages, and is otherwise skipped without a flag. A link that is not ACTIVE takes none. A queue of at
most 32 messages with no two DATA notices of one entry stays so. -/
def Obligations.NoticesJoinQueue : Prop :=
  ∀ (k : Link) (n : Notice) (d : DataNotice),
    (k.state ≠ .active → k.pushEvent n = k ∧ k.pushData d = k)
    ∧ (k.state = .active → k.notices.length < 32 → k.pushEvent n = { k with notices := k.notices ++ [n] })
    ∧ (k.state = .active → 32 ≤ k.notices.length →
      k.pushEvent n = { k with sticky := { k.sticky with noticeLost := true } })
    ∧ (k.state = .active → some d.entry ∉ k.notices.map Notice.dataEntry →
      k.pushData d = (if k.notices.length < 32 then { k with notices := k.notices ++ [.data { d with merged := 0 }] } else k))
    ∧ (∀ pre held post, k.state = .active → k.notices = pre ++ .data held :: post → held.entry = d.entry →
      (k.notices.filterMap Notice.dataEntry).Nodup →
      (k.pushData d).notices = pre ++ .data { d with merged := min 255 (held.merged + 1) } :: post
      ∧ (k.pushData d).sticky = k.sticky)
    ∧ (k.notices.length ≤ 32 → (k.notices.filterMap Notice.dataEntry).Nodup →
      (k.pushData d).notices.length ≤ 32 ∧ ((k.pushData d).notices.filterMap Notice.dataEntry).Nodup
      ∧ ((∀ x, n ≠ .data x) → (k.pushEvent n).notices.length ≤ 32
        ∧ ((k.pushEvent n).notices.filterMap Notice.dataEntry).Nodup))

/-- SUBSCRIBE (R128, R129), its source checked: the interval is brought between the floor and 60000; an entry of the same key
gains the link as a member and keeps the rest; otherwise the lowest free slot takes a new entry, SUSPENDED where its SENSOR
mode is not the port's current one; with no slot free it is refused TABLE_FULL. UNSUBSCRIBE takes the link from the entry,
which is freed with its last member, and its DATA notice from the queue; LIST_STREAMS reports up to four entries from the id
asked for, with their count and the next id (R130, R139, R186). -/
def Obligations.SubscribeAndUnsubscribe : Prop :=
  (∀ (l : LinkId) (tag : Byte) (ps : List Byte) (s : State) (kind : SourceKind) (port : Option Port)
    (mode floor asked interval : Nat) (key : StreamKey),
    s.asked l tag 0x50 ps → ps.length = 9 → byteAt ps 0 = kind.code → asked = wordAt ps 3 → longAt ps 5 ≤ 2147483647 →
    (kind = .supply ∧ byteAt ps 1 = 0 ∧ port = none ∧ mode = 0 ∧ floor = 10
      ∨ (∃ p m, kind = .sensor ∧ portAt ps 1 = some p ∧ port = some p ∧ mode = byteAt ps 2 ∧ mode ≤ 7
          ∧ (s.port p).sample.isSome = true ∧ (s.port p).modeDesc mode = some m ∧ floor = m.minInterval)
      ∨ (∃ p, (kind = .motorPosition ∨ kind = .motorSpeed) ∧ portAt ps 1 = some p ∧ port = some p ∧ mode = 0
          ∧ (s.port p).encoderMotor = true ∧ floor = 10)) →
    interval = min 60000 (max floor asked) → key = ⟨kind, port, mode, interval, longAt ps 5⟩ →
    (∀ e, s.streams.find? (fun x => x.key == key) = some e →
      exec (.subscribe l tag ps) s = .next
        ((s.setStreams (s.streams.map fun d =>
            if d.id = e.id then { d with members := d.members.set l true } else d)).replied l tag 0x50
          (if interval = asked then .ok else .adjusted) (BitVec.ofNat 8 e.id :: le2 interval)))
    ∧ (∀ n, (∀ e ∈ s.streams, e.key ≠ key) → n < 24 → (∀ e ∈ s.streams, e.id ≠ n) →
      (∀ x, x < n → ∃ e ∈ s.streams, e.id = x) →
      ∃ es, exec (.subscribe l tag ps) s = .next
          ((s.setStreams es).replied l tag 0x50 (if interval = asked then .ok else .adjusted)
            (BitVec.ofNat 8 n :: le2 interval))
        ∧ ∀ e, e ∈ es ↔ e ∈ s.streams ∨ e = ⟨n, key, (Two.both false).set l true,
            (match kind, port with
              | .sensor, some p => (s.port p).mode != some mode
              | _, _ => false), none, []⟩)
    ∧ ((∀ e ∈ s.streams, e.key ≠ key) → (∀ x, x < 24 → ∃ e ∈ s.streams, e.id = x) →
      exec (.subscribe l tag ps) s = .next (s.replied l tag 0x50 .tableFull [])))
  ∧ (∀ (l : LinkId) (tag n : Byte) (s : State) (e : StreamEntry), s.asked l tag 0x51 [n] → e ∈ s.streams →
    e.id = n.toNat → s.streams.Pairwise (fun a b => a.id < b.id) → e.members.get l = true →
    ∃ t, exec (.unsubscribe l tag [n]) s = .next t
      ∧ (∀ d, d ∈ t.streams ↔ (d ∈ s.streams ∧ d.id ≠ e.id)
        ∨ (d = { e with members := e.members.set l false } ∧ e.members.get l.other = true))
      ∧ (t.link l).notices = (s.link l).notices.filter (fun x => !x.isDataFor e.id)
      ∧ (t.link l).replies = (s.link l).replies ++ [⟨tag, 0x51, .ok, []⟩]
      ∧ t = { s with streams := t.streams, links := s.links.set l (t.link l) })
  ∧ ∀ (l : LinkId) (tag n : Byte) (s : State), s.asked l tag 0x52 [n] →
    ∃ bs : List Byte, exec (.listStreams l tag [n]) s = .next
        (if 23 < n.toNat then s.replied l tag 0x52 .badParam [] else s.replied l tag 0x52 .ok bs)
      ∧ bs = s.streamsPayload n.toNat
      ∧ ∀ es, es = s.streams.filter (fun e => decide (n.toNat ≤ e.id)) →
        bs.length = 2 + 12 * min 4 es.length ∧ bs.getD 0 0 = BitVec.ofNat 8 (min 4 es.length)
        ∧ (∀ i e, i < 4 → es[i]? = some e →
          (bs.drop (1 + 12 * i)).take 10 = BitVec.ofNat 8 e.id :: BitVec.ofNat 8 e.key.kind.code
            :: BitVec.ofNat 8 ((e.key.port.map Port.num).getD 0) :: BitVec.ofNat 8 e.key.mode
            :: (le2 e.key.interval ++ le4 e.key.delta))
        ∧ (es.length ≤ 4 → bs.getLast? = some 0xFF)
        ∧ (∀ e, 4 < es.length → es[3]? = some e → bs.getLast? = some (BitVec.ofNat 8 (e.id + 1)))

/-- A source update offered to the table (R131, R132): an entry that follows the source and is not SUSPENDED emits exactly if
it has emitted never, or its interval has passed and some value has moved by its delta since the last sent one; it then keeps
the time and the values. Other entries keep all their fields; a link that is a member of no emitting entry is untouched. -/
def Obligations.StreamsEmitOnUpdates : Prop :=
  ∀ (s : State) (u : Update) (emits : StreamEntry → Prop),
    (∀ e, emits e ↔ e.suspended = false ∧ e.key.kind = u.kind ∧ e.key.port = u.port ∧ e.key.mode = u.mode
      ∧ (e.lastEmit = none ∨ ∃ x, e.lastEmit = some x ∧ e.key.interval ≤ (s.deviceTime - x).toNat
        ∧ (e.key.delta = 0 ∨ ∃ v ∈ e.lastSent.zip u.values, (e.key.delta : Int)
            ≤ (if u.kind = .motorPosition then mag ((BitVec.ofInt 32 v.2 - BitVec.ofInt 32 v.1).toInt)
              else mag (v.2 - v.1))))) →
    (∀ e ∈ s.streams, emits e → { e with lastEmit := some s.deviceTime, lastSent := u.values } ∈ (s.offerUpdates [u]).streams)
    ∧ (∀ e ∈ s.streams, ¬ emits e → e ∈ (s.offerUpdates [u]).streams)
    ∧ (s.offerUpdates [u]).streams.length = s.streams.length
    ∧ (∀ l, (∀ e ∈ s.streams, emits e → e.members.get l = false) → (s.offerUpdates [u]).link l = s.link l)
    ∧ (∀ l e, s.streams = [e] → emits e → e.members.get l = true →
      (s.offerUpdates [u]).link l = (s.link l).pushData ⟨e.id, u.stamp, 0, u.values⟩)

/-! ## Clip store (chapter 9) -/

/-- The end of the start-up scan (R147): SCANNING is cleared and the directory holds exactly what the scan enters. Each entry
is READY with the values of the valid, sealed header at its first sector and its span in the array, and entries come in
ascending id without sharing a sector. A sector with a valid, sealed header whose span fits is an entry's, lies in an entry's
span, or carries an id an entry of a lower sector has. Nothing else changes. That a header inside the span of a clip that was
passed over is entered like any other is the model's choice (log entry 50). -/
def Obligations.ScanRebuildsDirectory : Prop :=
  ∀ s : State, s.store.scanning = true → s.store.undet = [] →
    ∃ d, exec .scanComplete s = .next (s.setStore { s.store with directory := d, scanning := false })
      ∧ d.Pairwise (fun a b => a.id < b.id ∧ a.apart b)
      ∧ (∀ e ∈ d, e.state = .ready ∧ e.marked = false ∧ e.first + e.count ≤ 128
        ∧ readHeader (s.store.bytes (4096 * e.first) 32) = some (e.id, e.clip, e.count, 0))
      ∧ ∀ k id c count, k + count ≤ 128 → readHeader (s.store.bytes (4096 * k) 32) = some (id, c, count, 0) →
        ∃ e ∈ d, (e.first ≤ k ∧ k < e.first + e.count) ∨ (e.id = id ∧ e.first < k)

/-- CLIP_BEGIN that passes its checks (R151): a WRITING entry at the lowest run of free sectors at or above the check boundary,
the write context opened for the link, and a PREPARE queued; without room for the clip it is refused NO_SPACE, and while a clip
is open STORE_BUSY. CLIP_DATA at the write pointer, from the owner (R152): bytes that stay in the page enter its buffer and are
answered at once with the new pointer; bytes that fill the page queue a PAGE with the buffer, the rest starting a fresh one. -/
def Obligations.ClipWriting : Prop :=
  (∀ (l : LinkId) (tag : Byte) (ps : List Byte) (s : State) (c : ClipInfo) (id : Nat),
    s.asked l tag 0x60 ps → ps.length = 17 → id = byteAt ps 0 → id ≤ 63 → s.store.scanning = false →
    (s.store.openEntry.isSome = true → exec (.clipBegin l tag ps) s = .next (s.replied l tag 0x60 .storeBusy []))
    ∧ (s.store.openEntry = none → s.store.entry id = none → clipOf ps = some c → c.valid = true →
      (∀ first, s.store.jobs.length < 4 → s.store.checkBoundary ≤ first → first + sectorsFor c.length ≤ 128 →
        (∀ i, i < sectorsFor c.length → s.store.sectorFree (first + i) = true) →
        (∀ k, s.store.checkBoundary ≤ k → k < first → ∃ i, i < sectorsFor c.length ∧ s.store.sectorFree (k + i) = false) →
        ∃ d, exec (.clipBegin l tag ps) s = .next ((s.accepted l tag 0x60).setStore { s.store with
            directory := d
            ctx := some ⟨l, id, 0, List.replicate 256 0xFF, false⟩
            pointer := 0
            jobs := s.store.jobs ++ [⟨.prepare first (sectorsFor c.length)
              ((headerBytes id c (sectorsFor c.length)).take 31), some id, false, ⟨l, (s.link l).activation, tag, 0x60⟩⟩] })
          ∧ ∀ e, e ∈ d ↔ e ∈ s.store.directory ∨ e = ⟨id, .writing, first, sectorsFor c.length, c, false⟩)
      ∧ ((∀ k, s.store.checkBoundary ≤ k → k + sectorsFor c.length ≤ 128 →
          ∃ i, i < sectorsFor c.length ∧ s.store.sectorFree (k + i) = false) →
        exec (.clipBegin l tag ps) s = .next (s.replied l tag 0x60 .noSpace []))))
  ∧ (∀ (l : LinkId) (tag : Byte) (ps : List Byte) (s : State) (c : WriteCtx) (e : DirEntry) (offset n : Nat),
    s.asked l tag 0x61 ps → offset = longAt ps 0 → n = byteAt ps 4 → ps.length = 5 + n → 1 ≤ n → n ≤ 56 →
    s.store.scanning = false → s.store.ctx = some c → s.store.writing = some e → c.owner = l → c.ending = false →
    offset = c.pointer → offset + n ≤ e.clip.length →
    ((32 + offset) % 256 + n < 256 →
      exec (.clipData l tag ps) s = .next ((s.setStore { s.store with
        pointer := offset + n
        ctx := some { c with
          pointer := offset + n
          page := c.page.take ((32 + offset) % 256) ++ ps.drop 5 ++ c.page.drop ((32 + offset) % 256 + n) } }).replied l tag
            0x61 .ok (le4 (offset + n))))
    ∧ (256 ≤ (32 + offset) % 256 + n → s.store.jobs.length < 4 →
      ∃ page bytes, exec (.clipData l tag ps) s = .next ((s.accepted l tag 0x61).setStore { s.store with
          pointer := offset + n
          ctx := some { c with pointer := offset + n, page := page }
          jobs := s.store.jobs ++ [⟨.page (4096 * e.first + 256 * ((32 + offset) / 256)
            + (if (32 + offset) / 256 = 0 then 32 else 0)) bytes (offset + n), some c.id, false,
            ⟨l, (s.link l).activation, tag, 0x61⟩⟩] })
        ∧ page = ps.drop (5 + (256 - (32 + offset) % 256))
            ++ (List.replicate 256 0xFF).drop (n - (256 - (32 + offset) % 256))
        ∧ (c.page.length = 256 → bytes = (c.page.take ((32 + offset) % 256)
            ++ (ps.drop 5).take (256 - (32 + offset) % 256)).drop (if (32 + offset) / 256 = 0 then 32 else 0)))
    ∧ (256 ≤ (32 + offset) % 256 + n → 4 ≤ s.store.jobs.length →
      exec (.clipData l tag ps) s = .next (s.replied l tag 0x61 .storeBusy [])))

/-- The requests that queue a job or end one (R144, R153, R154): CLIP_END of a clip whose bytes are all in queues a SEAL and
sets the ending mark; CLIP_DELETE of a READY clip that is above the check boundary, unmarked and not played marks it and
queues a REMOVE, below the boundary it is refused PROTECTED; SET_PROTECT queues an INFO job with what would stand, is
answered OK at once where nothing would change, and is refused PROTECTED while the standing lock is set and GUARD is low. The
lock is sent as 1 or 0 (log entry 24). -/
def Obligations.StoreRequestsQueueJobs : Prop :=
  (∀ (l : LinkId) (tag id : Byte) (s : State) (c : WriteCtx) (e : DirEntry), s.asked l tag 0x62 [id] → id.toNat ≤ 63 →
    s.store.scanning = false → s.store.ctx = some c → s.store.writing = some e → e.id = id.toNat → c.ending = false →
    c.owner = l → e.clip.length ≤ c.pointer → s.store.jobs.length < 4 →
    exec (.clipEnd l tag [id]) s = .next ((s.accepted l tag 0x62).setStore { s.store with
      ctx := some { c with ending := true }
      jobs := s.store.jobs ++ [⟨.seal e.first
        (if (32 + c.pointer) % 256 ≤ (if (32 + c.pointer) / 256 = 0 then 32 else 0) then none
          else some (4096 * e.first + 256 * ((32 + c.pointer) / 256) + (if (32 + c.pointer) / 256 = 0 then 32 else 0),
            (c.page.take ((32 + c.pointer) % 256)).drop (if (32 + c.pointer) / 256 = 0 then 32 else 0))),
        some id.toNat, false, ⟨l, (s.link l).activation, tag, 0x62⟩⟩] }))
  ∧ (∀ (l : LinkId) (tag id : Byte) (s : State) (e : DirEntry), s.asked l tag 0x63 [id] → id.toNat ≤ 63 →
    s.store.scanning = false → s.store.entry id.toNat = some e → e.state = .ready →
    (e.first < s.store.checkBoundary → exec (.clipDelete l tag [id]) s = .next (s.replied l tag 0x63 .protected_ []))
    ∧ (s.store.checkBoundary ≤ e.first → s.clipPlaying id.toNat = true →
      exec (.clipDelete l tag [id]) s = .next (s.replied l tag 0x63 .clipInUse []))
    ∧ (s.store.checkBoundary ≤ e.first → s.clipPlaying id.toNat = false → e.marked = false → s.store.jobs.length < 4 →
      exec (.clipDelete l tag [id]) s = .next ((s.accepted l tag 0x63).setStore { s.store with
        directory := s.store.directory.map (fun d => if d.id = id.toNat then { d with marked := true } else d)
        jobs := s.store.jobs ++ [⟨.remove e.first, some id.toNat, false, ⟨l, (s.link l).activation, tag, 0x63⟩⟩] })))
  ∧ ∀ (l : LinkId) (tag b a : Byte) (guardHigh : Bool) (s : State) (nb : Nat) (nlock : Bool),
    s.asked l tag 0x65 [b, a] → (b.toNat ≤ 128 ∨ b = 255) → a.toNat ≤ 2 → s.store.scanning = false →
    (∀ e ∈ s.store.directory, e.state = .ready) →
    nb = (if b = 255 then s.store.standing.1 else b.toNat) →
    nlock = (if a = 0 then s.store.standing.2 else if a = 1 then true else false) →
    (s.store.standing.2 = true → guardHigh = false →
      exec (.setProtect l tag [b, a] guardHigh) s = .next (s.replied l tag 0x65 .protected_ []))
    ∧ ((s.store.standing.2 = false ∨ guardHigh = true) → (nb, nlock) ≠ s.store.standing → s.store.jobs.length < 4 →
      exec (.setProtect l tag [b, a] guardHigh) s = .next ((s.accepted l tag 0x65).setStore { s.store with
        jobs := s.store.jobs ++ [⟨.info nb nlock, none, false, ⟨l, (s.link l).activation, tag, 0x65⟩⟩] }))
    ∧ ((s.store.standing.2 = false ∨ guardHigh = true) → (nb, nlock) = s.store.standing →
      exec (.setProtect l tag [b, a] guardHigh) s
        = .next (s.replied l tag 0x65 .ok [BitVec.ofNat 8 nb, if nlock then 1 else 0]))

/-- JOB_START and CLEANUP_START (R148, R155, R157): an IDLE array without a pending read gives itself to the job at the head,
which begins its first operation and keeps its place; with no job queued, the first sector of an ABANDONED clip is erased.
PROGRAM_COMPLETE clears the bits that are 0 in the data; ERASE_COMPLETE sets the sector to 0xFF; every other byte of the array
reads as before (R141). At the end of the cleanup's erase, which runs with no job in progress, the ABANDONED entry leaves the
directory and the array is IDLE, whatever jobs wait: the model's reading (log entry 21). A job and the cleanup are never in
progress together: none of the commands that begin one or go on with the array brings that about. -/
def Obligations.OperationsChangeArray : Prop :=
  (∀ (s : State) (j : Job) (rest : List Job) (op : ArrayOp) (more : List ArrayOp), s.store.activity = .idle →
    s.store.readWaits = false → s.store.jobRunning = false → s.store.cleanup = false → s.store.jobs = j :: rest →
    j.kind.work = op :: more →
    ∃ t, exec .jobStart s = .next t ∧ t.store.activity = op.activity ∧ t.store.opInHand = some op ∧ t.store.work = more
      ∧ t.store.jobRunning = true ∧ t.store.suspending = false ∧ t.store.eraseRun = 0
      ∧ t = { s with freeCount := s.freeCount + 1, store := { s.store with
          activity := t.store.activity, opInHand := t.store.opInHand, work := t.store.work, jobRunning := true
          suspending := false, eraseRun := 0, undet := t.store.undet, infoRow := t.store.infoRow } })
  ∧ (∀ (s : State) (e : DirEntry), s.store.activity = .idle → s.store.readWaits = false → s.store.jobRunning = false →
    s.store.cleanup = false → s.store.jobs = [] → s.store.abandonedEntry = some e →
    ∃ t, exec .cleanupStart s = .next t ∧ t.store.activity = .erasing ∧ t.store.opInHand = some (.eraseSector e.first)
      ∧ t = { s with freeCount := s.freeCount + 1, store := { s.store with
          activity := .erasing, opInHand := t.store.opInHand, work := [], cleanup := true
          suspending := false, eraseRun := 0, undet := t.store.undet } })
  ∧ (∀ (s : State) (a : Nat) (data : List Byte), s.store.activity = .programming →
    s.store.opInHand = some (.program a data) → Memory.wf s.store.array → a + data.length ≤ 524288 →
    ∃ t, exec .programComplete s = .next t ∧ Memory.wf t.store.array
      ∧ (∀ x, cellAt t.store.array x = (if a ≤ x ∧ x < a + data.length then cellAt s.store.array x &&& data.getD (x - a) 0
          else cellAt s.store.array x))
      ∧ t.ports = s.ports ∧ t.claims = s.claims ∧ t.motion = s.motion ∧ t.pairs = s.pairs ∧ t.supply = s.supply
      ∧ t.streams = s.streams ∧ t.sound = s.sound ∧ t.now = s.now)
  ∧ (∀ (s : State) (k : Nat), s.store.activity = .erasing → s.store.suspending = false →
    s.store.opInHand = some (.eraseSector k) → Memory.wf s.store.array →
    ∃ t, exec .eraseComplete s = .next t ∧ Memory.wf t.store.array
      ∧ (∀ x, cellAt t.store.array x
          = (if 4096 * k ≤ x ∧ x < 4096 * k + 4096 then 0xFF else cellAt s.store.array x))
      ∧ (s.store.cleanup = true → s.store.jobRunning = false → s.store.work = [] → s.store.readWaits = false →
        ∀ e, s.store.abandonedEntry = some e →
          t.store.directory = s.store.directory.filter (fun d => decide (d.id ≠ e.id)) ∧ t.store.cleanup = false
          ∧ t.store.activity = .idle ∧ t.store.jobs = s.store.jobs ∧ t.links = s.links)
      ∧ t.ports = s.ports ∧ t.claims = s.claims ∧ t.motion = s.motion ∧ t.pairs = s.pairs ∧ t.supply = s.supply
      ∧ t.streams = s.streams ∧ t.sound = s.sound ∧ t.now = s.now)
  ∧ ∀ (i : Instr) (s t : State),
    i ∈ [Instr.jobStart, .cleanupStart, .programComplete, .eraseComplete, .suspendComplete, .arrayReadComplete] →
    ¬ (s.store.cleanup = true ∧ s.store.jobRunning = true) → exec i s = .next t →
    ¬ (t.store.cleanup = true ∧ t.store.jobRunning = true)

/-- The end of a job's operation (R149, R155, R157). With no read pending, the next operation of the job begins; after the last one
the job leaves the queue, the array is IDLE, and its request is answered: a PREPARE and a PAGE change no entry, a SEAL makes its
entry READY and releases the write context, a REMOVE takes its entry from the directory, an INFO job sets the held B and lock; a
job of an abandoned clip is answered CLIP_STATE and has no effect. Pending reads come first: the job keeps its place, and a job
with no operation left completes when the last of these reads has, its reply after theirs. Where the array then goes is log
entry 21, the lock byte of the INFO reply log entry 24, and the one byte of the first sector in the PREPARE and SEAL replies and
CLIP_READ's bytes without a count before them log entry 30. -/
def Obligations.JobsCompleteInOrder : Prop :=
  (∀ (s : State) (i : Instr) (op : ArrayOp) (j : Job) (rest : List Job),
    (i = .programComplete ∧ s.store.activity = .programming
      ∨ i = .eraseComplete ∧ s.store.activity = .erasing ∧ s.store.suspending = false) →
    s.store.opInHand = some op → s.store.cleanup = false → s.store.jobRunning = true → s.store.jobs = j :: rest →
    (∀ next more, s.store.work = next :: more → s.store.readWaits = false →
      ∃ t, exec i s = .next t ∧ t.store.jobs = j :: rest ∧ t.store.jobRunning = true ∧ t.store.work = more
        ∧ t.store.opInHand = some next ∧ t.store.activity = next.activity ∧ t.store.directory = s.store.directory
        ∧ t.store.heldB = s.store.heldB ∧ t.store.heldLock = s.store.heldLock ∧ t.store.ctx = s.store.ctx
        ∧ t = { s with freeCount := s.freeCount + 1, store := t.store })
    ∧ (s.store.work = [] → s.store.readWaits = false →
      ∃ t st payload, exec i s = .next t ∧ t.store.jobs = rest ∧ t.store.jobRunning = false ∧ t.store.activity = .idle
        ∧ t.store.opInHand = none ∧ t.store.fetches = s.store.fetches ∧ t.store.reads = s.store.reads
        ∧ t = { s.answer j.dest st payload with store := t.store }
        ∧ (j.abandoned = true → st = .clipState ∧ payload = [] ∧ t.store.directory = s.store.directory
          ∧ t.store.heldB = s.store.heldB ∧ t.store.heldLock = s.store.heldLock ∧ t.store.ctx = s.store.ctx)
        ∧ (j.abandoned = false → st = .ok
          ∧ ((∀ b lock, j.kind ≠ .info b lock) → t.store.heldB = s.store.heldB ∧ t.store.heldLock = s.store.heldLock)
          ∧ ((∀ first last, j.kind ≠ .seal first last) → t.store.ctx = s.store.ctx)
          ∧ (∀ first count header id, j.kind = .prepare first count header → j.clip = some id →
            t.store.directory = s.store.directory
              ∧ payload = [BitVec.ofNat 8 id, BitVec.ofNat 8 first, BitVec.ofNat 8 count])
          ∧ (∀ a data pointer, j.kind = .page a data pointer →
            t.store.directory = s.store.directory ∧ payload = le4 pointer)
          ∧ (∀ first last id e, j.kind = .seal first last → j.clip = some id → s.store.entry id = some e →
            t.store.ctx = none
              ∧ t.store.directory = s.store.directory.map (fun d => if d.id = id then { d with state := .ready } else d)
              ∧ payload = [BitVec.ofNat 8 id, BitVec.ofNat 8 first, BitVec.ofNat 8 e.count])
          ∧ (∀ first id, j.kind = .remove first → j.clip = some id →
            t.store.directory = s.store.directory.filter (fun d => decide (d.id ≠ id)) ∧ payload = [])
          ∧ (∀ b lock, j.kind = .info b lock → t.store.directory = s.store.directory ∧ t.store.heldB = b
            ∧ t.store.heldLock = lock ∧ payload = [BitVec.ofNat 8 b, if lock then 1 else 0])))
    ∧ (s.store.readWaits = true →
      ∃ t, exec i s = .next t ∧ t.store.activity = .reading ∧ t.store.reading ≠ none ∧ t.store.work = s.store.work
        ∧ t.store.jobs = j :: rest ∧ t.store.jobRunning = true ∧ t.store.opInHand = none
        ∧ t.store.directory = s.store.directory ∧ t.store.heldB = s.store.heldB ∧ t.store.heldLock = s.store.heldLock
        ∧ t.store.ctx = s.store.ctx ∧ t.links = s.links))
  ∧ ∀ (s : State) (r : ClipRead) (j : Job) (bs : List Byte), s.store.reading = some (.clipRead r) →
    s.store.readWaits = false → s.store.opInHand = none → s.store.work = [] → s.store.cleanup = false →
    s.store.jobRunning = true → s.store.jobs = [j] → bs = s.store.bytes r.addr r.count →
    ∃ t st payload, exec .arrayReadComplete s = .next t ∧ t.store.jobs = [] ∧ t.store.jobRunning = false
      ∧ t.store.activity = .idle ∧ t.store.reading = none
      ∧ t = { (s.answer r.dest .ok bs).answer j.dest st payload with store := t.store }
      ∧ (j.abandoned = true → st = .clipState ∧ payload = [] ∧ t.store.directory = s.store.directory)
      ∧ (∀ a data pointer, j.abandoned = false → j.kind = .page a data pointer →
        st = .ok ∧ payload = le4 pointer ∧ t.store.directory = s.store.directory)
      ∧ (∀ first id, j.abandoned = false → j.kind = .remove first → j.clip = some id →
        st = .ok ∧ payload = [] ∧ t.store.directory = s.store.directory.filter (fun d => decide (d.id ≠ id)))

/-- CLIP_INFO and CLIP_READ (R156), the suspension of an erase and the pending reads (R157). CLIP_INFO reports the store as it
stands, in BAD_PARAM and NOT_READY order: the summary, then up to two entries from the id asked for, 21 bytes each (R186). A
CLIP_READ of a READY, unmarked clip within its length is read at once by an IDLE array with no read pending, waits for one that
reads or programs, and suspends an erase that has run 1 ms; the suspension falls due when that 1 ms is reached, and not before. A
suspended array serves the fetch of the voice with the fewest buffered samples, the lower voice on equal counts, then the
CLIP_READs in their order; with none, the erase resumes. A read CLIP_READ is answered with its bytes. The fetch of a STARTING
voice's first half fills it, and the voice is PLAYING (R164); directory, jobs and links stand, but that a job with no operation
left completes when the last pending read has (R149, log entry 21). The model's readings in it:
GUARD, lock and mark sent as 1 or 0 (log entry 24), the bytes read with no count before them and the first sector in one byte
(log entry 30), the next id of CLIP_INFO as the last one reported plus 1 (log entry 27), the pointer of an ABANDONED clip (log
entry 23), the buffered samples (log entry 26), and the milliseconds of erasing counted by idle steps (log entry 37). -/
def Obligations.ReadsAreServed : Prop :=
  (∀ (l : LinkId) (tag start : Byte) (guardHigh : Bool) (s : State), s.asked l tag 0x64 [start] →
    ∃ bs : List Byte,
      exec (.clipInfo l tag [start] guardHigh) s = .next (if 63 < start.toNat then s.replied l tag 0x64 .badParam []
        else if s.store.scanning then s.replied l tag 0x64 .notReady [] else s.replied l tag 0x64 .ok bs)
      ∧ bs = s.store.infoPayload start.toNat guardHigh
      ∧ bs.getD 0 0 = BitVec.ofNat 8 s.store.heldB ∧ bs.getD 1 0 = (if s.store.heldLock then 1 else 0)
      ∧ bs.getD 2 0 = (if guardHigh then 1 else 0)
      ∧ bs.getD 3 0 = BitVec.ofNat 8 ((List.range 128).filter s.store.sectorFree).length
      ∧ bs.getD 4 0 = BitVec.ofNat 8 s.store.jobs.length
      ∧ (s.store.openEntry = none → (bs.drop 5).take 6 = [0xFF, 0, 0, 0, 0, 0])
      ∧ (∀ e, s.store.openEntry = some e → (bs.drop 5).take 6 = BitVec.ofNat 8 e.id :: 1 :: le4 s.store.pointer)
      ∧ ∀ es, es = s.store.directory.filter (fun e => decide (start.toNat ≤ e.id)) →
        bs.length = 13 + 21 * min 2 es.length ∧ bs.getD 11 0 = BitVec.ofNat 8 (min 2 es.length)
        ∧ (∀ i e, i < 2 → es[i]? = some e →
          bs.getD (12 + 21 * i) 0 = BitVec.ofNat 8 e.id
          ∧ (bs.drop (14 + 21 * i)).take 19 = (if e.marked then 1 else 0) :: BitVec.ofNat 8 e.first :: BitVec.ofNat 8 e.count
              :: BitVec.ofNat 8 e.clip.format.code :: (le2 e.clip.rate ++ le4 e.clip.length ++ le4 e.clip.loopStart
                ++ le4 e.clip.loopEnd ++ [BitVec.ofNat 8 e.clip.gain]))
        ∧ (es.length ≤ 2 → bs.getLast? = some 0xFF)
        ∧ (∀ e, 2 < es.length → es[1]? = some e → bs.getLast? = some (BitVec.ofNat 8 (e.id + 1))))
  ∧ (∀ (l : LinkId) (tag : Byte) (ps : List Byte) (s : State) (e : DirEntry) (r : ClipRead),
    s.asked l tag 0x66 ps → ps.length = 6 → byteAt ps 0 ≤ 63 → s.store.scanning = false →
    s.store.entry (byteAt ps 0) = some e → e.state = .ready → e.marked = false → 1 ≤ byteAt ps 5 → byteAt ps 5 ≤ 56 →
    longAt ps 1 + byteAt ps 5 ≤ e.clip.length →
    r = ⟨⟨l, (s.link l).activation, tag, 0x66⟩, 4096 * e.first + 32 + longAt ps 1, byteAt ps 5⟩ →
    (s.store.activity = .idle → s.store.readWaits = false →
      exec (.clipRead l tag ps) s = .next ((s.accepted l tag 0x66).setStore { s.store with
        activity := .reading, reading := some (.clipRead r) }))
    ∧ (s.store.activity = .reading ∨ s.store.activity = .programming
        ∨ (s.store.activity = .erasing ∧ s.store.eraseRun = 0) →
      exec (.clipRead l tag ps) s = .next ((s.accepted l tag 0x66).setStore { s.store with reads := s.store.reads ++ [r] }))
    ∧ (s.store.activity = .erasing → 1 ≤ s.store.eraseRun →
      exec (.clipRead l tag ps) s = .next ((s.accepted l tag 0x66).setStore { s.store with
        reads := s.store.reads ++ [r], suspending := true })))
  ∧ (∀ s : State, s.store.activity = .erasing →
    (s.store.readWaits = true → 1 ≤ s.store.eraseRun →
      exec .eraseSuspend s = .next (s.setStore { s.store with suspending := true }))
    ∧ (s.store.eraseRun = 0 → exec .eraseSuspend s = .next s)
    ∧ (s.store.suspending = true →
      ((∀ v, s.store.fetches.get v = none) → s.store.reads = [] → s.store.opInHand.isSome = true →
        exec .suspendComplete s = .next (s.setStore { s.store with suspending := false, eraseRun := 0 }))
      ∧ (∀ r rest, (∀ v, s.store.fetches.get v = none) → s.store.reads = r :: rest →
        exec .suspendComplete s = .next (s.setStore { s.store with
          activity := .reading, suspending := false, reading := some (.clipRead r), reads := rest }))
      ∧ (∀ v f, s.store.fetches.get v = some f →
        (∀ w, w ≠ v → (s.store.fetches.get w).isSome = true → (s.voice v).buffered < (s.voice w).buffered
          ∨ ((s.voice v).buffered = (s.voice w).buffered ∧ v.num < w.num)) →
        exec .suspendComplete s = .next (s.setStore { s.store with
          activity := .reading, suspending := false, reading := some (.fetch v f)
          fetches := s.store.fetches.set v none }))))
  ∧ (∀ (s : State) (r : ClipRead) (bs : List Byte), s.store.reading = some (.clipRead r) → s.store.readWaits = false →
    s.store.undet = [] →
    bs = (List.range r.count).map (fun i =>
      if r.addr + i < 524288 then cellAt s.store.array (r.addr + i) else 0xFF) →
    (s.store.opInHand.isSome = true →
      exec .arrayReadComplete s = .next ((s.answer r.dest .ok bs).setStore { s.store with
        reading := none, activity := .erasing, suspending := false, eraseRun := 0 }))
    ∧ (s.store.opInHand = none → s.store.work = [] → s.store.jobs = [] → s.store.jobRunning = false →
      exec .arrayReadComplete s
        = .next ((s.answer r.dest .ok bs).setStore { s.store with reading := none, activity := .idle })))
  ∧ ∀ (s : State) (v : VoiceId) (f : Fetch) (x : Voice), s.store.reading = some (.fetch v f) → x = s.voice v →
    x.state = .starting → f.half = x.playing → x.half f.half = ⟨f.block, .fetching, []⟩ →
    ∃ t, exec .arrayReadComplete s = .next t ∧ (t.voice v).state = .playing
      ∧ (t.voice v).half f.half = ⟨f.block, .filled, s.store.bytes f.addr 256⟩
      ∧ (t.voice v).position = x.position ∧ (t.voice v).loops = x.loops ∧ (t.voice v).playing = x.playing
      ∧ (∀ w, w ≠ v → t.voice w = s.voice w) ∧ t.store.array = s.store.array
      ∧ t.store.reads.length ≤ s.store.reads.length
      ∧ t = { s with store := t.store, sound := t.sound, links := t.links, freeCount := t.freeCount }
      ∧ ((s.store.jobRunning = true →
          s.store.opInHand.isSome = true ∨ s.store.work ≠ [] ∨ s.store.readWaits = true) →
        t.store.directory = s.store.directory ∧ t.store.jobs = s.store.jobs ∧ t.store.ctx = s.store.ctx ∧ t.links = s.links)
      ∧ ∀ (id first n : Nat) (format : ClipFormat) (j : Job) (rest : List Job),
        x.source = some (.clip id first format n none) → n ≤ blockSamples format → x.loops = 0 → f.block = 0 →
        (x.half f.half.other).fill ≠ .fetching → s.store.readWaits = false → s.store.jobRunning = true →
        s.store.opInHand = none → s.store.work = [] → s.store.jobs = j :: rest →
        t.store.jobs = rest ∧ ∃ st payload, t.links = (s.answer j.dest st payload).links
          ∧ (j.abandoned = true → st = .clipState ∧ payload = []) ∧ (j.abandoned = false → st = .ok)

/-! ## Sound engine (chapter 10) -/

/-- PLAY (R161 to R163). With the form in its sets, no scan and no BROWNOUT, a tone starts PLAYING and a READY, unmarked clip
STARTING on the lowest FREE voice with its values in range, takes the start counter's value, and for a clip places the fetch of
block 0; the reply carries the voice and the applied rate or frequency. With no voice FREE, the one of lowest priority, and
the oldest of these, not above the new priority, ends STOLEN, its owner told; with none, NO_VOICE. The model's choices in it: flag
bits 2 to 7 are ignored (log entry 51), and a PLAY steals also the voice that the other link's PLAY has just started (log
entry 53). -/
def Obligations.PlayStartsSound : Prop :=
  ∀ (l : LinkId) (tag : Byte) (ps : List Byte) (s : State) (pr : Nat), s.asked l tag 0x70 ps → ps.length = 10 →
    byteAt ps 0 ≤ 1 → (byteAt ps 0 = 0 → byteAt ps 1 ≤ 63) → pr = byteAt ps 7 → pr ≤ 7 →
    (byteAt ps 0 = 1 → wordAt ps 5 ≠ 0) →
    (s.store.scanning = true → exec (.play l tag ps) s = .next (s.replied l tag 0x70 .notReady []))
    ∧ (s.store.scanning = false → s.supply.state = .brownout →
      exec (.play l tag ps) s = .next (s.replied l tag 0x70 .brownout []))
    ∧ (s.store.scanning = false → s.supply.state ≠ .brownout → byteAt ps 0 = 0 →
      (∀ e ∈ s.store.directory, e.id = byteAt ps 1 → e.state ≠ .ready ∨ e.marked = true) →
      exec (.play l tag ps) s = .next (s.replied l tag 0x70 .clipState []))
    ∧ (s.store.scanning = false → s.supply.state ≠ .brownout → byteAt ps 0 = 1 →
      (∀ v, (s.voice v).state ≠ .free ∧ pr < (s.voice v).priority) →
      exec (.play l tag ps) s = .next (s.replied l tag 0x70 .noVoice []))
    ∧ (∀ (v : VoiceId) (freq : Nat) (x : Voice), s.store.scanning = false → s.supply.state ≠ .brownout → byteAt ps 0 = 1 →
      freq = max 20 (min 8000 (wordAt ps 2)) →
      x = { Voice.unused with
        state := .playing, owner := some (.link l), tag := some tag, report := true, priority := pr
        order := s.sound.startCount, gain := if (byteAt ps 8).testBit 0 then byteAt ps 9 else 255
        source := some (.tone freq), notify := (byteAt ps 8).testBit 1, left := wordAt ps 5 * 16 } →
      (VoiceId.all.find? (fun w => (s.voice w).state == .free) = some v →
        exec (.play l tag ps) s = .next
          ((s.setSound { s.sound with voices := s.sound.voices.set v x, startCount := s.sound.startCount + 1 }).replied l tag
            0x70 (if freq = wordAt ps 2 then .ok else .adjusted) (BitVec.ofNat 8 v.num :: le2 freq)))
      ∧ ((∀ w, (s.voice w).state ≠ .free) → (s.voice v).priority ≤ pr →
        (∀ w, w ≠ v → (s.voice v).priority < (s.voice w).priority
          ∨ ((s.voice v).priority = (s.voice w).priority ∧ (s.voice v).order.toNat < (s.voice w).order.toNat)) →
        ∃ t, exec (.play l tag ps) s = .next t ∧ t.voice v = x ∧ t.sound.startCount = s.sound.startCount + 1
          ∧ (∀ w, w ≠ v → t.voice w = s.voice w) ∧ t.store.fetches = s.store.fetches.set v none
          ∧ (t.link l).replies = (s.link l).replies
              ++ [⟨tag, 0x70, if freq = wordAt ps 2 then .ok else .adjusted, BitVec.ofNat 8 v.num :: le2 freq⟩]
          ∧ (∀ k src, (s.voice v).owner = some (.link k) → (s.voice v).report = true → (s.voice v).source = some src →
            (s.link k).state = .active → 32 ≤ (t.link k).notices.length
              ∨ (t.link k).notices.getLast? = some (.voiceEnd ⟨v, (s.voice v).tag, src.name, .stolen, (s.voice v).underrun⟩))
          ∧ t = { s with sound := t.sound, store := t.store, links := t.links }))
    ∧ ∀ (v : VoiceId) (e : DirEntry) (rate : Nat), s.store.scanning = false → s.supply.state ≠ .brownout →
      byteAt ps 0 = 0 → s.store.readyClip (byteAt ps 1) = some e →
      rate = (if wordAt ps 2 = 0 then e.clip.rate else max 1000 (min 32000 (wordAt ps 2))) →
      VoiceId.all.find? (fun w => (s.voice w).state == .free) = some v → s.store.fetches.get v = none →
      (∀ f, s.store.reading ≠ some (.fetch v f)) →
      ∃ t, exec (.play l tag ps) s = .next t
        ∧ t.voice v = { Voice.unused with
            state := .starting, owner := some (.link l), tag := some tag, report := true, priority := pr
            order := s.sound.startCount, gain := if (byteAt ps 8).testBit 0 then byteAt ps 9 else e.clip.gain
            source := some (.clip e.id e.first e.clip.format e.clip.samples e.clip.region)
            step := rate * 65536 / 16000, loops := byteAt ps 4, notify := (byteAt ps 8).testBit 1
            half0 := ⟨0, .fetching, []⟩ }
        ∧ t.sound.startCount = s.sound.startCount + 1 ∧ (∀ w, w ≠ v → t.voice w = s.voice w)
        ∧ (t.store.fetches.get v = some ⟨.h0, 0, 4096 * e.first + 32⟩
          ∨ t.store.reading = some (.fetch v ⟨.h0, 0, 4096 * e.first + 32⟩))
        ∧ (t.link l) = (s.link l).replied tag 0x70 (if wordAt ps 2 = 0 ∨ rate = wordAt ps 2 then .ok else .adjusted)
            (BitVec.ofNat 8 v.num :: le2 rate)
        ∧ t = { s with sound := t.sound, store := t.store, links := s.links.set l (t.link l) }

/-- STOP_VOICE, SET_VOLUME and VOICE_STATUS (R168, R170, R171). A voice number above 3 is refused BAD_PARAM, a FREE voice
answered OK with no change; a busy voice becomes FREE, its fetch withdrawn, and its owner is told STOPPED. SET_VOLUME sets the
master volume and reports it with the volume ceiling. VOICE_STATUS reports the volumes and each voice in 13 bytes (R186). That a
voice that has become FREE has every field at its reset value is the model's reading (log entry 34), and so is that a read in
service stops being a fetch of the voice that ended (log entry 22). That a voice without a source reports clip id 0, sample index
0 and no tone is the model's choice (log entry 54). -/
def Obligations.VoiceRequests : Prop :=
  (∀ (l : LinkId) (tag n : Byte) (s : State), s.asked l tag 0x71 [n] →
    (3 < n.toNat → exec (.stopVoice l tag [n]) s = .next (s.replied l tag 0x71 .badParam []))
    ∧ ∀ v : VoiceId, v.num = n.toNat →
      ((s.voice v).state = .free → exec (.stopVoice l tag [n]) s = .next (s.replied l tag 0x71 .ok []))
      ∧ ((s.voice v).state ≠ .free →
        ∃ t, exec (.stopVoice l tag [n]) s = .next t
          ∧ t.sound = { s.sound with voices := s.sound.voices.set v Voice.unused }
          ∧ t.store.fetches = s.store.fetches.set v none ∧ (∀ f, t.store.reading ≠ some (.fetch v f))
          ∧ (t.link l).replies = (s.link l).replies ++ [⟨tag, 0x71, .ok, []⟩]
          ∧ (∀ k src, (s.voice v).owner = some (.link k) → (s.voice v).report = true → (s.voice v).source = some src →
            (s.link k).state = .active → 32 ≤ (t.link k).notices.length
              ∨ (t.link k).notices.getLast? = some (.voiceEnd ⟨v, (s.voice v).tag, src.name, .stopped, (s.voice v).underrun⟩))
          ∧ ((s.voice v).owner = some .supply → ∀ k, (t.link k).notices = (s.link k).notices)
          ∧ t.store = { s.store with fetches := t.store.fetches, reading := t.store.reading }
          ∧ t = { s with sound := t.sound, store := t.store, links := t.links }))
  ∧ (∀ (l : LinkId) (tag m : Byte) (s : State), s.asked l tag 0x72 [m] →
    exec (.setVolume l tag [m]) s = .next
      ((s.setSound { s.sound with master := m.toNat }).replied l tag 0x72 .ok (m :: le2i s.supply.volCeil)))
  ∧ ∀ (l : LinkId) (tag : Byte) (s : State), s.asked l tag 0x73 [] →
    ∃ bs : List Byte, exec (.voiceStatus l tag []) s = .next (s.replied l tag 0x73 .ok bs) ∧ bs.length = 57
      ∧ bs.take 5 = BitVec.ofNat 8 s.sound.master :: (le2i s.supply.volCeil
          ++ le2i (min (s.sound.master : Int) s.supply.volCeil))
      ∧ ∀ v : VoiceId, (bs.drop (5 + 13 * v.num)).take 13 = (s.voice v).statusBytes
        ∧ ((bs.getD (5 + 13 * v.num) 0).toNat / 4) % 4 = (match (s.voice v).owner with
            | some (.link .cl0) => 0
            | some (.link .cl1) => 1
            | _ => 2)
        ∧ (bs.getD (5 + 13 * v.num) 0).getLsbD 4 = (s.voice v).notify
        ∧ ((bs.getD (5 + 13 * v.num) 0).getLsbD 5 = true ↔ ∃ freq, (s.voice v).source = some (.tone freq))
        ∧ (bs.getD (5 + 13 * v.num) 0).getLsbD 6 = (s.voice v).tag.isSome
        ∧ (bs.drop (6 + 13 * v.num)).take 3 = [(s.voice v).tag.getD 0, BitVec.ofNat 8 (s.voice v).priority,
            BitVec.ofNat 8 (s.voice v).gain]
        ∧ (bs.drop (9 + 13 * v.num)).take 7 = (match (s.voice v).source with
            | some (.tone freq) => le2 freq ++ [BitVec.ofNat 8 (s.voice v).loops] ++ le4 (s.voice v).left
            | some (.clip id _ _ _ _) => le2 id ++ [BitVec.ofNat 8 (s.voice v).loops] ++ le4 ((s.voice v).position / 65536)
            | none => le2 0 ++ [BitVec.ofNat 8 (s.voice v).loops] ++ le4 ((s.voice v).position / 65536))
        ∧ (bs.drop (16 + 13 * v.num)).take 2 = le2 (s.voice v).underrun

/-- An output sample (R165 to R167, R169). While every PLAYING voice is a tone with more than one sample left, each takes its
phase step, and the speaker compare value is that of the sum of the gain-scaled samples at the effective volume; with no voice
PLAYING it is 512 and nothing else changes. A clip voice alone in PLAYING whose block is FILLED in its playing half gives its
sample and advances by its step; past the end of its loop region with a loop left, the position goes back by the region's length
and one loop is used, 255 standing for endless; past its last sample with no loops left, it becomes FREE; with its block in no
half it contributes 0, holds its position and counts the underrun. That an ended voice has every field at its reset value is log
entry 34, and that the position is kept without a bound log entry 15. -/
def Obligations.OutputSampleMixes : Prop :=
  (∀ (s : State) (term : VoiceId → Int) (acc eff : Int) (speaker : Nat),
    (∀ v, (s.voice v).state = .playing → 2 ≤ (s.voice v).left ∧ ∃ freq, (s.voice v).source = some (.tone freq)) →
    (∀ v, term v = if (s.voice v).state = .playing then
      (if (s.voice v).phase < 32768 then 8192 else -8192) * ((s.voice v).gain : Int) / 256 else 0) →
    acc = term .v0 + term .v1 + term .v2 + term .v3 → eff = min (s.sound.master : Int) s.supply.volCeil →
    speaker = ((max (-32767) (min 32767 (acc * eff / 256)) + 32768) / 64).toNat →
    ∃ t, exec .outputSample s = .next t ∧ t.sound.speaker = speaker
      ∧ (∀ v freq, (s.voice v).state = .playing → (s.voice v).source = some (.tone freq) →
        t.voice v = { s.voice v with
          phase := ((s.voice v).phase + freq * 65536 / 16000) % 65536, left := (s.voice v).left - 1 })
      ∧ (∀ v, (s.voice v).state ≠ .playing → t.voice v = s.voice v)
      ∧ t.sound.master = s.sound.master ∧ t.sound.startCount = s.sound.startCount ∧ t = { s with sound := t.sound })
  ∧ (∀ s : State, (∀ v, (s.voice v).state ≠ .playing) →
    exec .outputSample s = .next (s.setSound { s.sound with speaker := 512 }))
  ∧ (∀ (s : State) (v : VoiceId) (x : Voice) (id first n index : Nat) (f : ClipFormat) (region : Option (Nat × Nat)),
    x = s.voice v → x.state = .playing → (∀ w, w ≠ v → (s.voice w).state ≠ .playing) →
    x.source = some (.clip id first f n region) → index = x.position / 65536 →
    ((x.half x.playing).fill = .filled → (x.half x.playing).block = index / blockSamples f →
      ∃ t, exec .outputSample s = .next t
        ∧ t.sound.speaker = ((max (-32767) (min 32767
            (sampleIn f (x.half x.playing).data index * (x.gain : Int) / 256
              * min (s.sound.master : Int) s.supply.volCeil / 256)) + 32768) / 64).toNat
        ∧ (∀ w, w ≠ v → t.voice w = s.voice w)
        ∧ ((x.position + x.step) / 65536 < n →
          (∀ ls le, region = some (ls, le) → (x.position + x.step) / 65536 < le) →
          t.voice v = { x with position := x.position + x.step } ∧ t = { s with sound := t.sound })
        ∧ (n ≤ (x.position + x.step) / 65536 → x.loops = 0 → t.voice v = Voice.unused
          ∧ t.store.fetches.get v = none ∧ t = { s with sound := t.sound, store := t.store, links := t.links })
        ∧ (∀ ls le, region = some (ls, le) → ls < le → le ≤ n → (x.position + x.step) / 65536 < le + (le - ls) →
          le ≤ (x.position + x.step) / 65536 → 1 ≤ x.loops → x.loops ≤ 255 →
          (t.voice v).position = x.position + x.step - (le - ls) * 65536
          ∧ (t.voice v).loops = (if x.loops = 255 then 255 else x.loops - 1) ∧ t.links = s.links))
    ∧ ((∀ h, (x.half h).fill = .filled → (x.half h).block ≠ index / blockSamples f) →
      ∃ t, exec .outputSample s = .next t ∧ t.sound.speaker = 512 ∧ (t.voice v).position = x.position
        ∧ (t.voice v).loops = x.loops ∧ (t.voice v).state = .playing
        ∧ (t.voice v).underrun = min 65535 (x.underrun + 1) ∧ (∀ w, w ≠ v → t.voice w = s.voice w)
        ∧ t.links = s.links ∧ t = { s with sound := t.sound, store := t.store }))
  ∧ ∀ (s : State) (v : VoiceId) (freq : Nat), (s.voice v).state = .playing → (s.voice v).source = some (.tone freq) →
    (s.voice v).left = 1 → (∀ w, w ≠ v → (s.voice w).state ≠ .playing) →
    ∃ t, exec .outputSample s = .next t ∧ t.voice v = Voice.unused
      ∧ (∀ k, (s.voice v).owner = some (.link k) → (s.voice v).report = true → (s.voice v).notify = true →
        (s.link k).state = .active → 32 ≤ (t.link k).notices.length
          ∨ (t.link k).notices.getLast? = some (.voiceEnd ⟨v, (s.voice v).tag, .tone freq, .done, (s.voice v).underrun⟩))
      ∧ ((s.voice v).notify = false → t.links = s.links)

/-! ## The invariants every step keeps -/

/-- The clip store stays well formed: the array in its canonical form, at most four jobs, and a directory of distinct ids
whose spans lie in the array and share no sector (R141, R145 to R148). -/
def Obligations.EveryStepKeepsStore : Prop :=
  ∀ s t : State, s.store.inv → step s = .next t → t.store.inv

/-- The drive stays within its ceilings: the supply ceiling between 250 and 1000 with the volume ceiling formed from it, and
no duty above the ceiling of its port (R90, R116, R117). -/
def Obligations.EveryStepKeepsDrive : Prop :=
  ∀ s t : State, s.driveInv → step s = .next t → t.driveInv

/-- Nothing is driven while HALTED or in BROWNOUT: no segment, no duty, and every motor COASTING or BRAKING (R75, R77). The
drive's own invariant is a premise: it gives every port a ceiling above 0. -/
def Obligations.EveryStepKeepsHalt : Prop :=
  ∀ s t : State, s.driveInv → s.haltInv → step s = .next t → t.haltInv

/-- The links stay well formed: at most 8 requests and 32 notices, no two DATA notices of one entry, a quiet count of at most
15, and an age timer that runs exactly while ACTIVE (R133, R174, R179). -/
def Obligations.EveryStepKeepsLinks : Prop :=
  ∀ s t : State, (∀ l, (s.link l).inv) → step s = .next t → ∀ l, (t.link l).inv

/-- The count of a link never exceeds 8, and every reply still owed to its present stay in ACTIVE is counted (R174, R175). -/
def Obligations.EveryStepKeepsCount : Prop :=
  ∀ s t : State, s.countInv → step s = .next t → t.countInv

/-- The tables stay within their bounds: the port records (R2, R12, R39, R41), the motion units and pair queues (R57, R101),
and the subscription table (R126, R129, R138). -/
def Obligations.EveryStepKeepsTables : Prop :=
  (∀ s t : State, (∀ p, (s.port p).inv) → step s = .next t → ∀ p, (t.port p).inv)
  ∧ (∀ s t : State, s.motionInv → step s = .next t → t.motionInv)
  ∧ ∀ s t : State, s.streamInv → step s = .next t → t.streamInv

/-- The machine right after reset meets every invariant that the statements above keep. -/
def Obligations.ResetMeetsInvariants : Prop :=
  State.reset.store.inv ∧ State.reset.driveInv ∧ State.reset.haltInv ∧ State.reset.countInv ∧ State.reset.motionInv
    ∧ State.reset.streamInv ∧ (∀ l, (State.reset.link l).inv) ∧ ∀ p, (State.reset.port p).inv

end Statements
end

