-- ==== Sys2Proof/Laws/Memory.lean ====
section
/-! SUPPORT. The clip array keeps its canonical form under its two operations, and what a byte reads as after each (R141). -/

namespace Sys2Proof.Machine

/-! ## Reading the sorted list -/

theorem lookup_eq_none_of_forall {cells : List Host.Cell} {a : Nat} (h : ∀ c ∈ cells, c.1 ≠ a) :
    cells.lookup a = none := by
  induction cells with
  | nil => rfl
  | cons c cs ih =>
    obtain ⟨b, v⟩ := c
    have hb : b ≠ a := h (b, v) (by simp)
    rw [List.lookup_cons]
    have : (a == b) = false := by simp; omega
    rw [this]
    exact ih fun c hc => h c (by simp [hc])

theorem lookup_append {xs ys : List Host.Cell} {a : Nat} :
    (xs ++ ys).lookup a = (xs.lookup a).or (ys.lookup a) := by
  induction xs with
  | nil => simp
  | cons c cs ih =>
    obtain ⟨b, v⟩ := c
    rw [List.cons_append, List.lookup_cons, List.lookup_cons]
    cases a == b
    · simpa using ih
    · simp

theorem lookup_filter (f : Nat → Bool) (cells : List Host.Cell) (a : Nat) :
    (cells.filter fun c => f c.1).lookup a = if f a then cells.lookup a else none := by
  induction cells with
  | nil => simp
  | cons c cs ih =>
    obtain ⟨b, v⟩ := c
    by_cases hb : f b
    · rw [List.filter_cons_of_pos (by simpa using hb), List.lookup_cons, List.lookup_cons]
      by_cases hab : a = b
      · subst hab; simp [hb]
      · have : (a == b) = false := by simpa using hab
        simp only [this]
        exact ih
    · rw [List.filter_cons_of_neg (by simpa using hb), List.lookup_cons]
      by_cases hab : a = b
      · subst hab; rw [ih]; simp [hb]
      · have : (a == b) = false := by simpa using hab
        simp only [this]
        exact ih

/-- No byte reads as something the canonical form forbids: one outside the array is erased. -/
theorem cellAt_outside {cells : List Host.Cell} (h : Memory.wf cells) {a : Nat} (ha : arraySize ≤ a) :
    cellAt cells a = erasedByte := by
  rw [cellAt, lookup_eq_none_of_forall]
  · rfl
  · intro c hc e
    have := (h.2 c hc).1
    omega

/-! ## Sector erase -/

theorem eraseCells_wf {cells : List Host.Cell} (h : Memory.wf cells) (lo n : Nat) : Memory.wf (eraseCells lo n cells) :=
  ⟨h.1.filter _, fun c hc => h.2 c (List.mem_of_mem_filter hc)⟩

/-- A byte after a sector erase: erased inside the range, as before outside it (R141). -/
theorem cellAt_eraseCells (cells : List Host.Cell) (lo n a : Nat) :
    cellAt (eraseCells lo n cells) a = if lo ≤ a ∧ a < lo + n then erasedByte else cellAt cells a := by
  unfold eraseCells cellAt
  rw [lookup_filter (fun x => decide (x < lo ∨ lo + n ≤ x))]
  by_cases h : lo ≤ a ∧ a < lo + n
  · have : ¬ (a < lo ∨ lo + n ≤ a) := by omega
    simp [this, h]
  · have : a < lo ∨ lo + n ≤ a := by omega
    simp [this, h]

/-! ## Page program -/

theorem programmedCell_fst {lo : Nat} {data : List Byte} {cells : List Host.Cell} {i : Nat} {c : Host.Cell}
    (h : programmedCell lo data cells i = some c) : c.1 = lo + i ∧ c.1 < arraySize ∧ c.2 ≠ erasedByte := by
  unfold programmedCell at h
  simp only at h
  split at h
  · cases h
  · rename_i g
    cases h
    refine ⟨rfl, ?_, ?_⟩
    · simp only; omega
    · intro e; exact g (.inl e)

theorem programmed_wf (lo : Nat) (data : List Byte) (cells : List Host.Cell) (n : Nat) :
    Memory.wf ((List.range n).filterMap (programmedCell lo data cells)) := by
  refine ⟨?_, ?_⟩
  · rw [List.pairwise_filterMap]
    refine List.pairwise_lt_range.imp fun h b hb c hc => ?_
    rw [(programmedCell_fst hb).1, (programmedCell_fst hc).1]
    omega
  · intro c hc
    obtain ⟨i, _, h⟩ := List.mem_filterMap.mp hc
    exact (programmedCell_fst h).2

theorem programCells_wf {cells : List Host.Cell} (h : Memory.wf cells) (lo : Nat) (data : List Byte) :
    Memory.wf (programCells lo data cells) := by
  have p := programmed_wf lo data cells data.length
  have inside : ∀ c ∈ (List.range data.length).filterMap (programmedCell lo data cells),
      lo ≤ c.1 ∧ c.1 < lo + data.length := by
    intro c hc
    obtain ⟨i, hi, e⟩ := List.mem_filterMap.mp hc
    have := (programmedCell_fst e).1
    rw [List.mem_range] at hi
    omega
  refine ⟨?_, ?_⟩
  · unfold programCells
    rw [List.append_assoc, List.pairwise_append, List.pairwise_append]
    refine ⟨h.1.filter _, ⟨p.1, h.1.filter _, ?_⟩, ?_⟩
    · intro c hc d hd
      have := (inside c hc).2
      have := (List.mem_filter.mp hd).2
      simp only [decide_eq_true_eq] at this
      omega
    · intro c hc d hd
      have hc := (List.mem_filter.mp hc).2
      simp only [decide_eq_true_eq] at hc
      rcases List.mem_append.mp hd with hd | hd
      · have := (inside d hd).1; omega
      · have := (List.mem_filter.mp hd).2
        simp only [decide_eq_true_eq] at this
        omega
  · intro c hc
    unfold programCells at hc
    rw [List.append_assoc, List.mem_append, List.mem_append] at hc
    rcases hc with hc | hc | hc
    · exact h.2 c (List.mem_of_mem_filter hc)
    · exact p.2 c hc
    · exact h.2 c (List.mem_of_mem_filter hc)

theorem lookup_programmed {lo : Nat} {data : List Byte} {cells : List Host.Cell} (n a : Nat) :
    ((List.range n).filterMap (programmedCell lo data cells)).lookup a
      = if lo ≤ a ∧ a < lo + n then (programmedCell lo data cells (a - lo)).map Prod.snd else none := by
  induction n with
  | zero =>
    simp
  | succ n ih =>
    rw [List.range_succ, List.filterMap_append, lookup_append, ih]
    by_cases h1 : lo ≤ a ∧ a < lo + n
    · have h2 : lo ≤ a ∧ a < lo + (n + 1) := by omega
      have h3 : a ≠ lo + n := by omega
      rw [if_pos h1, if_pos h2]
      cases e : programmedCell lo data cells n with
      | none => simp [e]
      | some c =>
        obtain ⟨b, v⟩ := c
        have hb : b = lo + n := (programmedCell_fst e).1
        have : (a == b) = false := by simp; omega
        simp [e, List.lookup_cons, this]
    · by_cases h2 : a = lo + n
      · have h3 : lo ≤ a ∧ a < lo + (n + 1) := by omega
        have h4 : a - lo = n := by omega
        rw [if_neg h1, if_pos h3, h4]
        cases e : programmedCell lo data cells n with
        | none => simp [e]
        | some c =>
          obtain ⟨b, v⟩ := c
          have hb : b = lo + n := (programmedCell_fst e).1
          have : (a == b) = true := by simp; omega
          simp [e, List.lookup_cons, this]
      · have h3 : ¬ (lo ≤ a ∧ a < lo + (n + 1)) := by omega
        rw [if_neg h1, if_neg h3]
        cases e : programmedCell lo data cells n with
        | none => simp [e]
        | some c =>
          obtain ⟨b, v⟩ := c
          have hb : b = lo + n := (programmedCell_fst e).1
          have : (a == b) = false := by simp; omega
          simp [e, List.lookup_cons, this]

/-- A byte of the array after a page program: inside the range each 0 bit of the data clears its bit; outside it the byte
is as before (R141). -/
theorem cellAt_programCells {cells : List Host.Cell} (lo : Nat) (data : List Byte) {a : Nat} (ha : a < arraySize) :
    cellAt (programCells lo data cells) a
      = if lo ≤ a ∧ a < lo + data.length then cellAt cells a &&& data.getD (a - lo) erasedByte else cellAt cells a := by
  have key : (programCells lo data cells).lookup a
      = ((if decide (a < lo) then cells.lookup a else none).or
          (if lo ≤ a ∧ a < lo + data.length then (programmedCell lo data cells (a - lo)).map Prod.snd else none)).or
          (if decide (lo + data.length ≤ a) then cells.lookup a else none) := by
    unfold programCells
    rw [lookup_append, lookup_append, lookup_filter (fun x => decide (x < lo)),
      lookup_filter (fun x => decide (lo + data.length ≤ x)), lookup_programmed]
  unfold cellAt
  rw [key]
  by_cases h1 : a < lo
  · have h2 : ¬ (lo ≤ a ∧ a < lo + data.length) := by omega
    have h3 : ¬ (lo + data.length ≤ a) := by omega
    simp [h1, h2, h3]
  · by_cases h2 : lo + data.length ≤ a
    · have h3 : ¬ (lo ≤ a ∧ a < lo + data.length) := by omega
      simp [h1, h2, h3]
    · have h3 : lo ≤ a ∧ a < lo + data.length := by omega
      have e : lo + (a - lo) = a := by omega
      simp only [h1, h2, h3, decide_false, and_self, if_true, Bool.false_eq_true, if_false, Option.none_or,
        Option.or_none]
      unfold programmedCell
      simp only [e, Nat.not_le.mpr ha, or_false]
      unfold cellAt
      split
      · rename_i g; exact g.symm
      · rfl

/-- Every operation of the array keeps its canonical form. -/
theorem Store.applyOp_wf {t : Store} (h : Memory.wf t.array) (op : ArrayOp) : Memory.wf (t.applyOp op).array := by
  cases op with
  | eraseSector k => exact eraseCells_wf h _ _
  | program a data => exact programCells_wf h _ _
  | eraseInfo => exact h
  | programInfo b lock => exact h

/-- Beginning an operation changes no byte of the list. -/
@[simp] theorem Store.beginOp_array (n : Nat) (op : ArrayOp) (t : Store) : (t.beginOp n op).array = t.array := rfl

end Sys2Proof.Machine
end

