-- ==== Sys2Proof/Laws/State.lean ====
section
/-! SUPPORT. The small lemmas of the state record: what each update leaves in each field and in each record, so that no later
proof unfolds a record update. -/

namespace Sys2Proof

variable {α : Type}

@[simp] theorem Two.get_set_same (t : Two α) (i : LinkId) (a : α) : (t.set i a).get i = a := by cases i <;> rfl

theorem Two.get_set_ne (t : Two α) {i j : LinkId} (a : α) (h : j ≠ i) : (t.set i a).get j = t.get j := by
  cases i <;> cases j <;> first | rfl | exact absurd rfl h

theorem Two.get_set (t : Two α) (i j : LinkId) (a : α) : (t.set i a).get j = if j = i then a else t.get j := by
  cases i <;> cases j <;> rfl

@[simp] theorem Two.set_get_same (t : Two α) (i : LinkId) : t.set i (t.get i) = t := by cases i <;> rfl

@[simp] theorem Two.set_set (t : Two α) (i : LinkId) (a b : α) : (t.set i a).set i b = t.set i b := by cases i <;> rfl

@[simp] theorem Three.get_set_same (t : Three α) (i : PairId) (a : α) : (t.set i a).get i = a := by cases i <;> rfl

theorem Three.get_set_ne (t : Three α) {i j : PairId} (a : α) (h : j ≠ i) : (t.set i a).get j = t.get j := by
  cases i <;> cases j <;> first | rfl | exact absurd rfl h

theorem Three.get_set (t : Three α) (i j : PairId) (a : α) : (t.set i a).get j = if j = i then a else t.get j := by
  cases i <;> cases j <;> rfl

@[simp] theorem Three.set_get_same (t : Three α) (i : PairId) : t.set i (t.get i) = t := by cases i <;> rfl

@[simp] theorem Three.set_set (t : Three α) (i : PairId) (a b : α) : (t.set i a).set i b = t.set i b := by cases i <;> rfl

@[simp] theorem Four.get_set_same (t : Four α) (i : VoiceId) (a : α) : (t.set i a).get i = a := by cases i <;> rfl

theorem Four.get_set_ne (t : Four α) {i j : VoiceId} (a : α) (h : j ≠ i) : (t.set i a).get j = t.get j := by
  cases i <;> cases j <;> first | rfl | exact absurd rfl h

theorem Four.get_set (t : Four α) (i j : VoiceId) (a : α) : (t.set i a).get j = if j = i then a else t.get j := by
  cases i <;> cases j <;> rfl

@[simp] theorem Four.set_get_same (t : Four α) (i : VoiceId) : t.set i (t.get i) = t := by cases i <;> rfl

@[simp] theorem Four.set_set (t : Four α) (i : VoiceId) (a b : α) : (t.set i a).set i b = t.set i b := by cases i <;> rfl

@[simp] theorem Six.get_set_same (t : Six α) (i : Port) (a : α) : (t.set i a).get i = a := by cases i <;> rfl

theorem Six.get_set_ne (t : Six α) {i j : Port} (a : α) (h : j ≠ i) : (t.set i a).get j = t.get j := by
  cases i <;> cases j <;> first | rfl | exact absurd rfl h

theorem Six.get_set (t : Six α) (i j : Port) (a : α) : (t.set i a).get j = if j = i then a else t.get j := by
  cases i <;> cases j <;> rfl

@[simp] theorem Six.set_get_same (t : Six α) (i : Port) : t.set i (t.get i) = t := by cases i <;> rfl

@[simp] theorem Six.set_set (t : Six α) (i : Port) (a b : α) : (t.set i a).set i b = t.set i b := by cases i <;> rfl

@[simp] theorem Two.get_both (a : α) (i : LinkId) : (Two.both a).get i = a := by cases i <;> rfl

@[simp] theorem Three.get_each (a : α) (i : PairId) : (Three.each a).get i = a := by cases i <;> rfl

@[simp] theorem Four.get_each (a : α) (i : VoiceId) : (Four.each a).get i = a := by cases i <;> rfl

@[simp] theorem Six.get_each (a : α) (i : Port) : (Six.each a).get i = a := by cases i <;> rfl

theorem Port.mem_all (p : Port) : p ∈ Port.all := by cases p <;> decide

theorem PairId.mem_all (q : PairId) : q ∈ PairId.all := by cases q <;> decide

theorem VoiceId.mem_all (v : VoiceId) : v ∈ VoiceId.all := by cases v <;> decide

theorem LinkId.mem_all (l : LinkId) : l ∈ LinkId.all := by cases l <;> decide

@[simp] theorem LinkId.other_other (l : LinkId) : l.other.other = l := by cases l <;> rfl

@[simp] theorem LinkId.other_ne (l : LinkId) : l.other ≠ l := by cases l <;> decide

@[simp] theorem LinkId.ne_other (l : LinkId) : l ≠ l.other := by cases l <;> decide

end Sys2Proof

namespace Sys2Proof.Machine

variable {β γ : Type}

@[simp] theorem Six.get_map (f : β → γ) (t : Six β) (p : Port) : (Six.map f t).get p = f (t.get p) := by cases p <;> rfl

@[simp] theorem Two.get_map (f : β → γ) (t : Two β) (l : LinkId) : (Two.map f t).get l = f (t.get l) := by cases l <;> rfl

/-! ### setPort -/
@[simp] theorem State.setPort_now (s : State) (p : Port) (u : PortUnit) : (s.setPort p u).now = s.now := rfl
@[simp] theorem State.setPort_ports (s : State) (p : Port) (u : PortUnit) : (s.setPort p u).ports = s.ports.set p u := rfl
@[simp] theorem State.setPort_claims (s : State) (p : Port) (u : PortUnit) : (s.setPort p u).claims = s.claims := rfl
@[simp] theorem State.setPort_motion (s : State) (p : Port) (u : PortUnit) : (s.setPort p u).motion = s.motion := rfl
@[simp] theorem State.setPort_pairs (s : State) (p : Port) (u : PortUnit) : (s.setPort p u).pairs = s.pairs := rfl
@[simp] theorem State.setPort_supply (s : State) (p : Port) (u : PortUnit) : (s.setPort p u).supply = s.supply := rfl
@[simp] theorem State.setPort_streams (s : State) (p : Port) (u : PortUnit) : (s.setPort p u).streams = s.streams := rfl
@[simp] theorem State.setPort_store (s : State) (p : Port) (u : PortUnit) : (s.setPort p u).store = s.store := rfl
@[simp] theorem State.setPort_sound (s : State) (p : Port) (u : PortUnit) : (s.setPort p u).sound = s.sound := rfl
@[simp] theorem State.setPort_links (s : State) (p : Port) (u : PortUnit) : (s.setPort p u).links = s.links := rfl
@[simp] theorem State.setPort_stopLine (s : State) (p : Port) (u : PortUnit) : (s.setPort p u).stopLine = s.stopLine := rfl
@[simp] theorem State.setPort_freeCount (s : State) (p : Port) (u : PortUnit) : (s.setPort p u).freeCount = s.freeCount := rfl
@[simp] theorem State.setPort_pending (s : State) (p : Port) (u : PortUnit) : (s.setPort p u).pending = s.pending := rfl
@[simp] theorem State.setPort_claim (s : State) (p : Port) (u : PortUnit) (i : Port) : (s.setPort p u).claim i = s.claim i := rfl
@[simp] theorem State.setPort_unit (s : State) (p : Port) (u : PortUnit) (i : Port) : (s.setPort p u).unit i = s.unit i := rfl
@[simp] theorem State.setPort_pairAt (s : State) (p : Port) (u : PortUnit) (i : PairId) : (s.setPort p u).pairAt i = s.pairAt i := rfl
@[simp] theorem State.setPort_link (s : State) (p : Port) (u : PortUnit) (i : LinkId) : (s.setPort p u).link i = s.link i := rfl
@[simp] theorem State.setPort_voice (s : State) (p : Port) (u : PortUnit) (i : VoiceId) : (s.setPort p u).voice i = s.voice i := rfl

/-! ### setClaim -/
@[simp] theorem State.setClaim_now (s : State) (p : Port) (c : Claim) : (s.setClaim p c).now = s.now := rfl
@[simp] theorem State.setClaim_ports (s : State) (p : Port) (c : Claim) : (s.setClaim p c).ports = s.ports := rfl
@[simp] theorem State.setClaim_claims (s : State) (p : Port) (c : Claim) : (s.setClaim p c).claims = s.claims.set p c := rfl
@[simp] theorem State.setClaim_motion (s : State) (p : Port) (c : Claim) : (s.setClaim p c).motion = s.motion := rfl
@[simp] theorem State.setClaim_pairs (s : State) (p : Port) (c : Claim) : (s.setClaim p c).pairs = s.pairs := rfl
@[simp] theorem State.setClaim_supply (s : State) (p : Port) (c : Claim) : (s.setClaim p c).supply = s.supply := rfl
@[simp] theorem State.setClaim_streams (s : State) (p : Port) (c : Claim) : (s.setClaim p c).streams = s.streams := rfl
@[simp] theorem State.setClaim_store (s : State) (p : Port) (c : Claim) : (s.setClaim p c).store = s.store := rfl
@[simp] theorem State.setClaim_sound (s : State) (p : Port) (c : Claim) : (s.setClaim p c).sound = s.sound := rfl
@[simp] theorem State.setClaim_links (s : State) (p : Port) (c : Claim) : (s.setClaim p c).links = s.links := rfl
@[simp] theorem State.setClaim_stopLine (s : State) (p : Port) (c : Claim) : (s.setClaim p c).stopLine = s.stopLine := rfl
@[simp] theorem State.setClaim_freeCount (s : State) (p : Port) (c : Claim) : (s.setClaim p c).freeCount = s.freeCount := rfl
@[simp] theorem State.setClaim_pending (s : State) (p : Port) (c : Claim) : (s.setClaim p c).pending = s.pending := rfl
@[simp] theorem State.setClaim_port (s : State) (p : Port) (c : Claim) (i : Port) : (s.setClaim p c).port i = s.port i := rfl
@[simp] theorem State.setClaim_unit (s : State) (p : Port) (c : Claim) (i : Port) : (s.setClaim p c).unit i = s.unit i := rfl
@[simp] theorem State.setClaim_pairAt (s : State) (p : Port) (c : Claim) (i : PairId) : (s.setClaim p c).pairAt i = s.pairAt i := rfl
@[simp] theorem State.setClaim_link (s : State) (p : Port) (c : Claim) (i : LinkId) : (s.setClaim p c).link i = s.link i := rfl
@[simp] theorem State.setClaim_voice (s : State) (p : Port) (c : Claim) (i : VoiceId) : (s.setClaim p c).voice i = s.voice i := rfl

/-! ### setUnit -/
@[simp] theorem State.setUnit_now (s : State) (p : Port) (m : MotionUnit) : (s.setUnit p m).now = s.now := rfl
@[simp] theorem State.setUnit_ports (s : State) (p : Port) (m : MotionUnit) : (s.setUnit p m).ports = s.ports := rfl
@[simp] theorem State.setUnit_claims (s : State) (p : Port) (m : MotionUnit) : (s.setUnit p m).claims = s.claims := rfl
@[simp] theorem State.setUnit_motion (s : State) (p : Port) (m : MotionUnit) : (s.setUnit p m).motion = s.motion.set p m := rfl
@[simp] theorem State.setUnit_pairs (s : State) (p : Port) (m : MotionUnit) : (s.setUnit p m).pairs = s.pairs := rfl
@[simp] theorem State.setUnit_supply (s : State) (p : Port) (m : MotionUnit) : (s.setUnit p m).supply = s.supply := rfl
@[simp] theorem State.setUnit_streams (s : State) (p : Port) (m : MotionUnit) : (s.setUnit p m).streams = s.streams := rfl
@[simp] theorem State.setUnit_store (s : State) (p : Port) (m : MotionUnit) : (s.setUnit p m).store = s.store := rfl
@[simp] theorem State.setUnit_sound (s : State) (p : Port) (m : MotionUnit) : (s.setUnit p m).sound = s.sound := rfl
@[simp] theorem State.setUnit_links (s : State) (p : Port) (m : MotionUnit) : (s.setUnit p m).links = s.links := rfl
@[simp] theorem State.setUnit_stopLine (s : State) (p : Port) (m : MotionUnit) : (s.setUnit p m).stopLine = s.stopLine := rfl
@[simp] theorem State.setUnit_freeCount (s : State) (p : Port) (m : MotionUnit) : (s.setUnit p m).freeCount = s.freeCount := rfl
@[simp] theorem State.setUnit_pending (s : State) (p : Port) (m : MotionUnit) : (s.setUnit p m).pending = s.pending := rfl
@[simp] theorem State.setUnit_port (s : State) (p : Port) (m : MotionUnit) (i : Port) : (s.setUnit p m).port i = s.port i := rfl
@[simp] theorem State.setUnit_claim (s : State) (p : Port) (m : MotionUnit) (i : Port) : (s.setUnit p m).claim i = s.claim i := rfl
@[simp] theorem State.setUnit_pairAt (s : State) (p : Port) (m : MotionUnit) (i : PairId) : (s.setUnit p m).pairAt i = s.pairAt i := rfl
@[simp] theorem State.setUnit_link (s : State) (p : Port) (m : MotionUnit) (i : LinkId) : (s.setUnit p m).link i = s.link i := rfl
@[simp] theorem State.setUnit_voice (s : State) (p : Port) (m : MotionUnit) (i : VoiceId) : (s.setUnit p m).voice i = s.voice i := rfl

/-! ### setPair -/
@[simp] theorem State.setPair_now (s : State) (q : PairId) (r : Option PairRec) : (s.setPair q r).now = s.now := rfl
@[simp] theorem State.setPair_ports (s : State) (q : PairId) (r : Option PairRec) : (s.setPair q r).ports = s.ports := rfl
@[simp] theorem State.setPair_claims (s : State) (q : PairId) (r : Option PairRec) : (s.setPair q r).claims = s.claims := rfl
@[simp] theorem State.setPair_motion (s : State) (q : PairId) (r : Option PairRec) : (s.setPair q r).motion = s.motion := rfl
@[simp] theorem State.setPair_pairs (s : State) (q : PairId) (r : Option PairRec) : (s.setPair q r).pairs = s.pairs.set q r := rfl
@[simp] theorem State.setPair_supply (s : State) (q : PairId) (r : Option PairRec) : (s.setPair q r).supply = s.supply := rfl
@[simp] theorem State.setPair_streams (s : State) (q : PairId) (r : Option PairRec) : (s.setPair q r).streams = s.streams := rfl
@[simp] theorem State.setPair_store (s : State) (q : PairId) (r : Option PairRec) : (s.setPair q r).store = s.store := rfl
@[simp] theorem State.setPair_sound (s : State) (q : PairId) (r : Option PairRec) : (s.setPair q r).sound = s.sound := rfl
@[simp] theorem State.setPair_links (s : State) (q : PairId) (r : Option PairRec) : (s.setPair q r).links = s.links := rfl
@[simp] theorem State.setPair_stopLine (s : State) (q : PairId) (r : Option PairRec) : (s.setPair q r).stopLine = s.stopLine := rfl
@[simp] theorem State.setPair_freeCount (s : State) (q : PairId) (r : Option PairRec) : (s.setPair q r).freeCount = s.freeCount := rfl
@[simp] theorem State.setPair_pending (s : State) (q : PairId) (r : Option PairRec) : (s.setPair q r).pending = s.pending := rfl
@[simp] theorem State.setPair_port (s : State) (q : PairId) (r : Option PairRec) (i : Port) : (s.setPair q r).port i = s.port i := rfl
@[simp] theorem State.setPair_claim (s : State) (q : PairId) (r : Option PairRec) (i : Port) : (s.setPair q r).claim i = s.claim i := rfl
@[simp] theorem State.setPair_unit (s : State) (q : PairId) (r : Option PairRec) (i : Port) : (s.setPair q r).unit i = s.unit i := rfl
@[simp] theorem State.setPair_link (s : State) (q : PairId) (r : Option PairRec) (i : LinkId) : (s.setPair q r).link i = s.link i := rfl
@[simp] theorem State.setPair_voice (s : State) (q : PairId) (r : Option PairRec) (i : VoiceId) : (s.setPair q r).voice i = s.voice i := rfl

/-! ### setLink -/
@[simp] theorem State.setLink_now (s : State) (l : LinkId) (k : Link) : (s.setLink l k).now = s.now := rfl
@[simp] theorem State.setLink_ports (s : State) (l : LinkId) (k : Link) : (s.setLink l k).ports = s.ports := rfl
@[simp] theorem State.setLink_claims (s : State) (l : LinkId) (k : Link) : (s.setLink l k).claims = s.claims := rfl
@[simp] theorem State.setLink_motion (s : State) (l : LinkId) (k : Link) : (s.setLink l k).motion = s.motion := rfl
@[simp] theorem State.setLink_pairs (s : State) (l : LinkId) (k : Link) : (s.setLink l k).pairs = s.pairs := rfl
@[simp] theorem State.setLink_supply (s : State) (l : LinkId) (k : Link) : (s.setLink l k).supply = s.supply := rfl
@[simp] theorem State.setLink_streams (s : State) (l : LinkId) (k : Link) : (s.setLink l k).streams = s.streams := rfl
@[simp] theorem State.setLink_store (s : State) (l : LinkId) (k : Link) : (s.setLink l k).store = s.store := rfl
@[simp] theorem State.setLink_sound (s : State) (l : LinkId) (k : Link) : (s.setLink l k).sound = s.sound := rfl
@[simp] theorem State.setLink_links (s : State) (l : LinkId) (k : Link) : (s.setLink l k).links = s.links.set l k := rfl
@[simp] theorem State.setLink_stopLine (s : State) (l : LinkId) (k : Link) : (s.setLink l k).stopLine = s.stopLine := rfl
@[simp] theorem State.setLink_freeCount (s : State) (l : LinkId) (k : Link) : (s.setLink l k).freeCount = s.freeCount := rfl
@[simp] theorem State.setLink_pending (s : State) (l : LinkId) (k : Link) : (s.setLink l k).pending = s.pending := rfl
@[simp] theorem State.setLink_port (s : State) (l : LinkId) (k : Link) (i : Port) : (s.setLink l k).port i = s.port i := rfl
@[simp] theorem State.setLink_claim (s : State) (l : LinkId) (k : Link) (i : Port) : (s.setLink l k).claim i = s.claim i := rfl
@[simp] theorem State.setLink_unit (s : State) (l : LinkId) (k : Link) (i : Port) : (s.setLink l k).unit i = s.unit i := rfl
@[simp] theorem State.setLink_pairAt (s : State) (l : LinkId) (k : Link) (i : PairId) : (s.setLink l k).pairAt i = s.pairAt i := rfl
@[simp] theorem State.setLink_voice (s : State) (l : LinkId) (k : Link) (i : VoiceId) : (s.setLink l k).voice i = s.voice i := rfl

/-! ### setSupply -/
@[simp] theorem State.setSupply_now (s : State) (m : Supply) : (s.setSupply m).now = s.now := rfl
@[simp] theorem State.setSupply_ports (s : State) (m : Supply) : (s.setSupply m).ports = s.ports := rfl
@[simp] theorem State.setSupply_claims (s : State) (m : Supply) : (s.setSupply m).claims = s.claims := rfl
@[simp] theorem State.setSupply_motion (s : State) (m : Supply) : (s.setSupply m).motion = s.motion := rfl
@[simp] theorem State.setSupply_pairs (s : State) (m : Supply) : (s.setSupply m).pairs = s.pairs := rfl
@[simp] theorem State.setSupply_supply (s : State) (m : Supply) : (s.setSupply m).supply = m := rfl
@[simp] theorem State.setSupply_streams (s : State) (m : Supply) : (s.setSupply m).streams = s.streams := rfl
@[simp] theorem State.setSupply_store (s : State) (m : Supply) : (s.setSupply m).store = s.store := rfl
@[simp] theorem State.setSupply_sound (s : State) (m : Supply) : (s.setSupply m).sound = s.sound := rfl
@[simp] theorem State.setSupply_links (s : State) (m : Supply) : (s.setSupply m).links = s.links := rfl
@[simp] theorem State.setSupply_stopLine (s : State) (m : Supply) : (s.setSupply m).stopLine = s.stopLine := rfl
@[simp] theorem State.setSupply_freeCount (s : State) (m : Supply) : (s.setSupply m).freeCount = s.freeCount := rfl
@[simp] theorem State.setSupply_pending (s : State) (m : Supply) : (s.setSupply m).pending = s.pending := rfl
@[simp] theorem State.setSupply_port (s : State) (m : Supply) (i : Port) : (s.setSupply m).port i = s.port i := rfl
@[simp] theorem State.setSupply_claim (s : State) (m : Supply) (i : Port) : (s.setSupply m).claim i = s.claim i := rfl
@[simp] theorem State.setSupply_unit (s : State) (m : Supply) (i : Port) : (s.setSupply m).unit i = s.unit i := rfl
@[simp] theorem State.setSupply_pairAt (s : State) (m : Supply) (i : PairId) : (s.setSupply m).pairAt i = s.pairAt i := rfl
@[simp] theorem State.setSupply_link (s : State) (m : Supply) (i : LinkId) : (s.setSupply m).link i = s.link i := rfl
@[simp] theorem State.setSupply_voice (s : State) (m : Supply) (i : VoiceId) : (s.setSupply m).voice i = s.voice i := rfl

/-! ### setStreams -/
@[simp] theorem State.setStreams_now (s : State) (es : List StreamEntry) : (s.setStreams es).now = s.now := rfl
@[simp] theorem State.setStreams_ports (s : State) (es : List StreamEntry) : (s.setStreams es).ports = s.ports := rfl
@[simp] theorem State.setStreams_claims (s : State) (es : List StreamEntry) : (s.setStreams es).claims = s.claims := rfl
@[simp] theorem State.setStreams_motion (s : State) (es : List StreamEntry) : (s.setStreams es).motion = s.motion := rfl
@[simp] theorem State.setStreams_pairs (s : State) (es : List StreamEntry) : (s.setStreams es).pairs = s.pairs := rfl
@[simp] theorem State.setStreams_supply (s : State) (es : List StreamEntry) : (s.setStreams es).supply = s.supply := rfl
@[simp] theorem State.setStreams_streams (s : State) (es : List StreamEntry) : (s.setStreams es).streams = es := rfl
@[simp] theorem State.setStreams_store (s : State) (es : List StreamEntry) : (s.setStreams es).store = s.store := rfl
@[simp] theorem State.setStreams_sound (s : State) (es : List StreamEntry) : (s.setStreams es).sound = s.sound := rfl
@[simp] theorem State.setStreams_links (s : State) (es : List StreamEntry) : (s.setStreams es).links = s.links := rfl
@[simp] theorem State.setStreams_stopLine (s : State) (es : List StreamEntry) : (s.setStreams es).stopLine = s.stopLine := rfl
@[simp] theorem State.setStreams_freeCount (s : State) (es : List StreamEntry) : (s.setStreams es).freeCount = s.freeCount := rfl
@[simp] theorem State.setStreams_pending (s : State) (es : List StreamEntry) : (s.setStreams es).pending = s.pending := rfl
@[simp] theorem State.setStreams_port (s : State) (es : List StreamEntry) (i : Port) : (s.setStreams es).port i = s.port i := rfl
@[simp] theorem State.setStreams_claim (s : State) (es : List StreamEntry) (i : Port) : (s.setStreams es).claim i = s.claim i := rfl
@[simp] theorem State.setStreams_unit (s : State) (es : List StreamEntry) (i : Port) : (s.setStreams es).unit i = s.unit i := rfl
@[simp] theorem State.setStreams_pairAt (s : State) (es : List StreamEntry) (i : PairId) : (s.setStreams es).pairAt i = s.pairAt i := rfl
@[simp] theorem State.setStreams_link (s : State) (es : List StreamEntry) (i : LinkId) : (s.setStreams es).link i = s.link i := rfl
@[simp] theorem State.setStreams_voice (s : State) (es : List StreamEntry) (i : VoiceId) : (s.setStreams es).voice i = s.voice i := rfl

/-! ### setStore -/
@[simp] theorem State.setStore_now (s : State) (t : Store) : (s.setStore t).now = s.now := rfl
@[simp] theorem State.setStore_ports (s : State) (t : Store) : (s.setStore t).ports = s.ports := rfl
@[simp] theorem State.setStore_claims (s : State) (t : Store) : (s.setStore t).claims = s.claims := rfl
@[simp] theorem State.setStore_motion (s : State) (t : Store) : (s.setStore t).motion = s.motion := rfl
@[simp] theorem State.setStore_pairs (s : State) (t : Store) : (s.setStore t).pairs = s.pairs := rfl
@[simp] theorem State.setStore_supply (s : State) (t : Store) : (s.setStore t).supply = s.supply := rfl
@[simp] theorem State.setStore_streams (s : State) (t : Store) : (s.setStore t).streams = s.streams := rfl
@[simp] theorem State.setStore_store (s : State) (t : Store) : (s.setStore t).store = t := rfl
@[simp] theorem State.setStore_sound (s : State) (t : Store) : (s.setStore t).sound = s.sound := rfl
@[simp] theorem State.setStore_links (s : State) (t : Store) : (s.setStore t).links = s.links := rfl
@[simp] theorem State.setStore_stopLine (s : State) (t : Store) : (s.setStore t).stopLine = s.stopLine := rfl
@[simp] theorem State.setStore_freeCount (s : State) (t : Store) : (s.setStore t).freeCount = s.freeCount := rfl
@[simp] theorem State.setStore_pending (s : State) (t : Store) : (s.setStore t).pending = s.pending := rfl
@[simp] theorem State.setStore_port (s : State) (t : Store) (i : Port) : (s.setStore t).port i = s.port i := rfl
@[simp] theorem State.setStore_claim (s : State) (t : Store) (i : Port) : (s.setStore t).claim i = s.claim i := rfl
@[simp] theorem State.setStore_unit (s : State) (t : Store) (i : Port) : (s.setStore t).unit i = s.unit i := rfl
@[simp] theorem State.setStore_pairAt (s : State) (t : Store) (i : PairId) : (s.setStore t).pairAt i = s.pairAt i := rfl
@[simp] theorem State.setStore_link (s : State) (t : Store) (i : LinkId) : (s.setStore t).link i = s.link i := rfl
@[simp] theorem State.setStore_voice (s : State) (t : Store) (i : VoiceId) : (s.setStore t).voice i = s.voice i := rfl

/-! ### setSound -/
@[simp] theorem State.setSound_now (s : State) (n : Sound) : (s.setSound n).now = s.now := rfl
@[simp] theorem State.setSound_ports (s : State) (n : Sound) : (s.setSound n).ports = s.ports := rfl
@[simp] theorem State.setSound_claims (s : State) (n : Sound) : (s.setSound n).claims = s.claims := rfl
@[simp] theorem State.setSound_motion (s : State) (n : Sound) : (s.setSound n).motion = s.motion := rfl
@[simp] theorem State.setSound_pairs (s : State) (n : Sound) : (s.setSound n).pairs = s.pairs := rfl
@[simp] theorem State.setSound_supply (s : State) (n : Sound) : (s.setSound n).supply = s.supply := rfl
@[simp] theorem State.setSound_streams (s : State) (n : Sound) : (s.setSound n).streams = s.streams := rfl
@[simp] theorem State.setSound_store (s : State) (n : Sound) : (s.setSound n).store = s.store := rfl
@[simp] theorem State.setSound_sound (s : State) (n : Sound) : (s.setSound n).sound = n := rfl
@[simp] theorem State.setSound_links (s : State) (n : Sound) : (s.setSound n).links = s.links := rfl
@[simp] theorem State.setSound_stopLine (s : State) (n : Sound) : (s.setSound n).stopLine = s.stopLine := rfl
@[simp] theorem State.setSound_freeCount (s : State) (n : Sound) : (s.setSound n).freeCount = s.freeCount := rfl
@[simp] theorem State.setSound_pending (s : State) (n : Sound) : (s.setSound n).pending = s.pending := rfl
@[simp] theorem State.setSound_port (s : State) (n : Sound) (i : Port) : (s.setSound n).port i = s.port i := rfl
@[simp] theorem State.setSound_claim (s : State) (n : Sound) (i : Port) : (s.setSound n).claim i = s.claim i := rfl
@[simp] theorem State.setSound_unit (s : State) (n : Sound) (i : Port) : (s.setSound n).unit i = s.unit i := rfl
@[simp] theorem State.setSound_pairAt (s : State) (n : Sound) (i : PairId) : (s.setSound n).pairAt i = s.pairAt i := rfl
@[simp] theorem State.setSound_link (s : State) (n : Sound) (i : LinkId) : (s.setSound n).link i = s.link i := rfl

/-! ### setVoice -/
@[simp] theorem State.setVoice_now (s : State) (v : VoiceId) (x : Voice) : (s.setVoice v x).now = s.now := rfl
@[simp] theorem State.setVoice_ports (s : State) (v : VoiceId) (x : Voice) : (s.setVoice v x).ports = s.ports := rfl
@[simp] theorem State.setVoice_claims (s : State) (v : VoiceId) (x : Voice) : (s.setVoice v x).claims = s.claims := rfl
@[simp] theorem State.setVoice_motion (s : State) (v : VoiceId) (x : Voice) : (s.setVoice v x).motion = s.motion := rfl
@[simp] theorem State.setVoice_pairs (s : State) (v : VoiceId) (x : Voice) : (s.setVoice v x).pairs = s.pairs := rfl
@[simp] theorem State.setVoice_supply (s : State) (v : VoiceId) (x : Voice) : (s.setVoice v x).supply = s.supply := rfl
@[simp] theorem State.setVoice_streams (s : State) (v : VoiceId) (x : Voice) : (s.setVoice v x).streams = s.streams := rfl
@[simp] theorem State.setVoice_store (s : State) (v : VoiceId) (x : Voice) : (s.setVoice v x).store = s.store := rfl
@[simp] theorem State.setVoice_sound (s : State) (v : VoiceId) (x : Voice) : (s.setVoice v x).sound = { s.sound with voices := s.sound.voices.set v x } := rfl
@[simp] theorem State.setVoice_links (s : State) (v : VoiceId) (x : Voice) : (s.setVoice v x).links = s.links := rfl
@[simp] theorem State.setVoice_stopLine (s : State) (v : VoiceId) (x : Voice) : (s.setVoice v x).stopLine = s.stopLine := rfl
@[simp] theorem State.setVoice_freeCount (s : State) (v : VoiceId) (x : Voice) : (s.setVoice v x).freeCount = s.freeCount := rfl
@[simp] theorem State.setVoice_pending (s : State) (v : VoiceId) (x : Voice) : (s.setVoice v x).pending = s.pending := rfl
@[simp] theorem State.setVoice_port (s : State) (v : VoiceId) (x : Voice) (i : Port) : (s.setVoice v x).port i = s.port i := rfl
@[simp] theorem State.setVoice_claim (s : State) (v : VoiceId) (x : Voice) (i : Port) : (s.setVoice v x).claim i = s.claim i := rfl
@[simp] theorem State.setVoice_unit (s : State) (v : VoiceId) (x : Voice) (i : Port) : (s.setVoice v x).unit i = s.unit i := rfl
@[simp] theorem State.setVoice_pairAt (s : State) (v : VoiceId) (x : Voice) (i : PairId) : (s.setVoice v x).pairAt i = s.pairAt i := rfl
@[simp] theorem State.setVoice_link (s : State) (v : VoiceId) (x : Voice) (i : LinkId) : (s.setVoice v x).link i = s.link i := rfl

/-! ### modPort -/
@[simp] theorem State.modPort_now (s : State) (p : Port) (f : PortUnit → PortUnit) : (s.modPort p f).now = s.now := rfl
@[simp] theorem State.modPort_ports (s : State) (p : Port) (f : PortUnit → PortUnit) : (s.modPort p f).ports = s.ports.set p (f (s.port p)) := rfl
@[simp] theorem State.modPort_claims (s : State) (p : Port) (f : PortUnit → PortUnit) : (s.modPort p f).claims = s.claims := rfl
@[simp] theorem State.modPort_motion (s : State) (p : Port) (f : PortUnit → PortUnit) : (s.modPort p f).motion = s.motion := rfl
@[simp] theorem State.modPort_pairs (s : State) (p : Port) (f : PortUnit → PortUnit) : (s.modPort p f).pairs = s.pairs := rfl
@[simp] theorem State.modPort_supply (s : State) (p : Port) (f : PortUnit → PortUnit) : (s.modPort p f).supply = s.supply := rfl
@[simp] theorem State.modPort_streams (s : State) (p : Port) (f : PortUnit → PortUnit) : (s.modPort p f).streams = s.streams := rfl
@[simp] theorem State.modPort_store (s : State) (p : Port) (f : PortUnit → PortUnit) : (s.modPort p f).store = s.store := rfl
@[simp] theorem State.modPort_sound (s : State) (p : Port) (f : PortUnit → PortUnit) : (s.modPort p f).sound = s.sound := rfl
@[simp] theorem State.modPort_links (s : State) (p : Port) (f : PortUnit → PortUnit) : (s.modPort p f).links = s.links := rfl
@[simp] theorem State.modPort_stopLine (s : State) (p : Port) (f : PortUnit → PortUnit) : (s.modPort p f).stopLine = s.stopLine := rfl
@[simp] theorem State.modPort_freeCount (s : State) (p : Port) (f : PortUnit → PortUnit) : (s.modPort p f).freeCount = s.freeCount := rfl
@[simp] theorem State.modPort_pending (s : State) (p : Port) (f : PortUnit → PortUnit) : (s.modPort p f).pending = s.pending := rfl
@[simp] theorem State.modPort_claim (s : State) (p : Port) (f : PortUnit → PortUnit) (i : Port) : (s.modPort p f).claim i = s.claim i := rfl
@[simp] theorem State.modPort_unit (s : State) (p : Port) (f : PortUnit → PortUnit) (i : Port) : (s.modPort p f).unit i = s.unit i := rfl
@[simp] theorem State.modPort_pairAt (s : State) (p : Port) (f : PortUnit → PortUnit) (i : PairId) : (s.modPort p f).pairAt i = s.pairAt i := rfl
@[simp] theorem State.modPort_link (s : State) (p : Port) (f : PortUnit → PortUnit) (i : LinkId) : (s.modPort p f).link i = s.link i := rfl
@[simp] theorem State.modPort_voice (s : State) (p : Port) (f : PortUnit → PortUnit) (i : VoiceId) : (s.modPort p f).voice i = s.voice i := rfl

/-! ### modUnit -/
@[simp] theorem State.modUnit_now (s : State) (p : Port) (f : MotionUnit → MotionUnit) : (s.modUnit p f).now = s.now := rfl
@[simp] theorem State.modUnit_ports (s : State) (p : Port) (f : MotionUnit → MotionUnit) : (s.modUnit p f).ports = s.ports := rfl
@[simp] theorem State.modUnit_claims (s : State) (p : Port) (f : MotionUnit → MotionUnit) : (s.modUnit p f).claims = s.claims := rfl
@[simp] theorem State.modUnit_motion (s : State) (p : Port) (f : MotionUnit → MotionUnit) : (s.modUnit p f).motion = s.motion.set p (f (s.unit p)) := rfl
@[simp] theorem State.modUnit_pairs (s : State) (p : Port) (f : MotionUnit → MotionUnit) : (s.modUnit p f).pairs = s.pairs := rfl
@[simp] theorem State.modUnit_supply (s : State) (p : Port) (f : MotionUnit → MotionUnit) : (s.modUnit p f).supply = s.supply := rfl
@[simp] theorem State.modUnit_streams (s : State) (p : Port) (f : MotionUnit → MotionUnit) : (s.modUnit p f).streams = s.streams := rfl
@[simp] theorem State.modUnit_store (s : State) (p : Port) (f : MotionUnit → MotionUnit) : (s.modUnit p f).store = s.store := rfl
@[simp] theorem State.modUnit_sound (s : State) (p : Port) (f : MotionUnit → MotionUnit) : (s.modUnit p f).sound = s.sound := rfl
@[simp] theorem State.modUnit_links (s : State) (p : Port) (f : MotionUnit → MotionUnit) : (s.modUnit p f).links = s.links := rfl
@[simp] theorem State.modUnit_stopLine (s : State) (p : Port) (f : MotionUnit → MotionUnit) : (s.modUnit p f).stopLine = s.stopLine := rfl
@[simp] theorem State.modUnit_freeCount (s : State) (p : Port) (f : MotionUnit → MotionUnit) : (s.modUnit p f).freeCount = s.freeCount := rfl
@[simp] theorem State.modUnit_pending (s : State) (p : Port) (f : MotionUnit → MotionUnit) : (s.modUnit p f).pending = s.pending := rfl
@[simp] theorem State.modUnit_port (s : State) (p : Port) (f : MotionUnit → MotionUnit) (i : Port) : (s.modUnit p f).port i = s.port i := rfl
@[simp] theorem State.modUnit_claim (s : State) (p : Port) (f : MotionUnit → MotionUnit) (i : Port) : (s.modUnit p f).claim i = s.claim i := rfl
@[simp] theorem State.modUnit_pairAt (s : State) (p : Port) (f : MotionUnit → MotionUnit) (i : PairId) : (s.modUnit p f).pairAt i = s.pairAt i := rfl
@[simp] theorem State.modUnit_link (s : State) (p : Port) (f : MotionUnit → MotionUnit) (i : LinkId) : (s.modUnit p f).link i = s.link i := rfl
@[simp] theorem State.modUnit_voice (s : State) (p : Port) (f : MotionUnit → MotionUnit) (i : VoiceId) : (s.modUnit p f).voice i = s.voice i := rfl

/-! ### modLink -/
@[simp] theorem State.modLink_now (s : State) (l : LinkId) (f : Link → Link) : (s.modLink l f).now = s.now := rfl
@[simp] theorem State.modLink_ports (s : State) (l : LinkId) (f : Link → Link) : (s.modLink l f).ports = s.ports := rfl
@[simp] theorem State.modLink_claims (s : State) (l : LinkId) (f : Link → Link) : (s.modLink l f).claims = s.claims := rfl
@[simp] theorem State.modLink_motion (s : State) (l : LinkId) (f : Link → Link) : (s.modLink l f).motion = s.motion := rfl
@[simp] theorem State.modLink_pairs (s : State) (l : LinkId) (f : Link → Link) : (s.modLink l f).pairs = s.pairs := rfl
@[simp] theorem State.modLink_supply (s : State) (l : LinkId) (f : Link → Link) : (s.modLink l f).supply = s.supply := rfl
@[simp] theorem State.modLink_streams (s : State) (l : LinkId) (f : Link → Link) : (s.modLink l f).streams = s.streams := rfl
@[simp] theorem State.modLink_store (s : State) (l : LinkId) (f : Link → Link) : (s.modLink l f).store = s.store := rfl
@[simp] theorem State.modLink_sound (s : State) (l : LinkId) (f : Link → Link) : (s.modLink l f).sound = s.sound := rfl
@[simp] theorem State.modLink_links (s : State) (l : LinkId) (f : Link → Link) : (s.modLink l f).links = s.links.set l (f (s.link l)) := rfl
@[simp] theorem State.modLink_stopLine (s : State) (l : LinkId) (f : Link → Link) : (s.modLink l f).stopLine = s.stopLine := rfl
@[simp] theorem State.modLink_freeCount (s : State) (l : LinkId) (f : Link → Link) : (s.modLink l f).freeCount = s.freeCount := rfl
@[simp] theorem State.modLink_pending (s : State) (l : LinkId) (f : Link → Link) : (s.modLink l f).pending = s.pending := rfl
@[simp] theorem State.modLink_port (s : State) (l : LinkId) (f : Link → Link) (i : Port) : (s.modLink l f).port i = s.port i := rfl
@[simp] theorem State.modLink_claim (s : State) (l : LinkId) (f : Link → Link) (i : Port) : (s.modLink l f).claim i = s.claim i := rfl
@[simp] theorem State.modLink_unit (s : State) (l : LinkId) (f : Link → Link) (i : Port) : (s.modLink l f).unit i = s.unit i := rfl
@[simp] theorem State.modLink_pairAt (s : State) (l : LinkId) (f : Link → Link) (i : PairId) : (s.modLink l f).pairAt i = s.pairAt i := rfl
@[simp] theorem State.modLink_voice (s : State) (l : LinkId) (f : Link → Link) (i : VoiceId) : (s.modLink l f).voice i = s.voice i := rfl

/-! ### modStore -/
@[simp] theorem State.modStore_now (s : State) (f : Store → Store) : (s.modStore f).now = s.now := rfl
@[simp] theorem State.modStore_ports (s : State) (f : Store → Store) : (s.modStore f).ports = s.ports := rfl
@[simp] theorem State.modStore_claims (s : State) (f : Store → Store) : (s.modStore f).claims = s.claims := rfl
@[simp] theorem State.modStore_motion (s : State) (f : Store → Store) : (s.modStore f).motion = s.motion := rfl
@[simp] theorem State.modStore_pairs (s : State) (f : Store → Store) : (s.modStore f).pairs = s.pairs := rfl
@[simp] theorem State.modStore_supply (s : State) (f : Store → Store) : (s.modStore f).supply = s.supply := rfl
@[simp] theorem State.modStore_streams (s : State) (f : Store → Store) : (s.modStore f).streams = s.streams := rfl
@[simp] theorem State.modStore_store (s : State) (f : Store → Store) : (s.modStore f).store = f s.store := rfl
@[simp] theorem State.modStore_sound (s : State) (f : Store → Store) : (s.modStore f).sound = s.sound := rfl
@[simp] theorem State.modStore_links (s : State) (f : Store → Store) : (s.modStore f).links = s.links := rfl
@[simp] theorem State.modStore_stopLine (s : State) (f : Store → Store) : (s.modStore f).stopLine = s.stopLine := rfl
@[simp] theorem State.modStore_freeCount (s : State) (f : Store → Store) : (s.modStore f).freeCount = s.freeCount := rfl
@[simp] theorem State.modStore_pending (s : State) (f : Store → Store) : (s.modStore f).pending = s.pending := rfl
@[simp] theorem State.modStore_port (s : State) (f : Store → Store) (i : Port) : (s.modStore f).port i = s.port i := rfl
@[simp] theorem State.modStore_claim (s : State) (f : Store → Store) (i : Port) : (s.modStore f).claim i = s.claim i := rfl
@[simp] theorem State.modStore_unit (s : State) (f : Store → Store) (i : Port) : (s.modStore f).unit i = s.unit i := rfl
@[simp] theorem State.modStore_pairAt (s : State) (f : Store → Store) (i : PairId) : (s.modStore f).pairAt i = s.pairAt i := rfl
@[simp] theorem State.modStore_link (s : State) (f : Store → Store) (i : LinkId) : (s.modStore f).link i = s.link i := rfl
@[simp] theorem State.modStore_voice (s : State) (f : Store → Store) (i : VoiceId) : (s.modStore f).voice i = s.voice i := rfl

/-! ### bumpFree -/
@[simp] theorem State.bumpFree_now (s : State) : (s.bumpFree).now = s.now := rfl
@[simp] theorem State.bumpFree_ports (s : State) : (s.bumpFree).ports = s.ports := rfl
@[simp] theorem State.bumpFree_claims (s : State) : (s.bumpFree).claims = s.claims := rfl
@[simp] theorem State.bumpFree_motion (s : State) : (s.bumpFree).motion = s.motion := rfl
@[simp] theorem State.bumpFree_pairs (s : State) : (s.bumpFree).pairs = s.pairs := rfl
@[simp] theorem State.bumpFree_supply (s : State) : (s.bumpFree).supply = s.supply := rfl
@[simp] theorem State.bumpFree_streams (s : State) : (s.bumpFree).streams = s.streams := rfl
@[simp] theorem State.bumpFree_store (s : State) : (s.bumpFree).store = s.store := rfl
@[simp] theorem State.bumpFree_sound (s : State) : (s.bumpFree).sound = s.sound := rfl
@[simp] theorem State.bumpFree_links (s : State) : (s.bumpFree).links = s.links := rfl
@[simp] theorem State.bumpFree_stopLine (s : State) : (s.bumpFree).stopLine = s.stopLine := rfl
@[simp] theorem State.bumpFree_freeCount (s : State) : (s.bumpFree).freeCount = s.freeCount + 1 := rfl
@[simp] theorem State.bumpFree_pending (s : State) : (s.bumpFree).pending = s.pending := rfl
@[simp] theorem State.bumpFree_port (s : State) (i : Port) : (s.bumpFree).port i = s.port i := rfl
@[simp] theorem State.bumpFree_claim (s : State) (i : Port) : (s.bumpFree).claim i = s.claim i := rfl
@[simp] theorem State.bumpFree_unit (s : State) (i : Port) : (s.bumpFree).unit i = s.unit i := rfl
@[simp] theorem State.bumpFree_pairAt (s : State) (i : PairId) : (s.bumpFree).pairAt i = s.pairAt i := rfl
@[simp] theorem State.bumpFree_link (s : State) (i : LinkId) : (s.bumpFree).link i = s.link i := rfl
@[simp] theorem State.bumpFree_voice (s : State) (i : VoiceId) : (s.bumpFree).voice i = s.voice i := rfl

/-! ### The record an update writes -/

@[simp] theorem State.setPort_port_same (s : State) (p : Port) (u : PortUnit) : (s.setPort p u).port p = u := Six.get_set_same _ _ _

theorem State.setPort_port_ne (s : State) (p : Port) (u : PortUnit) {j : Port} (h : j ≠ p) : (s.setPort p u).port j = s.port j :=
  Six.get_set_ne _ _ h

theorem State.setPort_port (s : State) (p : Port) (u : PortUnit) (j : Port) : (s.setPort p u).port j = if j = p then u else s.port j :=
  Six.get_set _ _ _ _

@[simp] theorem State.setClaim_claim_same (s : State) (p : Port) (c : Claim) : (s.setClaim p c).claim p = c := Six.get_set_same _ _ _

theorem State.setClaim_claim_ne (s : State) (p : Port) (c : Claim) {j : Port} (h : j ≠ p) : (s.setClaim p c).claim j = s.claim j :=
  Six.get_set_ne _ _ h

theorem State.setClaim_claim (s : State) (p : Port) (c : Claim) (j : Port) : (s.setClaim p c).claim j = if j = p then c else s.claim j :=
  Six.get_set _ _ _ _

@[simp] theorem State.setUnit_unit_same (s : State) (p : Port) (m : MotionUnit) : (s.setUnit p m).unit p = m := Six.get_set_same _ _ _

theorem State.setUnit_unit_ne (s : State) (p : Port) (m : MotionUnit) {j : Port} (h : j ≠ p) : (s.setUnit p m).unit j = s.unit j :=
  Six.get_set_ne _ _ h

theorem State.setUnit_unit (s : State) (p : Port) (m : MotionUnit) (j : Port) : (s.setUnit p m).unit j = if j = p then m else s.unit j :=
  Six.get_set _ _ _ _

@[simp] theorem State.setPair_pairAt_same (s : State) (q : PairId) (r : Option PairRec) : (s.setPair q r).pairAt q = r := Three.get_set_same _ _ _

theorem State.setPair_pairAt_ne (s : State) (q : PairId) (r : Option PairRec) {j : PairId} (h : j ≠ q) : (s.setPair q r).pairAt j = s.pairAt j :=
  Three.get_set_ne _ _ h

theorem State.setPair_pairAt (s : State) (q : PairId) (r : Option PairRec) (j : PairId) : (s.setPair q r).pairAt j = if j = q then r else s.pairAt j :=
  Three.get_set _ _ _ _

@[simp] theorem State.setLink_link_same (s : State) (l : LinkId) (k : Link) : (s.setLink l k).link l = k := Two.get_set_same _ _ _

theorem State.setLink_link_ne (s : State) (l : LinkId) (k : Link) {j : LinkId} (h : j ≠ l) : (s.setLink l k).link j = s.link j :=
  Two.get_set_ne _ _ h

theorem State.setLink_link (s : State) (l : LinkId) (k : Link) (j : LinkId) : (s.setLink l k).link j = if j = l then k else s.link j :=
  Two.get_set _ _ _ _

@[simp] theorem State.setVoice_voice_same (s : State) (v : VoiceId) (x : Voice) : (s.setVoice v x).voice v = x := Four.get_set_same _ _ _

theorem State.setVoice_voice_ne (s : State) (v : VoiceId) (x : Voice) {j : VoiceId} (h : j ≠ v) : (s.setVoice v x).voice j = s.voice j :=
  Four.get_set_ne _ _ h

theorem State.setVoice_voice (s : State) (v : VoiceId) (x : Voice) (j : VoiceId) : (s.setVoice v x).voice j = if j = v then x else s.voice j :=
  Four.get_set _ _ _ _

@[simp] theorem State.modPort_port_same (s : State) (p : Port) (f : PortUnit → PortUnit) : (s.modPort p f).port p = f (s.port p) := Six.get_set_same _ _ _

theorem State.modPort_port_ne (s : State) (p : Port) (f : PortUnit → PortUnit) {j : Port} (h : j ≠ p) : (s.modPort p f).port j = s.port j :=
  Six.get_set_ne _ _ h

theorem State.modPort_port (s : State) (p : Port) (f : PortUnit → PortUnit) (j : Port) : (s.modPort p f).port j = if j = p then f (s.port p) else s.port j :=
  Six.get_set _ _ _ _

@[simp] theorem State.modUnit_unit_same (s : State) (p : Port) (f : MotionUnit → MotionUnit) : (s.modUnit p f).unit p = f (s.unit p) := Six.get_set_same _ _ _

theorem State.modUnit_unit_ne (s : State) (p : Port) (f : MotionUnit → MotionUnit) {j : Port} (h : j ≠ p) : (s.modUnit p f).unit j = s.unit j :=
  Six.get_set_ne _ _ h

theorem State.modUnit_unit (s : State) (p : Port) (f : MotionUnit → MotionUnit) (j : Port) : (s.modUnit p f).unit j = if j = p then f (s.unit p) else s.unit j :=
  Six.get_set _ _ _ _

@[simp] theorem State.modLink_link_same (s : State) (l : LinkId) (f : Link → Link) : (s.modLink l f).link l = f (s.link l) := Two.get_set_same _ _ _

theorem State.modLink_link_ne (s : State) (l : LinkId) (f : Link → Link) {j : LinkId} (h : j ≠ l) : (s.modLink l f).link j = s.link j :=
  Two.get_set_ne _ _ h

theorem State.modLink_link (s : State) (l : LinkId) (f : Link → Link) (j : LinkId) : (s.modLink l f).link j = if j = l then f (s.link l) else s.link j :=
  Two.get_set _ _ _ _

@[simp] theorem State.modLink_modLink (s : State) (l : LinkId) (f g : Link → Link) :
    (s.modLink l f).modLink l g = s.modLink l (g ∘ f) := by
  simp [State.modLink, State.setLink, State.link]

end Sys2Proof.Machine
end

