-- ==== Sys2Proof/Laws/Ops.lean ====
section
/-! SUPPORT. What the shared operations over requests, replies and notices can do, said once each. -/

namespace Sys2Proof.Machine

theorem eraseNewest_append {α : Type} [DecidableEq α] (xs : List α) (x : α) : eraseNewest (xs ++ [x]) x = xs := by
  simp [eraseNewest]

theorem List.cons_of_head? {α : Type} {xs : List α} {x : α} (h : xs.head? = some x) : xs = x :: xs.drop 1 := by
  cases xs with
  | nil => simp at h
  | cons y ys => simpa using h

/-! ## Taking a request -/

/-- The handler takes the request at the head: it is then taken and unanswered. -/
theorem State.take_asked {s : State} {l : LinkId} {tag : Byte} {code : Nat} {ps : List Byte} (h : s.asked l tag code ps) :
    s.take l ⟨tag, some (BitVec.ofNat 8 code), ps⟩ = some (s.accepted l tag code) := by
  have e := List.cons_of_head? h
  unfold State.take
  rw [e]
  simp [State.accepted, Link.accepted, State.modLink, State.replyTo]

/-- A request command that the head of the queue does not ask for takes nothing. -/
theorem State.take_other {s : State} {l : LinkId} {req : Request} (h : (s.link l).inbound.head? ≠ some req) :
    s.take l req = none := by
  unfold State.take
  split
  · rfl
  · rename_i r rest e
    simp only [e, List.head?_cons, ne_eq, Option.some.injEq] at h
    simp [h]

/-- A request of an allowed length reaches its block. -/
theorem State.serve_asked {s : State} {l : LinkId} {tag : Byte} {code : Nat} {ps : List Byte} (h : s.asked l tag code ps)
    (n : lengthAllowed code ps = some true) (body : ReplyTo → State → State) :
    s.serve l tag code ps body = body ⟨l, (s.link l).activation, tag, BitVec.ofNat 8 code⟩ (s.accepted l tag code) := by
  unfold State.serve
  rw [State.take_asked h]
  simp [n, State.replyTo]

/-- A request command that the head of the queue does not ask for changes nothing. -/
theorem State.serve_other {s : State} {l : LinkId} {tag : Byte} {code : Nat} {ps : List Byte}
    (h : ¬ s.asked l tag code ps) (body : ReplyTo → State → State) : s.serve l tag code ps body = s := by
  unfold State.serve
  rw [State.take_other h]

/-! ## Answering -/

/-- An answer to the request a link took last, after any change of the other blocks and of the link's other fields. -/
theorem State.answer_last {u : State} {r : ReplyTo} {taken : List ReplyTo} (a : (u.link r.link).activation = r.activation)
    (t : (u.link r.link).taken = taken ++ [r]) (st : Status) (payload : List Byte) :
    u.answer r st payload = u.setLink r.link
      { u.link r.link with taken := taken, replies := (u.link r.link).replies ++ [⟨r.tag, r.code, st, payload⟩] } := by
  simp [State.answer, a, State.modLink, t, eraseNewest_append]

/-- The reply of a request taken from a link that lapsed or left since is discarded. -/
theorem State.answer_stale {u : State} {r : ReplyTo} (a : (u.link r.link).activation ≠ r.activation) (st : Status)
    (payload : List Byte) : u.answer r st payload = u := by
  simp [State.answer, a]

/-- A request answered at once. -/
theorem State.accepted_answer (s : State) (l : LinkId) (tag : Byte) (code : Nat) (st : Status) (payload : List Byte) :
    (s.accepted l tag code).answer ⟨l, (s.link l).activation, tag, BitVec.ofNat 8 code⟩ st payload
      = s.replied l tag code st payload := by
  rw [State.answer_last (taken := (s.link l).taken)] <;>
    simp [State.accepted, Link.accepted, State.replied, Link.replied, State.setLink, State.link]

/-- A request of a length that is not allowed for its code is answered MALFORMED and changes nothing else (R175). -/
theorem State.serve_malformed {s : State} {l : LinkId} {tag : Byte} {code : Nat} {ps : List Byte}
    (h : s.asked l tag code ps) (n : lengthAllowed code ps ≠ some true) (body : ReplyTo → State → State) :
    s.serve l tag code ps body = s.replied l tag code .malformed [] := by
  unfold State.serve
  rw [State.take_asked h]
  simp [n, State.replyTo, State.accepted_answer]

/-! ## Answers and notices change links only -/

theorem State.answer_eq_setLink (s : State) (r : ReplyTo) (st : Status) (payload : List Byte) :
    ∃ k, s.answer r st payload = s.setLink r.link k := by
  unfold State.answer
  split
  · exact ⟨_, rfl⟩
  · exact ⟨s.link r.link, by simp [State.setLink, State.link]⟩

theorem State.notify_eq_setLink (s : State) (l : LinkId) (n : Notice) :
    s.notify l n = s.setLink l ((s.link l).pushEvent n) := rfl

@[simp] theorem State.answer_now (s : State) (r : ReplyTo) (st : Status) (payload : List Byte) :
    (s.answer r st payload).now = s.now := by
  unfold State.answer; split <;> rfl

@[simp] theorem State.notify_now (s : State) (l : LinkId) (n : Notice) : (s.notify l n).now = s.now := rfl

@[simp] theorem State.notifyAll_now (s : State) (n : Notice) : (s.notifyAll n).now = s.now := rfl

@[simp] theorem State.answer_ports (s : State) (r : ReplyTo) (st : Status) (payload : List Byte) :
    (s.answer r st payload).ports = s.ports := by
  unfold State.answer; split <;> rfl

@[simp] theorem State.notify_ports (s : State) (l : LinkId) (n : Notice) : (s.notify l n).ports = s.ports := rfl

@[simp] theorem State.notifyAll_ports (s : State) (n : Notice) : (s.notifyAll n).ports = s.ports := rfl

@[simp] theorem State.answer_claims (s : State) (r : ReplyTo) (st : Status) (payload : List Byte) :
    (s.answer r st payload).claims = s.claims := by
  unfold State.answer; split <;> rfl

@[simp] theorem State.notify_claims (s : State) (l : LinkId) (n : Notice) : (s.notify l n).claims = s.claims := rfl

@[simp] theorem State.notifyAll_claims (s : State) (n : Notice) : (s.notifyAll n).claims = s.claims := rfl

@[simp] theorem State.answer_motion (s : State) (r : ReplyTo) (st : Status) (payload : List Byte) :
    (s.answer r st payload).motion = s.motion := by
  unfold State.answer; split <;> rfl

@[simp] theorem State.notify_motion (s : State) (l : LinkId) (n : Notice) : (s.notify l n).motion = s.motion := rfl

@[simp] theorem State.notifyAll_motion (s : State) (n : Notice) : (s.notifyAll n).motion = s.motion := rfl

@[simp] theorem State.answer_pairs (s : State) (r : ReplyTo) (st : Status) (payload : List Byte) :
    (s.answer r st payload).pairs = s.pairs := by
  unfold State.answer; split <;> rfl

@[simp] theorem State.notify_pairs (s : State) (l : LinkId) (n : Notice) : (s.notify l n).pairs = s.pairs := rfl

@[simp] theorem State.notifyAll_pairs (s : State) (n : Notice) : (s.notifyAll n).pairs = s.pairs := rfl

@[simp] theorem State.answer_supply (s : State) (r : ReplyTo) (st : Status) (payload : List Byte) :
    (s.answer r st payload).supply = s.supply := by
  unfold State.answer; split <;> rfl

@[simp] theorem State.notify_supply (s : State) (l : LinkId) (n : Notice) : (s.notify l n).supply = s.supply := rfl

@[simp] theorem State.notifyAll_supply (s : State) (n : Notice) : (s.notifyAll n).supply = s.supply := rfl

@[simp] theorem State.answer_streams (s : State) (r : ReplyTo) (st : Status) (payload : List Byte) :
    (s.answer r st payload).streams = s.streams := by
  unfold State.answer; split <;> rfl

@[simp] theorem State.notify_streams (s : State) (l : LinkId) (n : Notice) : (s.notify l n).streams = s.streams := rfl

@[simp] theorem State.notifyAll_streams (s : State) (n : Notice) : (s.notifyAll n).streams = s.streams := rfl

@[simp] theorem State.answer_store (s : State) (r : ReplyTo) (st : Status) (payload : List Byte) :
    (s.answer r st payload).store = s.store := by
  unfold State.answer; split <;> rfl

@[simp] theorem State.notify_store (s : State) (l : LinkId) (n : Notice) : (s.notify l n).store = s.store := rfl

@[simp] theorem State.notifyAll_store (s : State) (n : Notice) : (s.notifyAll n).store = s.store := rfl

@[simp] theorem State.answer_sound (s : State) (r : ReplyTo) (st : Status) (payload : List Byte) :
    (s.answer r st payload).sound = s.sound := by
  unfold State.answer; split <;> rfl

@[simp] theorem State.notify_sound (s : State) (l : LinkId) (n : Notice) : (s.notify l n).sound = s.sound := rfl

@[simp] theorem State.notifyAll_sound (s : State) (n : Notice) : (s.notifyAll n).sound = s.sound := rfl

@[simp] theorem State.answer_stopLine (s : State) (r : ReplyTo) (st : Status) (payload : List Byte) :
    (s.answer r st payload).stopLine = s.stopLine := by
  unfold State.answer; split <;> rfl

@[simp] theorem State.notify_stopLine (s : State) (l : LinkId) (n : Notice) : (s.notify l n).stopLine = s.stopLine := rfl

@[simp] theorem State.notifyAll_stopLine (s : State) (n : Notice) : (s.notifyAll n).stopLine = s.stopLine := rfl

@[simp] theorem State.answer_freeCount (s : State) (r : ReplyTo) (st : Status) (payload : List Byte) :
    (s.answer r st payload).freeCount = s.freeCount := by
  unfold State.answer; split <;> rfl

@[simp] theorem State.notify_freeCount (s : State) (l : LinkId) (n : Notice) : (s.notify l n).freeCount = s.freeCount := rfl

@[simp] theorem State.notifyAll_freeCount (s : State) (n : Notice) : (s.notifyAll n).freeCount = s.freeCount := rfl

@[simp] theorem State.answer_pending (s : State) (r : ReplyTo) (st : Status) (payload : List Byte) :
    (s.answer r st payload).pending = s.pending := by
  unfold State.answer; split <;> rfl

@[simp] theorem State.notify_pending (s : State) (l : LinkId) (n : Notice) : (s.notify l n).pending = s.pending := rfl

@[simp] theorem State.notifyAll_pending (s : State) (n : Notice) : (s.notifyAll n).pending = s.pending := rfl

/-! ## Notices (R133) -/

/-- An event notice changes a link's notices by at most one entry, and NOTICE_LOST. -/
theorem Link.pushEvent_cases (n : Notice) (k : Link) :
    k.pushEvent n = k ∧ k.state ≠ .active
      ∨ k.pushEvent n = { k with notices := k.notices ++ [n] } ∧ k.state = .active ∧ k.notices.length < 32
      ∨ k.pushEvent n = { k with sticky := { k.sticky with noticeLost := true } } ∧ k.state = .active
        ∧ 32 ≤ k.notices.length := by
  unfold Link.pushEvent
  split
  · rename_i h
    split
    · rename_i g; exact .inr (.inl ⟨rfl, h, g⟩)
    · rename_i g; exact .inr (.inr ⟨rfl, h, by omega⟩)
  · rename_i h; exact .inl ⟨rfl, h⟩

@[simp] theorem Link.pushEvent_taken (n : Notice) (k : Link) : (k.pushEvent n).taken = k.taken := by
  unfold Link.pushEvent; split <;> [split; skip] <;> rfl

@[simp] theorem Link.pushEvent_activation (n : Notice) (k : Link) : (k.pushEvent n).activation = k.activation := by
  unfold Link.pushEvent; split <;> [split; skip] <;> rfl

@[simp] theorem Link.pushEvent_replies (n : Notice) (k : Link) : (k.pushEvent n).replies = k.replies := by
  unfold Link.pushEvent; split <;> [split; skip] <;> rfl

@[simp] theorem Link.pushEvent_inbound (n : Notice) (k : Link) : (k.pushEvent n).inbound = k.inbound := by
  unfold Link.pushEvent; split <;> [split; skip] <;> rfl

@[simp] theorem Link.pushEvent_state (n : Notice) (k : Link) : (k.pushEvent n).state = k.state := by
  unfold Link.pushEvent; split <;> [split; skip] <;> rfl

/-! ## Granting the array and going on (R157) -/

/-- All that a grant can do: it takes one pending fetch or the first CLIP_READ and leaves the rest of the machine. -/
theorem State.grantRead_cases {s t : State} (h : s.grantRead = some t) :
    (∃ v f, s.nextFetch = some v ∧ s.store.fetches.get v = some f
      ∧ t = s.setStore { s.store with
          activity := .reading, reading := some (.fetch v f), fetches := s.store.fetches.set v none })
    ∨ ∃ r rest, s.nextFetch = none ∧ s.store.reads = r :: rest
      ∧ t = s.setStore { s.store with activity := .reading, reading := some (.clipRead r), reads := rest } := by
  unfold State.grantRead at h
  split at h
  · rename_i v e
    obtain ⟨f, g, rfl⟩ := Option.map_eq_some_iff.mp h
    exact .inl ⟨v, f, e, g, rfl⟩
  · rename_i e
    split at h
    · rename_i r rest g
      cases h
      exact .inr ⟨r, rest, e, g, rfl⟩
    · cases h

/-- All that the array does when it goes on: it serves a read, resumes the erase in hand, begins the next operation, or, with
none left, ends the job that ran and is IDLE. -/
theorem State.goOn_cases (s : State) :
    (∃ t, s.grantRead = some t ∧ s.goOn = t)
    ∨ s.grantRead = none ∧
      (s.store.opInHand.isSome = true
          ∧ s.goOn = s.setStore { s.store with activity := .erasing, suspending := false, eraseRun := 0 }
        ∨ s.store.opInHand = none ∧ (∃ op rest, s.store.work = op :: rest
          ∧ s.goOn = (s.setStore { s.store with work := rest }).beginOp op)
        ∨ s.store.opInHand = none ∧ s.store.work = []
          ∧ s.goOn = (if s.store.jobRunning then s.completeJob else s).modStore fun t => { t with activity := .idle }) := by
  unfold State.goOn
  cases g : s.grantRead with
  | some t => exact .inl ⟨t, rfl, rfl⟩
  | none =>
    refine .inr ⟨rfl, ?_⟩
    cases o : s.store.opInHand with
    | some op => exact .inl ⟨rfl, rfl⟩
    | none =>
      cases w : s.store.work with
      | cons op rest => exact .inr (.inl ⟨rfl, op, rest, rfl, rfl⟩)
      | nil => exact .inr (.inr ⟨rfl, rfl, rfl⟩)

/-! ## What the pins carry (R4, R58, R92, R176, R182) -/

theorem Transfer.sdoByte_of_lt {t : Transfer} {i : Nat} (h : i < t.bytes.length) : t.sdoByte i = t.bytes[i] := by
  simp [Transfer.sdoByte, h]

theorem Transfer.sdoByte_of_le {t : Transfer} {i : Nat} (h : t.bytes.length ≤ i) : t.sdoByte i = 0 := by
  simp [Transfer.sdoByte, List.getElem?_eq_none h]

/-- A transfer that a reset strikes sends zeros from there on. -/
theorem Link.restart_sdoByte {k : Link} {t : Transfer} (h : k.restart.transfer = some t) (i : Nat) : t.sdoByte i = 0 := by
  obtain ⟨x, -, rfl⟩ := Option.map_eq_some_iff.mp h
  rfl

theorem State.bridgeOut_off {s : State} {p : Port} (k : (s.port p).kind ≠ .plainMotor)
    (m : (s.port p).encoderMotor = false) : s.bridgeOut p = (.off, .off) := by
  simp [State.bridgeOut, k, m]

theorem State.txOut_protocol {s : State} {p : Port} (k : (s.port p).kind ≠ .light) : s.txOut p = .protocol := by
  simp [State.txOut, k]

/-! ## The end of a link's work (R54, R155) -/

/-- A motor that settles keeps all but its state, its hold and its duty. -/
theorem MotionUnit.settle_eq_settledBy (m : MotionUnit) (state : MotorState) : m.settle state = m.settledBy state := rfl

/-- The motor state of a lapse action, in the words of the statements (R54). -/
theorem State.lapseMotor_eq (s : State) (l : LinkId) :
    s.lapseMotor l = LapseAction.motor (s.link l).settings.lapseAction := by
  unfold State.lapseMotor
  cases (s.link l).settings.lapseAction <;> rfl

/-- What an abandonment keeps of the job queue (R155). -/
theorem keepJobs_cons (id : Nat) (running : Bool) (j : Job) (rest : List Job) :
    keepJobs id running (j :: rest)
      = (if j.clip ≠ some id then [j] else if running then [{ j with abandoned := true }] else [])
          ++ rest.filter fun i => i.clip != some id := by
  unfold keepJobs
  by_cases h : j.clip = some id <;> cases running <;> simp [h]

/-- The answers to removed jobs change no store. -/
theorem State.answerAll_store (jobs : List Job) (st : Status) (s : State) :
    (jobs.foldl (fun t j => t.answer j.dest st []) s).store = s.store := by
  induction jobs generalizing s with
  | nil => rfl
  | cons j rest ih => simp [ih]

/-- All that an abandonment does to the clip store (R155). -/
theorem State.abandonClip_store (s : State) (id : Nat) :
    (s.abandonClip id).store = { s.store with
      jobs := keepJobs id s.store.jobRunning s.store.jobs, ctx := none
      directory := s.store.directory.map fun e => if e.id = id then { e with state := .abandoned } else e } := by
  simp [State.abandonClip, State.modStore, State.setStore, Store.mapEntry, State.answerAll_store]

/-- All that a link's lapse or LEAVE does to the clip store before its voices go on (R155). -/
theorem State.dropStoreWork_abandonsClip (s : State) (l : LinkId) : s.abandonsClip (s.dropStoreWork l) l := by
  unfold State.dropStoreWork
  split
  · rename_i c h
    by_cases o : c.owner = l
    · refine ⟨fun d e _ => ?_, fun n => absurd o (n c (by simp [h])), ?_⟩
      · obtain rfl : c = d := by simpa [h] using e
        simp only [o, if_true, State.modStore, State.setStore, State.abandonClip_store]
        exact ⟨trivial, trivial, fun j => by simp [j, keepJobs], fun j rest k => by rw [k, keepJobs_cons]⟩
      · simp [o, State.modStore, State.setStore, State.abandonClip_store]
    · refine ⟨fun d e n => absurd n (by have : c = d := by simpa [h] using e
                                        exact this ▸ o), fun _ => ?_, ?_⟩ <;>
        simp [o, State.modStore, State.setStore]
  · rename_i h
    exact ⟨fun c e => by simp [h] at e, fun _ => ⟨rfl, rfl, rfl⟩, rfl, rfl, rfl⟩

end Sys2Proof.Machine
end

