-- ==== Sys2Proof/Tests/Slice0.lean ====
section
/-! SUPPORT. Tests of the model on small states, with expected values from the manual's rules and worked examples; the
well-formedness smoke; and, for every statement with hypotheses, states and operands that meet them, clause by clause. -/

namespace Sys2Proof.Tests

open Sys2Proof Sys2Proof.Machine

/-! ## States to test on -/

/-- The state a step answers; the given one where it answers none. -/
def after (o : Host.Outcome State Fault Refusal) (s : State) : State :=
  match o with
  | .next t => t
  | .fault _ => s
  | .refused _ => s

/-- The state after one command. -/
def ran (i : Instr) (s : State) : State := after (exec i s) s

/-- A link in ACTIVE. -/
def activeLink : Link := { Link.afterReset with state := .active, ageTimer := some 500, activation := 1 }

/-- A port with an encoder motor of a given max speed, and one sensor mode. -/
def encoderPort (maxSpeed : Nat) : PortUnit :=
  { PortUnit.afterReset with
    state := .active, power := true, powerTimer := none, level := some 1, lastReading := some 1, run := 3, kind := .serial
    typeId := some 5, desc := some ⟨some ⟨2, 3, true, some 360, some maxSpeed⟩,
      [⟨1, 1, -100, 100, -1000, 1000, 10, 0⟩, ⟨2, 2, 0, 100, 0, 100, 5, 0⟩]⟩
    mode := some 0, sample := some ⟨0, [1], [10], some 0, 0, false⟩, agreed := some 3, rate := 3
    silence := some 250, keepAlive := some 100 }

/-- A port with a plain motor. -/
def plainPort : PortUnit :=
  { PortUnit.afterReset with
    state := .passive, power := true, powerTimer := none, level := some 2, lastReading := some 2, run := 3, kind := .plainMotor }

/-- Both links ACTIVE, encoder motors on P1 and P2 and a plain motor on P3, all held by CL0, the scan over. -/
def bench : State :=
  { State.reset with
    ports := ⟨encoderPort 1000, encoderPort 800, plainPort, .afterReset, .afterReset, .afterReset⟩
    claims := ⟨⟨some .cl0, false⟩, ⟨some .cl0, false⟩, ⟨some .cl0, false⟩, ⟨none, false⟩, ⟨none, false⟩, ⟨none, false⟩⟩
    links := .both activeLink, store := { State.reset.store with scanning := false } }

/-- A request put at the head of a link's inbound queue. -/
def asking (s : State) (l : LinkId) (tag : Byte) (code : Nat) (ps : List Byte) : State :=
  s.modLink l fun k => { k with inbound := ⟨tag, some (BitVec.ofNat 8 code), ps⟩ :: k.inbound }

/-- The last reply of CL0. -/
def said (s : State) : Option (Status × List Byte) :=
  (s.link .cl0).replies.getLast?.map fun r => (r.status, r.payload)

/-- The last notice of CL0. -/
def told (s : State) : Option Notice := (s.link .cl0).notices.getLast?

/-- The segment of a MOVE of CL0 with tag 9. -/
def segment (w : SegWork) (speed : Int) : Segment := ⟨.cl0, 9, w, speed, .coast, .keepOn, none, none, none, true⟩

/-- P1 RUNNING a segment. -/
def running (s : State) (w : SegWork) (speed : Int) : State :=
  s.modUnit .p1 fun m => { m with
    motor := .running, queue := [segment w speed]
    act := some ⟨s.now, none, (match w with
      | .runBy d => some (m.position + d)
      | .runTo x => some x
      | _ => none), 0, .cruise, 0, 0⟩ }

/-- P1 and P2 in pair 0. -/
def paired (s : State) : State := s.setPair .q0 (some ⟨.p1, .p2, 32, [], none, 0, 0⟩)

/-- A READY clip of 600 samples PCM8 at 8000 per second in sector 8. -/
def clip : DirEntry := ⟨5, .ready, 8, 1, ⟨.pcm8, 8000, 600, allOnes, allOnes, 200⟩, false⟩

/-- Pair 0 with a segment and others behind, its activation, and its lead P1 at a position and a ramp. -/
def pairRunning (g : PairSegment) (rest : List PairSegment) (a : PairActivation) (x : BitVec 32) (acc : Int) : State :=
  (bench.setPair .q0 (some ⟨.p1, .p2, 32, g :: rest, some a, 0, 0⟩)).modUnit .p1 (fun m => { m with
    motor := .running, position := x, reg := { m.reg with acc := acc, refill := 0, history := ⟨x, x, x, x⟩ } })
    |>.modUnit .p2 (fun m => { m with motor := .running, reg := { m.reg with refill := 0 } })

def stocked (s : State) : State := s.modStore fun t => { t with directory := [clip] }

/-- The bench with only the clip of the examples in WRITING, 600 bytes, its pointer at `pointer`. -/
def writing (pointer : Nat) : State :=
  bench.modStore fun t => { t with
    directory := [⟨17, .writing, 8, 1, ⟨.pcm8, 8000, 600, allOnes, allOnes, 200⟩, false⟩]
    ctx := some ⟨.cl0, 17, pointer, List.replicate 256 0xFF, false⟩, pointer := pointer }

/-- The entry of that clip. -/
def writingEntry : DirEntry := ⟨17, .writing, 8, 1, ⟨.pcm8, 8000, 600, allOnes, allOnes, 200⟩, false⟩

/-- A job of CL0. -/
def job (k : JobKind) (clip : Option Nat) : Job := ⟨k, clip, false, ⟨.cl0, 1, 3, 0x60⟩⟩

/-- CL0 ACTIVE with work to lose: P1 RUNNING with a segment behind, the clip of the examples in WRITING with two jobs of it
and one of another clip queued, the first in progress or not, and a CLIP_READ waiting. -/
def holding (pointer : Nat) (inProgress : Bool) : State :=
  (((writing pointer).modStore fun t => { t with
      activity := .programming, jobRunning := inProgress, reads := [⟨⟨.cl0, 1, 7, 0x66⟩, 32, 8⟩]
      jobs := [job (.page 0 [1] 1) (some 17), job (.page 1 [2] 2) (some 17), job (.remove 3) (some 2)] }).modUnit .p1
    fun m => { m with
      motor := .running, queue := [segment .run 500, segment .run 300], act := some ⟨0, none, none, 0, .cruise, 0, 0⟩ }).modLink .cl0
    fun k => { k with taken := ⟨.cl0, 1, 7, 0x66⟩ :: List.replicate 3 ⟨.cl0, 1, 3, 0x60⟩ }

/-- A voice of CL0 playing a tone. -/
def toneVoice (freq left : Nat) : Voice :=
  { Voice.unused with
    state := .playing, owner := some (.link .cl0), tag := some 9, report := true, priority := 4, gain := 255
    source := some (.tone freq), notify := true, left := left }

def sounding (s : State) (v : VoiceId) (x : Voice) : State := s.setVoice v x

/-! ## Well-formedness: an ill-formed command for each check -/

theorem test_wf_refuses_a_frame_too_long : (Instr.identify .cl0 1 (List.replicate 62 0)).wf = false := by decide

theorem test_wf_accepts_the_longest_frame : (Instr.identify .cl0 1 (List.replicate 61 0)).wf = true := by decide

theorem test_wf_refuses_a_defined_code_as_unknown : (Instr.unknownRequest .cl0 1 0x70 []).wf = false := by decide

theorem test_wf_refuses_a_long_unknown_request : (Instr.unknownRequest .cl0 1 0x74 (List.replicate 62 0)).wf = false := by
  decide

theorem test_wf_refuses_an_incomplete_message : (Instr.messageOutcome .p1 [0x21, 5] false).wf = false := by decide

theorem test_wf_refuses_a_framing_error_past_the_message : (Instr.messageOutcome .p1 [0x80, 0x7F] true).wf = false := by decide

theorem test_wf_refuses_a_gap_without_a_byte : (Instr.gapTimeout .p1 []).wf = false := by decide

theorem test_wf_refuses_a_gap_after_a_whole_message : (Instr.gapTimeout .p1 [0x80, 0x7F]).wf = false := by decide

/-! ## Resets and start-up -/

/-- R113, R118: the first sample sets Vf, and a first Vf below V_soft starts the part in LOW. -/
theorem test_power_on_reset_low : (ran (.powerOnReset true 6399 5) bench).supply.state = .low := by decide

/-- R57: a reset that ends with STOP asserted leaves every unit HALTED. -/
theorem test_power_on_reset_halted : ((ran (.powerOnReset true 7200 0) bench).unit .p6).halted = true := by decide

theorem test_port_power_restore : ((ran (.portPowerRestore .p4) bench).port .p4).power = true := by decide

/-- R147, and the header of clip 17 of section 12.6, sealed, in sector 8. -/
theorem test_scan_complete : (ran .scanComplete (bench.modStore fun t => { t with
      scanning := true
      array := programCells 32768 [0xA5, 0x3C, 0x11, 0x00, 0x40, 0x1F, 0x58, 0x02, 0, 0, 0xFF, 0xFF, 0xFF, 0xFF, 0xFF,
        0xFF, 0xFF, 0xFF, 0xC8, 0x01, 0, 0, 0, 0, 0, 0, 0, 0, 0, 0, 0x93, 0x00] [] })).store.directory
    = [⟨17, .ready, 8, 1, ⟨.pcm8, 8000, 600, allOnes, allOnes, 200⟩, false⟩] := by decide +kernel

/-- R142: the first scan after reset enters the factory clips (log entry 7), clip 0 in the first sectors. -/
theorem test_scan_of_a_new_device : (ran .scanComplete State.reset).store.directory
    = [⟨0, .ready, 0, 4, ⟨.pcm8, 8000, 16352, allOnes, allOnes, 255⟩, false⟩,
      ⟨1, .ready, 4, 4, ⟨.pcm8, 8000, 16352, allOnes, allOnes, 255⟩, false⟩] := by decide +kernel

/-- R182: a transfer that a reset strikes sends zeros for its remaining clocks. -/
theorem test_reset_in_a_transfer :
    ((ran (.powerOnReset false 7200 0) (ran (.selFall .cl0) bench)).link .cl0).transfer.map (fun t => (t.sdoByte 0, t.sdoByte 5))
      = some (0, 0) := by decide

/-! ## Transfers and link time -/

/-- R176, section 12.1: an empty link shifts FILLER, here with RESTARTED alone shown. -/
theorem test_sel_fall_filler : ((ran (.selFall .cl0) bench).link .cl0).transfer
    = some ⟨.filler, [2, 0, 1], true, false, false⟩ := by decide

/-- R176: zero bytes after the last byte of the picked message. -/
theorem test_sdo_after_the_message :
    (⟨.filler, [2, 0, 1], true, false, false⟩ : Transfer).sdoByte 2 = 1
      ∧ (⟨.filler, [2, 0, 1], true, false, false⟩ : Transfer).sdoByte 3 = 0 := by decide

/-- R173: the first length bytes after L are the request, the rest is ignored. -/
theorem test_sel_rise_appends :
    ((ran (.selRise .cl0 [3, 7, 0x11, 2, 99] false) (ran (.selFall .cl0) bench)).link .cl0).inbound
      = [⟨7, some 0x11, [2]⟩] := by decide

/-- R174: the frame is counted before it is judged, and a ninth request is discarded with REQUEST_LOST. -/
theorem test_sel_rise_full :
    ((ran (.selRise .cl0 [2, 7, 1] false) (ran (.selFall .cl0)
      (bench.modLink .cl0 fun k => { k with taken := List.replicate 8 ⟨.cl0, 1, 3, 0x12⟩ }))).link .cl0).sticky.requestLost
      = true := by decide

/-- R179, R180: the fourth quiet tick in a row lapses a link of robustness 4. -/
theorem test_age_tick_lapses :
    ((ran (.ageTick .cl0) (bench.modLink .cl0 fun k => { k with quiet := 3 })).link .cl0).state = .lapsed := by decide

theorem test_age_tick_counts :
    ((ran (.ageTick .cl0) (bench.modLink .cl0 fun k => { k with quiet := 2 })).link .cl0).quiet = 3 := by decide

/-! ## Requests of the links -/

theorem test_unknown_request : said (ran (.unknownRequest .cl0 7 0x74 [1]) (asking bench .cl0 7 0x74 [1]))
    = some (.unknown, []) := by decide

theorem test_request_without_code :
    said (ran (.requestWithoutCode .cl0 7) (bench.modLink .cl0 fun k => { k with inbound := [⟨7, none, []⟩] }))
      = some (.malformed, []) := by decide

/-- Section 12.4: family code 0x3620; R183's capacities. -/
theorem test_identify : said (ran (.identify .cl0 7 []) (asking bench .cl0 7 0x01 []))
    = some (.ok, [0x20, 0x36, 1, 0, 6, 4, 24, 128, 64, 3]) := by decide

/-- R183: a threshold of 40 is brought to 32. -/
theorem test_set_link : said (ran (.setLink .cl0 7 [1, 40, 0, 0, 0, 0]) (asking bench .cl0 7 0x02 [1, 40, 0, 0, 0, 0]))
    = some (.adjusted, [32, 0xF4, 0x01, 4, 1]) := by decide

theorem test_clear_flags : said (ran (.clearFlags .cl0 7 [15]) (asking bench .cl0 7 0x03 [15])) = some (.ok, [1]) := by
  decide

/-- R181: the LEAVE's own reply is all the link keeps. -/
theorem test_leave : ((ran (.leave .cl0 7 []) (asking bench .cl0 7 0x04 [])).link .cl0).replies = [⟨7, 0x04, .ok, []⟩] := by
  decide

/-- R54, R155: a LEAVE brakes the motors its link held and abandons the clip it was writing, the job in progress marked. -/
theorem test_leave_undoes_work :
    ∃ s, s = ran (.leave .cl0 7 []) (asking (holding 600 true) .cl0 7 0x04 [])
      ∧ (s.unit .p1).motor = .braking ∧ (s.unit .p1).queue = [] ∧ s.store.directory.map DirEntry.state = [.abandoned]
      ∧ s.store.jobs.map Job.abandoned = [true, false] := ⟨_, rfl, by decide⟩

theorem test_reset_arm : ((ran (.resetArm .cl0 7 []) (asking bench .cl0 7 0x05 [])).link .cl0).armed = true := by decide

theorem test_reset_unarmed : said (ran (.reset .cl0 7 [] false 7200 0) (asking bench .cl0 7 0x06 []))
    = some (.notArmed, []) := by decide

/-! ## Ports -/

/-- R16: a mode the descriptor does not have. -/
theorem test_port_info : said (ran (.portInfo .cl0 7 [1, 2]) (asking bench .cl0 7 0x10 [1, 2])) = some (.badParam, []) := by
  decide

/-- R34: a plain motor has no sample record. -/
theorem test_read_value_nothing : said (ran (.readValue .cl0 7 [3]) (asking bench .cl0 7 0x11 [3]))
    = some (.noDevice, []) := by decide

/-- R34, R186: the raw value 1, then its format 1, then the scaled value 10, in the order R34 lists them. -/
theorem test_read_value : said (ran (.readValue .cl0 7 [1]) (asking bench .cl0 7 0x11 [1]))
    = some (.ok, [1, 0, 1, 1, 0, 0, 0, 1, 10, 0, 0, 0, 1, 0, 0, 0, 0, 0, 0, 0]) := by decide

/-- R36: the mode in use is confirmed at once. -/
theorem test_set_mode : said (ran (.setMode .cl0 7 [1, 0]) (asking bench .cl0 7 0x12 [1, 0])) = some (.ok, []) := by decide

/-- R39: a write of no byte. -/
theorem test_port_write : said (ran (.portWrite .cl0 7 [1, 0]) (asking bench .cl0 7 0x13 [1, 0])) = some (.badParam, []) := by
  decide

theorem test_set_tap : ((ran (.setTap .cl0 7 [4, 2, 3]) (asking bench .cl0 7 0x14 [4, 2, 3])).port .p4).tapTarget
    = some .cl1 := by decide

theorem test_read_log : said (ran (.readLog .cl0 7 [1]) (asking bench .cl0 7 0x15 [1])) = some (.ok, [0]) := by decide

theorem test_port_reset :
    ((ran (.portReset .cl0 7 [1]) (asking (bench.modPort .p1 fun u => { u with state := .faultLatched, faults := [0, 5] }) .cl0
      7 0x16 [1])).port .p1).faults = [] := by decide

/-- R2, R3, R5: the third equal reading of level 2 attaches a plain motor. -/
theorem test_probe_attaches :
    told (ran (.probeEvent .p4 2 false) (bench.modPort .p4 fun u => { u with
      power := true, lastReading := some 2, run := 2 }))
      = some (.portEvent ⟨.attached, .p4, .plainMotor, none, none, .none, false, 0⟩) := by decide

/-- Repeated overcurrent, 12800 ms: 3000 is 9,800 ms old and stays, and the third trip latches the port. -/
theorem test_overcurrent_latches :
    told (ran (.overcurrentTrip .p4) { bench.modPort .p4 fun u => { u with power := true, faults := [3000, 11500] } with
      now := 12800 })
      = some (.portEvent ⟨.fault, .p4, .none, none, none, .overcurrent, true, 3⟩) := by decide

/-- Repeated overcurrent, 11500 ms: the entry of time 0 leaves. -/
theorem test_overcurrent_history :
    ((ran (.overcurrentTrip .p4) { bench.modPort .p4 fun u => { u with power := true, faults := [0, 3000] } with
      now := 11500 }).port .p4).faults = [3000, 11500] := by decide

theorem test_retry_timer : ((ran (.retryTimerExpiry .p4) (bench.modPort .p4 fun u => { u with
      state := .fault, power := false, retry := some 0 })).port .p4).state = .probing := by decide

/-! ## The device serial protocol -/

/-- Scaling, the table's second mode: raw 0 to 4 to 10 to 0, where 1 gives −2.5 and so 7. -/
theorem test_scale : scale ⟨1, 0, 0, 4, 10, 0, 10, 0⟩ 1 = 7 := by decide

/-- R32: a DATA of mode 0 with value 5 of raw range −100 to 100 scales to 50. -/
theorem test_data_message :
    ((ran (.messageOutcome .p1 [0x22, 0x00, 0x05, checkByte [0x22, 0x00, 0x05]] false) bench).port .p1).sample
      = some ⟨0, [5], [50], some 1, 0, false⟩ := by decide +kernel

/-- R19: a wrong check byte counts as a bad message. -/
theorem test_check_error :
    ((ran (.messageOutcome .p1 [0x22, 0x00, 0x05, 0x00] false) bench).port .p1).errorRun = 1 := by decide

/-- The error loss of section 2's example: cap max(1, min(5, 4) − 1) = 3. -/
theorem test_error_loss_cap :
    ((ran (.gapTimeout .p1 [0x22]) (bench.modPort .p1 fun u => { u with errorRun := 3, agreed := some 4 })).port .p1).rateCap
      = 3 := by decide

/-- R25: the sent ACK makes the port ACTIVE at the agreed rate. -/
theorem test_ack_sent :
    ((ran (.ackSent .p4) (bench.modPort .p4 fun u => { u with
      state := .describing, hs := some ⟨1, none, true, some (0x0412, ⟨1, 4, false, none, none⟩), [⟨1, 1, 0, 100, 0, 100, 10, 0⟩],
        some 4⟩ })).port .p4).agreed = some 4 := by decide

/-- R14: the third failed attempt is a HANDSHAKE fault. -/
theorem test_attempt_timer :
    told (ran (.attemptTimerExpiry .p4) (bench.modPort .p4 fun u => { u with
      state := .describing, kind := .serial, power := true, hs := some ⟨2, some 0, false, none, [], none⟩ }))
      = some (.portEvent ⟨.fault, .p4, .none, none, none, .handshake, false, 0⟩) := by decide

theorem test_keep_alive : ((ran (.keepAliveExpiry .p1) (bench.modPort .p1 fun u => { u with pendingMode := some 1 })).port
    .p1).sent = [.keep, .mode 1] := by decide

/-- R28: a silence loss leaves the rate cap. -/
theorem test_silence_loss : ((ran (.silenceLoss .p1) bench).port .p1).rateCap = 5 := by decide

theorem test_mode_timer :
    said (ran (.modeTimerExpiry .p1) (bench.modPort .p1 fun u => { u with
      pendingMode := some 1, modeTimer := some 0, waiting := [⟨⟨.cl0, 1, 7, 0x12⟩, 1⟩] })) = some (.modeFailed, []) := by decide

theorem test_write_timer :
    said (ran (.writeTimerExpiry .p1) (bench.modPort .p1 fun u => { u with
      writeTimer := some 0, writes := [⟨⟨.cl0, 1, 7, 0x13⟩, [1]⟩] })) = some (.noResponse, []) := by decide

/-- R22: the first byte of a DESC restarts the attempt timer. -/
theorem test_first_desc_lead :
    (((ran (.firstDescLeadByte .p4) (bench.modPort .p4 fun u => { u with
      state := .describing, hs := some ⟨0, some 8, false, none, [], none⟩ })).port .p4).hs.bind Handshake.timer)
      = some 1500 := by decide

theorem test_idle_gap :
    ((ran (.idleGapAfterFramingError .p1) (bench.modPort .p1 fun u => { u with discarding := true })).port .p1).discarding
      = false := by decide

/-! ## Claims and motion -/

theorem test_lock : ((ran (.lock .cl0 7 [0, 1]) (asking bench .cl0 7 0x20 [0, 1])).claim .p1) = ⟨some .cl0, true⟩ := by decide

/-- The program and the tablet, step 4 seen from the other side: one segment ends, and the motor takes its end action. -/
theorem test_lock_takes_over :
    ((ran (.lock .cl1 7 [0, 1]) (asking (running bench .run 500) .cl1 7 0x20 [0, 1])).link .cl0).notices.getLast?
      = some (.claimLost ⟨.p1, none, .cl1, 0x20, 1⟩) := by decide

theorem test_unlock :
    ((ran (.unlock .cl0 7 [0, 1]) (asking (bench.setClaim .p1 ⟨some .cl0, true⟩) .cl0 7 0x21 [0, 1])).claim .p1)
      = ⟨some .cl0, false⟩ := by decide

theorem test_release : ((ran (.release .cl0 7 [0, 1]) (asking bench .cl0 7 0x22 [0, 1])).claim .p1) = ⟨none, false⟩ := by
  decide

/-- A chain of segments, step 2: RUN_BY −360 at 1500 on a motor of max speed 1000 is applied at 1000. -/
theorem test_move_adjusted :
    (said (ran (.move .cl0 7 [1, 2, 0xDC, 0x05, 0x98, 0xFE, 0xFF, 0xFF, 2, 0, 8, 0, 0, 0, 0, 0, 0, 0, 0, 0, 0, 0, 0, 0, 0, 0, 0,
      0]) (asking bench .cl0 7 0x30 [1, 2, 0xDC, 0x05, 0x98, 0xFE, 0xFF, 0xFF, 2, 0, 8, 0, 0, 0, 0, 0, 0, 0, 0, 0, 0, 0, 0, 0, 0,
      0, 0, 0]))).map (fun r => (r.1, r.2.take 2)) = some (.adjusted, [0xE8, 0x03]) := by decide

/-- Its target is the position less 360. -/
theorem test_move_target :
    (((ran (.move .cl0 7 [1, 2, 0xDC, 0x05, 0x98, 0xFE, 0xFF, 0xFF, 2, 0, 8, 0, 0, 0, 0, 0, 0, 0, 0, 0, 0, 0, 0, 0, 0, 0, 0,
      0]) (asking (bench.modUnit .p1 fun m => { m with position := 7840 }) .cl0 7 0x30 [1, 2, 0xDC, 0x05, 0x98, 0xFE, 0xFF,
      0xFF, 2, 0, 8, 0, 0, 0, 0, 0, 0, 0, 0, 0, 0, 0, 0, 0, 0, 0, 0, 0])).unit .p1).act.bind Activation.target)
      = some 7480 := by decide

/-- R74: a STOP with HOLD holds the position of a RUN. -/
theorem test_stop_hold :
    ((ran (.stop .cl0 7 [1, 2]) (asking (running (bench.modUnit .p1 fun m => { m with position := 40 }) .run 500) .cl0 7 0x31
      [1, 2])).unit .p1).hold = some 40 := by decide

/-- R98: a Kp of 2000 is brought to 1023. -/
theorem test_set_regulator :
    ((ran (.setRegulator .cl0 7 ([1, 1, 0, 0xD0, 0x07] ++ List.replicate 15 0)) (asking bench .cl0 7 0x32
      ([1, 1, 0, 0xD0, 0x07] ++ List.replicate 15 0))).unit .p1).settings.kp = 1023 := by decide

theorem test_set_position :
    ((ran (.setPosition .cl0 7 [1, 0xFE, 0xFF, 0xFF, 0xFF]) (asking bench .cl0 7 0x33 [1, 0xFE, 0xFF, 0xFF, 0xFF])).unit
      .p1).position = BitVec.ofInt 32 (-2) := by decide

/-- A halt and its recovery, step 3: RESUME with the line asserted. -/
theorem test_resume_refused :
    said (ran (.resume .cl0 7 []) (asking (ran .stopLineAssert bench) .cl0 7 0x34 [])) = some (.halted, []) := by decide

/-- A halt and its recovery, step 1. -/
theorem test_stop_line_assert : told (ran .stopLineAssert (running bench .run 500)) = some (.haltState true true) := by decide

theorem test_stop_line_release : ((ran .stopLineRelease (ran .stopLineAssert bench)).unit .p1).halted = true := by decide

/-- R99: the position stands in the last bytes but the speed and duty of MOTION_STATUS. -/
theorem test_motion_status :
    (said (ran (.motionStatus .cl0 7 [1]) (asking bench .cl0 7 0x38 [1]))).map Prod.fst = some .ok := by decide

/-- R81: ENCA rising with ENCB low is one count forward. -/
theorem test_encoder : ((ran (.encoderTransition .p1 true false) bench).unit .p1).position = 1 := by decide

/-- One regulation period: speed 400, ramp 460,000, I 3060, duty 412, not clamped. -/
theorem test_regulation_period :
    ((ran (.regulationEvent .p1) ({ running bench .run 600 with supply := { bench.supply with vf := 6000, cv := 700, s := 700 }
      }.modUnit .p1 fun m => { m with
        position := 10234, settings := { m.settings with kf := 150 }
        reg := ⟨450000, 3000, 398, false, ⟨10226, 10228, 10230, 10232⟩, 0, 400, none⟩ })).unit .p1).reg
      = ⟨460000, 3060, 412, false, ⟨10228, 10230, 10232, 10234⟩, 0, 400, none⟩ := by decide

/-- A target across the wrap: +2,147,483,644 to −2,147,483,644 over four events is 400 counts/s. -/
theorem test_speed_across_the_wrap :
    ((ran (.regulationEvent .p1) (bench.modUnit .p1 fun m => { m with
      position := BitVec.ofInt 32 (-2147483644)
      reg := { m.reg with refill := 0, history := ⟨2147483644, 0, 0, 0⟩ } })).unit .p1).reg.speed = 400 := by decide

/-! ## Pairs -/

/-- R102: Ks absent is 32, and the lowest free slot is taken. -/
theorem test_pair : said (ran (.pair .cl0 7 [1, 2, 0, 0]) (asking bench .cl0 7 0x35 [1, 2, 0, 0])) = some (.ok, [0, 32]) := by
  decide

theorem test_unpair : (ran (.unpair .cl0 7 [0]) (asking (paired bench) .cl0 7 0x36 [0])).pairs = ⟨none, none, none⟩ := by decide

/-- One correction: MOVE_PAIR RUN 500 with steering 20, then a lead event with ΔA 1000 and ΔB 590 gives cA 12 and cB 20. -/
theorem test_pair_correction :
    ((ran (.regulationEvent .p1) ((paired bench).setPair .q0 (some ⟨.p1, .p2, 32, [⟨segment .run 500, 20⟩],
      some ⟨0, none, 3000, 8000, none, .cruise, 0, 0, 0⟩, 0, 0⟩) |>.modUnit .p1 (fun m => { m with
        motor := .running, position := 4000, reg := { m.reg with acc := 500000 } }) |>.modUnit .p2 (fun m => { m with
        motor := .running, position := 8590 }))).pairAt .q0).map (fun r => (r.corrA, r.corrB)) = some (12, 20) := by decide

theorem test_move_pair :
    ((ran (.movePair .cl0 7 ([0, 0, 0xF4, 0x01] ++ List.replicate 23 0 ++ [20, 0])) (asking (paired bench) .cl0 7 0x37
      ([0, 0, 0xF4, 0x01] ++ List.replicate 23 0 ++ [20, 0]))).pairAt .q0).map (fun r => r.queue.map PairSegment.steer)
      = some [20] := by decide

/-! ## Supply -/

/-- Current limiting, sample 7: If 4158, Ci 875, volume ceiling 224. -/
theorem test_supply_sample :
    (let m := (ran (.supplySample 7200 4800) { bench with supply := { bench.supply with iflt := 3945 } }).supply
     (m.iflt, m.ci, m.s, m.volCeil)) = (4158, 875, 875, 224) := by decide

/-- A sag into brownout, sample 4: Vf 6291, Cv 918, LOW from NORMAL. -/
theorem test_supply_low :
    told (ran (.supplySample 5000 0) { bench with supply := { bench.supply with vf := 6475 } })
      = some (.supplyState .low .normal 6291 918) := by decide

theorem test_supply_status : (said (ran (.supplyStatus .cl0 7 []) (asking bench .cl0 7 0x40 []))).map (fun r => r.2.take 4)
    = some [0x20, 0x1C, 0, 0] := by decide

/-- R123: a V_hard that is not below V_soft. -/
theorem test_set_supply :
    said (ran (.setSupply .cl0 7 [4, 0, 0, 0, 0, 0x00, 0x19, 0, 0, 0]) (asking bench .cl0 7 0x41 [4, 0, 0, 0, 0, 0x00, 0x19, 0,
      0, 0])) = some (.badParam, []) := by decide

theorem test_warning_timer :
    (ran .warningTimerExpiry { bench with supply := { bench.supply with warning := some 0 } }).supply.warning = some 60000 := by
  decide

/-! ## Streams -/

/-- One stream, two controllers: interval 15 below a floor of 20 is ADJUSTED to 20, entry 0. -/
theorem test_subscribe :
    said (ran (.subscribe .cl0 7 [0, 1, 0, 15, 0, 5, 0, 0, 0]) (asking (bench.modPort .p1 fun u => { u with
      desc := some ⟨none, [⟨1, 1, 0, 100, 0, 100, 20, 0⟩]⟩ }) .cl0 7 0x50 [0, 1, 0, 15, 0, 5, 0, 0, 0]))
      = some (.adjusted, [0, 20, 0]) := by decide

theorem test_unsubscribe_not_a_member :
    said (ran (.unsubscribe .cl0 7 [0]) (asking bench .cl0 7 0x51 [0])) = some (.badParam, []) := by decide

theorem test_list_streams : said (ran (.listStreams .cl0 7 [24]) (asking bench .cl0 7 0x52 [24])) = some (.badParam, []) := by
  decide

/-! ## Clip store -/

/-- Writing a short clip: CLIP_BEGIN of clip 17, 600 bytes PCM8 at 8000, takes sector 8. -/
theorem test_clip_begin :
    ((ran (.clipBegin .cl0 7 [17, 0x58, 2, 0, 0, 0x40, 0x1F, 0, 0xFF, 0xFF, 0xFF, 0xFF, 0xFF, 0xFF, 0xFF, 0xFF, 200]) (asking
      bench .cl0 7 0x60 [17, 0x58, 2, 0, 0, 0x40, 0x1F, 0, 0xFF, 0xFF, 0xFF, 0xFF, 0xFF, 0xFF, 0xFF, 0xFF, 200])).store.directory)
      = [⟨17, .writing, 8, 1, ⟨.pcm8, 8000, 600, allOnes, allOnes, 200⟩, false⟩] := by decide

/-- Its header: bytes 0 to 29 sum to 0x6C modulo 256, so the check is 0x93 (section 12.6). -/
theorem test_clip_header_check : headerCheck (headerBody 17 ⟨.pcm8, 8000, 600, allOnes, allOnes, 200⟩ 1) = 0x93 := by decide

/-- R152: bytes 0 to 55 stay in the first page. -/
theorem test_clip_data :
    said (ran (.clipData .cl0 7 ([0, 0, 0, 0, 56] ++ List.replicate 56 1)) (asking ((bench.modStore fun t => { t with
      directory := [⟨17, .writing, 8, 1, ⟨.pcm8, 8000, 600, allOnes, allOnes, 200⟩, false⟩]
      ctx := some ⟨.cl0, 17, 0, List.replicate 256 0xFF, false⟩ })) .cl0 7 0x61 ([0, 0, 0, 0, 56] ++ List.replicate 56 1)))
      = some (.ok, [56, 0, 0, 0]) := by decide

/-- R153: a CLIP_END before every byte is in. -/
theorem test_clip_end_early :
    said (ran (.clipEnd .cl0 7 [17]) (asking ((bench.modStore fun t => { t with
      directory := [⟨17, .writing, 8, 1, ⟨.pcm8, 8000, 600, allOnes, allOnes, 200⟩, false⟩]
      ctx := some ⟨.cl0, 17, 599, List.replicate 256 0xFF, false⟩ })) .cl0 7 0x62 [17]))
      = some (.badParam, [0x57, 2, 0, 0]) := by decide

theorem test_clip_delete :
    (ran (.clipDelete .cl0 7 [5]) (asking (stocked bench) .cl0 7 0x63 [5])).store.directory = [{ clip with marked := true }] := by
  decide

/-- R156: B 8, lock clear, GUARD high, 119 free sectors (8 to 127 but the clip's), no job. -/
theorem test_clip_info :
    (said (ran (.clipInfo .cl0 7 [0] true) (asking (stocked bench) .cl0 7 0x64 [0]))).map (fun r => r.2.take 5)
      = some [8, 0, 1, 119, 0] := by decide +kernel

theorem test_clip_read :
    (ran (.clipRead .cl0 7 [5, 16, 0, 0, 0, 8]) (asking (stocked bench) .cl0 7 0x66 [5, 16, 0, 0, 0, 8])).store.reading
      = some (.clipRead ⟨⟨.cl0, 1, 7, 0x66⟩, 4096 * 8 + 32 + 16, 8⟩) := by decide

theorem test_set_protect :
    ((ran (.setProtect .cl0 7 [3, 1] false) (asking bench .cl0 7 0x65 [3, 1])).store.jobs.map Job.kind) = [.info 3 true] := by
  decide

theorem test_job_start :
    (ran .jobStart (bench.modStore fun t => { t with jobs := [⟨.remove 9, some 5, false, ⟨.cl0, 1, 7, 0x63⟩⟩] })).store.activity
      = .erasing := by decide

theorem test_cleanup_start :
    (ran .cleanupStart (bench.modStore fun t => { t with directory := [{ clip with state := .abandoned }] })).store.opInHand
      = some (.eraseSector 8) := by decide

/-- R141: programming only clears bits. -/
theorem test_program_complete :
    cellAt (ran .programComplete (bench.modStore fun t => { t with
      array := [(4, 0x0F)], activity := .programming, opInHand := some (.program 4 [0x3C]) })).store.array 4 = 0x0C := by decide

theorem test_erase_complete :
    (ran .eraseComplete (bench.modStore fun t => { t with
      array := [(4, 0x0F), (4096, 1)], activity := .erasing, opInHand := some (.eraseSector 0) })).store.array
      = [(4096, 1)] := by decide

theorem test_erase_suspend :
    (ran .eraseSuspend (bench.modStore fun t => { t with
      activity := .erasing, eraseRun := 1, opInHand := some (.eraseSector 0), reads := [⟨⟨.cl0, 1, 7, 0x66⟩, 32, 8⟩] })).store.suspending
      = true := by decide

theorem test_suspend_complete :
    (ran .suspendComplete (bench.modStore fun t => { t with
      activity := .erasing, suspending := true, opInHand := some (.eraseSector 0)
      reads := [⟨⟨.cl0, 1, 7, 0x66⟩, 32, 8⟩] })).store.activity = .reading := by decide

theorem test_array_read_complete :
    said (ran .arrayReadComplete (bench.modStore fun t => { t with
      array := [(33, 7)], activity := .reading, reading := some (.clipRead ⟨⟨.cl0, 1, 7, 0x66⟩, 32, 3⟩) }))
      = some (.ok, [0xFF, 7, 0xFF]) := by decide

/-! ## Sound -/

/-- R163: the reply names voice 0 and the applied frequency, 8000 for 9000. -/
theorem test_play_tone :
    said (ran (.play .cl0 7 [1, 0, 0x28, 0x23, 0, 1, 0, 3, 0, 0]) (asking bench .cl0 7 0x70 [1, 0, 0x28, 0x23, 0, 1, 0, 3, 0,
      0])) = some (.adjusted, [0, 0x40, 0x1F]) := by decide

/-- R163: a clip at 22050 samples per second advances by 90316. -/
theorem test_play_clip_step :
    ((ran (.play .cl0 7 [0, 5, 0x22, 0x56, 0, 0, 0, 3, 0, 0]) (asking (stocked bench) .cl0 7 0x70 [0, 5, 0x22, 0x56, 0, 0, 0, 3,
      0, 0])).voice .v0).step = 90316 := by decide

theorem test_stop_voice :
    told (ran (.stopVoice .cl0 7 [2]) (asking (sounding bench .v2 (toneVoice 440 16)) .cl0 7 0x71 [2]))
      = some (.voiceEnd ⟨.v2, some 9, .tone 440, .stopped, 0⟩) := by decide

theorem test_set_volume : said (ran (.setVolume .cl0 7 [255]) (asking bench .cl0 7 0x72 [255]))
    = some (.ok, [255, 0, 1]) := by decide

theorem test_voice_status : (said (ran (.voiceStatus .cl0 7 []) (asking bench .cl0 7 0x73 []))).map (fun r => r.2.take 5)
    = some [160, 0, 1, 160, 0] := by decide

/-- R167: a tone of 440 Hz advances its phase by 1802. -/
theorem test_tone_phase : ((ran .outputSample (sounding bench .v1 (toneVoice 440 16))).voice .v1).phase = 1802 := by decide

/-- One output sample: a sum of 9648 at an effective volume of 160 gives the compare value 606, and one of 0 the rest, 512. -/
theorem test_mixer : (speakerCompare 9648 160, speakerCompare 9760 160, speakerCompare 0 160) = (606, 607, 512) := by decide

/-! ## States and operands that meet the statements' hypotheses, clause by clause -/

/-- The parameters of MOVE on P1: kind, speed and limit bytes, end action and placement. -/
def moveBytes (kind lo hi limit endAction place : Byte) : List Byte :=
  [1, kind, lo, hi, limit, 0, 0, 0, endAction, 0, 8] ++ List.replicate 16 0 ++ [place]

/-- The parameters of MOVE_PAIR on pair 0, steered. -/
def pairBytes (kind lo hi limit steer place : Byte) : List Byte :=
  [0, kind, lo, hi, limit, 0, 0, 0, 0, 0, 8] ++ List.replicate 16 0 ++ [steer, place]

/-- A clip voice of CL0 with block 0 in its playing half. -/
def clipVoice (region : Option (Nat × Nat)) (position loops : Nat) : Voice :=
  { Voice.unused with
    state := .playing, owner := some (.link .cl0), tag := some 9, report := true, priority := 4, gain := 255
    source := some (.clip 5 8 .pcm8 600 region), step := 65536, position := position * 65536, loops := loops
    half0 := ⟨position / 256, .filled, List.replicate 256 0⟩ }

theorem test_meets_IdleStep : State.reset.pending = [] := by decide

theorem test_meets_UnservableRequests :
    ((Instr.identify .cl0 7 [0]).asks = some (.cl0, 7, 0x01, [0]) ∧ (asking bench .cl0 7 0x01 [0]).asked .cl0 7 0x01 [0]
      ∧ lengthAllowed 0x01 [0] ≠ some true)
    ∧ ((bench.modLink .cl0 fun k => { k with inbound := [⟨7, none, []⟩] }).link .cl0).inbound.head? = some ⟨7, none, []⟩
    ∧ lengthAllowed (0x74 : Byte).toNat [1] = none ∧ (asking bench .cl0 7 0x74 [1]).asked .cl0 7 (0x74 : Byte).toNat [1] := by
  decide

theorem test_meets_RequestsNotWaiting :
    (Instr.identify .cl0 7 []).asks = some (.cl0, 7, 0x01, []) ∧ ¬ State.reset.asked .cl0 7 0x01 []
      ∧ ¬ (asking bench .cl0 8 0x01 []).asked .cl0 7 0x01 [] := by decide

/-- Both resets, for the links' and the blocks' statements. -/
theorem test_meets_ResetSets :
    ((asking bench .cl1 7 0x06 []).modLink .cl1 fun k => { k with armed := true }).asked .cl1 7 0x06 []
      ∧ (((asking bench .cl1 7 0x06 []).modLink .cl1 fun k => { k with armed := true }).link .cl1).armed = true
      ∧ bench.store.infoRow = some (8, false) ∧ (bench.modStore fun t => { t with infoRow := none }).store.infoRow = none
      ∧ ((ran (.selFall .cl1) bench).link .cl1).transfer.isSome = true := by decide

theorem test_meets_SelFall :
    (bench.link .cl0).transfer = none ∧ (bench.link .cl0).replies = [] ∧ (bench.link .cl0).notices = []
    ∧ ((bench.modLink .cl0 fun k => { k with replies := [⟨1, 1, .ok, []⟩] }).link .cl0).replies = [⟨1, 1, .ok, []⟩]
    ∧ ((bench.notify .cl0 (.streamEnd 3)).link .cl0).notices = [.streamEnd 3] := by decide

theorem test_meets_SelRiseArrives :
    ((ran (.selFall .cl0) bench).link .cl0).transfer = some ⟨.filler, [2, 0, 1], true, false, false⟩
      ∧ ((ran (.selFall .cl0) bench).link .cl0).state = .active
      ∧ ((ran (.selFall .cl0) State.reset).link .cl0).state ≠ .active
      ∧ [2, 0, 1].length ≤ ([2, 7, 1] : List Byte).length ∧ ([2, 7] : List Byte).length < [2, 0, 1].length := by decide

theorem test_meets_SelRiseJudges :
    ((ran (.selFall .cl0) bench).link .cl0).transfer = some ⟨.filler, [2, 0, 1], true, false, false⟩
      ∧ (List.replicate 61 (0 : Byte)).length ≤ 61 ∧ 63 < (64 : Byte).toNat
      ∧ (bench.link .cl0).count < 8
      ∧ ¬ ((bench.modLink .cl0 fun k => { k with inbound := List.replicate 8 ⟨1, some 1, []⟩ }).link .cl0).count < 8
      ∧ ([7] : List Byte).length < (2 : Byte).toNat
      ∧ ((bench.modLink .cl0 fun k => { k with transfer := some ⟨.filler, [2, 0, 1], true, false, true⟩ }).link
          .cl0).transfer = some ⟨.filler, [2, 0, 1], true, false, true⟩ := by decide

theorem test_meets_AgeTickCounts :
    (bench.link .cl0).state = .active ∧ (bench.link .cl0).ageTimer.isSome = true
      ∧ 1 = (if (bench.link .cl0).frameMark then 0 else min 15 ((bench.link .cl0).quiet + 1))
      ∧ 1 < (bench.link .cl0).settings.robustness
      ∧ ((bench.modLink .cl0 fun k => { k with settings := { k.settings with robustness := 0 } }).link .cl0).settings.robustness
        = 0 := by decide

/-- The quiet count that reaches a robustness of 4 exactly, with claims, segments, a clip, jobs and a read to lose. -/
theorem test_meets_AgeTickLapses :
    ∃ s : State, s = (holding 600 true).modLink .cl0 (fun k => { k with quiet := 3 })
      ∧ s.countInv ∧ (s.link .cl0).state = .active ∧ (s.link .cl0).ageTimer.isSome = true ∧ (s.link .cl0).frameMark = false
      ∧ (s.link .cl0).settings.robustness ≠ 0 ∧ (s.link .cl0).settings.robustness ≤ min 15 ((s.link .cl0).quiet + 1)
      ∧ (s.link LinkId.cl0.other).state = .active := ⟨_, rfl, by decide⟩

theorem test_meets_Leave :
    (asking bench .cl0 7 0x04 []).asked .cl0 7 0x04 []
      ∧ ((asking bench .cl0 7 0x04 []).link LinkId.cl0.other).state = .active := by decide

/-- What a lapse or LEAVE releases and abandons, clause by clause: a held single port with segments, a held pair whose ports are
in no other one, a port and a pair not held; a WRITING clip of the link with its head job in progress and not, no job at all,
no context, and one of the other link; a peer with room and one with a full queue. -/
theorem test_meets_AgeTickLapses_and_Leave_work :
    (((holding 600 true).claim .p1).holder = some .cl0 ∧ (holding 600 true).pairOf .p1 = none
      ∧ ((holding 600 true).unit .p1).queue ≠ [])
    ∧ ((paired bench).pairs = ⟨some ⟨.p1, .p2, 32, [], none, 0, 0⟩, none, none⟩ ∧ ((paired bench).claim .p1).holder = some .cl0)
    ∧ ((paired bench).claim .p4).holder ≠ some .cl0
    ∧ ((((paired bench).setClaim .p1 ⟨none, false⟩).setClaim .p2 ⟨none, false⟩).claim .p1).holder ≠ some .cl0
    ∧ ((holding 600 true).store.ctx.map (fun c => (c.owner, c.id)) = some (.cl0, 17)
      ∧ (holding 600 true).store.jobs = [job (.page 0 [1] 1) (some 17), job (.page 1 [2] 2) (some 17), job (.remove 3) (some 2)]
      ∧ (holding 600 true).store.jobRunning = true ∧ (holding 600 false).store.jobRunning = false)
    ∧ ((writing 9).store.jobs = [] ∧ bench.store.ctx = none)
    ∧ (writing 9).store.ctx.map (fun c => (c.owner, c.id)) = some (LinkId.cl1.other, 17)
    ∧ (bench.link .cl1).notices.length < 32
    ∧ ((bench.modLink .cl1 fun k => { k with notices := List.replicate 32 (.streamEnd 0) }).link .cl1).notices
        = List.replicate 32 (.streamEnd 0) := by
  decide

theorem test_meets_LinkRequests :
    (asking bench .cl0 7 0x01 []).asked .cl0 7 0x01 [] ∧ (asking bench .cl0 7 0x03 [15]).asked .cl0 7 0x03 [15]
      ∧ (asking bench .cl0 7 0x02 [15, 33, 0x87, 0x13, 16, 1]).asked .cl0 7 0x02 [15, 33, 0x87, 0x13, 16, 1]
      ∧ 4999 = (0x87 : Byte).toNat + 256 * (0x13 : Byte).toNat
      ∧ (asking bench .cl0 7 0x06 []).asked .cl0 7 0x06 [] ∧ ((asking bench .cl0 7 0x06 []).link .cl0).armed = false
      ∧ (asking bench .cl0 7 0x05 []).asked .cl0 7 0x05 [] := by decide

/-! ### Ports -/

/-- P4 with its supply on and two readings of a level, in a state. -/
def reading (st : PortState) (held : Option Level) (level : Level) : State :=
  bench.modPort .p4 fun u => { u with state := st, power := true, level := held, lastReading := some level, run := 2 }

theorem test_meets_PortPower :
    (bench.port .p4).powerTimer.isSome = true
    ∧ (((reading .passive none 2).modPort .p4 fun u => { u with run := 1 }).port .p4).power = true
    ∧ (2 = if (((reading .passive none 2).modPort .p4 fun u => { u with run := 1 }).port .p4).lastReading = some 2 then
        min 3 ((((reading .passive none 2).modPort .p4 fun u => { u with run := 1 }).port .p4).run + 1) else 1)
    ∧ ((reading .passive (some 2) 2).port .p4).level = some 2 ∧ ((reading .passive (some 2) 2).port .p4).kind ≠ .touch
    ∧ ((reading .probing none 0).port .p4).power = true ∧ ((reading .probing none 0).port .p4).state = .probing
    ∧ ((reading .probing none 0).port .p4).level = none ∧ ((reading .probing none 0).port .p4).lastReading = some 0
    ∧ 2 ≤ ((reading .probing none 0).port .p4).run ∧ ((reading .fault none 0).port .p4).state = .fault
    ∧ (asking bench .cl0 7 0x16 [BitVec.ofNat 8 Port.p4.num]).asked .cl0 7 0x16 [BitVec.ofNat 8 Port.p4.num]
    ∧ ((reading .faultLatched none 0).port .p4).state = .faultLatched := by decide

theorem test_meets_ProbeAttaches :
    ∀ level ∈ [1, 2, 3, 4, 5, 6, (7 : Level)],
      ((reading .probing none level).port .p4).power = true ∧ ((reading .probing none level).port .p4).state = .probing
      ∧ level ≠ 0 ∧ ((reading .probing none level).port .p4).level ≠ some level
      ∧ ((reading .probing none level).port .p4).lastReading = some level ∧ 2 ≤ ((reading .probing none level).port .p4).run
      ∧ ((reading .probing none level).port .p4).sample = none ∧ ((reading .probing none level).link .cl0).state = .active
      ∧ ((reading .empty (some 0) level).port .p4).state = .empty
      ∧ ((reading .empty (some 0) level).port .p4).level ≠ some level := by decide

/-- P4 with a TOUCH, released, its last sample numbered 6. -/
def touched (s : State) : State :=
  s.modPort .p4 fun u => { u with
    state := .passive, power := true, powerTimer := none, level := some 4, lastReading := some 4, run := 3, kind := .touch
    mode := some 0, desc := some ⟨none, [⟨1, 1, 0, 1, 0, 1, 10, 0⟩]⟩, sample := some ⟨0, [0], [0], some 6, 0, false⟩ }

/-- P1 RUNNING a segment with a stop condition, its baseline 6, with further segments waiting. -/
def guarded (s : State) (c : StopCond) (rest : List Segment) : State :=
  s.modUnit .p1 fun m => { m with
    motor := .running, queue := { segment .run 500 with cond := some c } :: rest
    act := some ⟨s.now, some 6, none, 0, .cruise, 0, 0⟩ }

/-- A TOUCH that is pressed and meets each relation: the next sample, numbered 7, is 1. -/
theorem test_meets_ProbeAttaches_condition :
    ∀ c ∈ [(⟨.p4, 0, 0, .above, 0, 0⟩ : StopCond), ⟨.p4, 0, 0, .below, 2, 0⟩, ⟨.p4, 0, 0, .inside, 1, 1⟩,
        ⟨.p4, 0, 0, .outside, 2, 3⟩],
      ((guarded (touched bench) c []).port .p4).power = true ∧ ((guarded (touched bench) c []).port .p4).kind = .touch
      ∧ ((guarded (touched bench) c []).port .p4).level = some 4
      ∧ ((guarded (touched bench) c []).port .p4).sample = some ⟨0, [0], [0], some 6, 0, false⟩
      ∧ ((some (6 : BitVec 16)).map fun k => k + 1).getD 0 = 7
      ∧ ((guarded (touched bench) c []).unit .p1).queue = [{ segment .run 500 with cond := some c }]
      ∧ ((guarded (touched bench) c []).unit .p1).act = some ⟨0, some 6, none, 0, .cruise, 0, 0⟩
      ∧ c.source = .p4 ∧ c.mode = 0 ∧ c.index = 0 ∧ some (6 : BitVec 16) ≠ some 7
      ∧ (c.relation = .below ∧ (1 : Int) < c.t1 ∨ c.relation = .above ∧ c.t1 < 1
        ∨ c.relation = .inside ∧ c.t1 ≤ 1 ∧ 1 ≤ c.t2 ∨ c.relation = .outside ∧ (1 < c.t1 ∨ c.t2 < 1))
      ∧ (guarded (touched bench) c []).pairs = ⟨none, none, none⟩ := by decide

/-- R67, R72: that sample ends the segment, and the motor coasts. -/
theorem test_touch_ends_segment :
    ((ran (.probeEvent .p4 4 true) (guarded (touched bench) ⟨.p4, 0, 0, .above, 0, 0⟩ [])).unit .p1).motor = .coasting
      ∧ told (ran (.probeEvent .p4 4 true) (guarded (touched bench) ⟨.p4, 0, 0, .above, 0, 0⟩ []))
        = some (.segmentEnd ⟨.p1, none, 9, .run, .condition, some 0, 0⟩) := by decide

theorem test_meets_ProbeDetaches :
    ∃ s : State, s = (bench.modPort .p1 fun u => { u with lastReading := some 0, run := 2 })
      ∧ (s.port .p1).power = true ∧ (s.port .p1).state = .active ∧ (s.port .p1).level ≠ some 0
      ∧ (s.port .p1).lastReading = some 0 ∧ 2 ≤ (s.port .p1).run ∧ s.pairOf .p1 = none
      ∧ (paired s).pairOf .p1 = some .q0 ∧ (s.link .cl0).state = .active := ⟨_, rfl, by decide⟩

/-- P2 loses its device: a SET_MODE and a write wait on it, it runs a segment of its own, and P1 one that it could stop. -/
theorem test_meets_ProbeDetaches_waited_on :
    ∃ s : State, s = ((guarded bench ⟨.p2, 0, 0, .above, 5, 0⟩ [segment .run 5]).modPort .p2 (fun u => { u with
        lastReading := some 0, run := 2, waiting := [⟨⟨.cl0, 1, 7, 0x12⟩, 1⟩], writes := [⟨⟨.cl0, 1, 8, 0x13⟩, [1]⟩] })).modUnit .p2
          (fun m => { m with motor := .running, queue := [segment .run 5], act := some ⟨0, none, none, 0, .cruise, 0, 0⟩ })
      ∧ (s.port .p2).power = true ∧ (s.port .p2).state = .active ∧ (s.port .p2).level ≠ some 0
      ∧ (s.port .p2).lastReading = some 0 ∧ 2 ≤ (s.port .p2).run ∧ s.pairOf .p2 = none ∧ s.pairOf .p1 = none
      ∧ (∀ w ∈ (s.port .p2).waiting, w.dest.activation = (s.link w.dest.link).activation)
      ∧ (∀ w ∈ (s.port .p2).writes, w.dest.activation = (s.link w.dest.link).activation)
      ∧ segment .run 5 ∈ (s.unit .p2).queue ∧ Port.p1 ≠ .p2
      ∧ (s.unit .p1).queue = { segment .run 500 with cond := some ⟨.p2, 0, 0, .above, 5, 0⟩ } :: [segment .run 5]
      ∧ ({ segment .run 500 with cond := some ⟨.p2, 0, 0, .above, 5, 0⟩ }).cond.map StopCond.source = some .p2
      ∧ (after (exec (.probeEvent .p2 0 false) s) s).unit .p1
          = { s.unit .p1 with motor := .coasting, queue := [], act := none } := ⟨_, rfl, by decide⟩

/-- P3 loses its device: pair 0 of P1 and P3 is dissolved, and pair 1 of P2 and P4 ran a segment that P3 could stop. -/
theorem test_meets_ProbeDetaches_pairs :
    ∃ (s : State) (g h : PairSegment), g = ⟨segment .run 5, -20⟩
      ∧ h = ⟨{ segment .run 5 with cond := some ⟨.p3, 0, 0, .above, 5, 0⟩ }, 20⟩
      ∧ s = ((bench.modPort .p3 fun u => { u with lastReading := some 0, run := 2 }).setPair .q0
        (some ⟨.p1, .p3, 32, [g], some ⟨0, none, 0, 0, none, .cruise, 0, 0, 0⟩, 0, 0⟩)).setPair .q1
        (some ⟨.p2, .p4, 32, [h, g], some ⟨0, none, 0, 0, none, .cruise, 0, 0, 0⟩, 0, 0⟩)
      ∧ (s.port .p3).power = true ∧ (s.port .p3).state = .passive ∧ (s.port .p3).level ≠ some 0
      ∧ (s.port .p3).lastReading = some 0 ∧ 2 ≤ (s.port .p3).run ∧ s.pairOf .p3 = some .q0
      ∧ s.pairAt .q0 = some ⟨.p1, .p3, 32, [g], some ⟨0, none, 0, 0, none, .cruise, 0, 0, 0⟩, 0, 0⟩
      ∧ (s.unit .p1).queue = [] ∧ s.pairAt .q2 = none
      ∧ s.pairAt .q1 = some ⟨.p2, .p4, 32, [h, g], some ⟨0, none, 0, 0, none, .cruise, 0, 0, 0⟩, 0, 0⟩
      ∧ s.pairOf .p3 ≠ some .q1 ∧ h.seg.cond.map StopCond.source = some .p3
      ∧ (after (exec (.probeEvent .p3 0 false) s) s).pairAt .q0 = none
      ∧ (after (exec (.probeEvent .p3 0 false) s) s).pairAt .q1 = some ⟨.p2, .p4, 32, [], none, 0, 0⟩ :=
  ⟨_, _, _, rfl, rfl, rfl, by decide⟩

/-- A history whose oldest entry is exactly 10,000 ms old and stays, and one that is older and leaves. -/
theorem test_meets_OvercurrentTrips :
    (bench.port .p1).power = true ∧ (bench.port .p1).kind ≠ .none
    ∧ [2000, 3000].filter (fun x => decide (12000 - x ≤ 10000)) = [2000, 3000]
    ∧ [1999, 3000].filter (fun x => decide (12000 - x ≤ 10000)) = [3000]
    ∧ ((reading .probing none 0).port .p4).power = true ∧ ((reading .probing none 0).port .p4).kind = .none := by decide

theorem test_meets_PortReports :
    (asking bench .cl0 7 0x10 [BitVec.ofNat 8 Port.p6.num, 0xFF]).asked .cl0 7 0x10 [BitVec.ofNat 8 Port.p6.num, 0xFF]
      ∧ (asking bench .cl0 7 0x10 [BitVec.ofNat 8 Port.p1.num, 1]).asked .cl0 7 0x10 [BitVec.ofNat 8 Port.p1.num, 1]
      ∧ (1 : Byte) ≠ 0xFF ∧ (bench.port .p1).modeDesc 1 ≠ none ∧ (bench.port .p6).desc = none
      ∧ (bench.port .p1).desc = some ⟨some ⟨2, 3, true, some 360, some 1000⟩,
          [⟨1, 1, -100, 100, -1000, 1000, 10, 0⟩, ⟨2, 2, 0, 100, 0, 100, 5, 0⟩]⟩
      ∧ (asking bench .cl0 7 0x11 [BitVec.ofNat 8 Port.p1.num]).asked .cl0 7 0x11 [BitVec.ofNat 8 Port.p1.num]
      ∧ (asking bench .cl0 7 0x15 [BitVec.ofNat 8 Port.p1.num]).asked .cl0 7 0x15 [BitVec.ofNat 8 Port.p1.num]
      ∧ (asking bench .cl0 7 0x14 [BitVec.ofNat 8 Port.p1.num, 2, BitVec.ofNat 8 TapSel.both.code]).asked .cl0 7 0x14
          [BitVec.ofNat 8 Port.p1.num, 2, BitVec.ofNat 8 TapSel.both.code] := by decide

/-! ### The device serial protocol -/

theorem test_meets_Scale :
    (⟨1, 1, 0, 4, 10, 0, 10, 0⟩ : ModeDesc).rawLow < (⟨1, 1, 0, 4, 10, 0, 10, 0⟩ : ModeDesc).rawHigh := by decide

/-- A DATA with a wrong check byte, at an error run of 2; one of another mode, with an error run of 3; and a part of a DATA. -/
theorem test_meets_BadMessages :
    (bench.port .p1).state = .active ∧ (bench.port .p1).discarding = false ∧ (bench.port .p1).tapTarget = none
    ∧ wholeMessage [0x22, 0, 5, 0] = true ∧ (bench.port .p1).expect.outcome [0x22, 0, 5, 0] = .checkError
    ∧ (bench.port .p1).errorRun < 3
    ∧ ({ bench.port .p1 with pendingMode := some 1, errorRun := 3 } : PortUnit).expect.outcome [0x22, 0, 5, checkByte [0x22, 0, 5]]
      = .modeMismatch
    ∧ shortMessage [0x22, 0] = true ∧ ([0x22, 0] : List Byte) ≠ [] := by decide

theorem test_meets_DataUpdates :
    (bench.port .p1).state = .active ∧ (bench.port .p1).discarding = false ∧ (bench.port .p1).pendingMode = none
    ∧ (bench.port .p1).mode = some 0 ∧ (bench.port .p1).modeDesc 0 = some ⟨1, 1, -100, 100, -1000, 1000, 10, 0⟩
    ∧ wholeMessage [0x22, 0, 5, checkByte [0x22, 0, 5]] = true
    ∧ messageClass [0x22, 0, 5, checkByte [0x22, 0, 5]] = some .data
    ∧ (bench.port .p1).expect.outcome [0x22, 0, 5, checkByte [0x22, 0, 5]] = .ok := by decide

/-- P1 ACTIVE with a SET_MODE to mode 1 waiting, and streams of P1 in both modes, the second SUSPENDED. -/
def changing (s : State) : State :=
  { s.modPort .p1 fun u => { u with
      pendingMode := some 1, modeTimer := some 900, waiting := [⟨⟨.cl0, 1, 7, 0x12⟩, 1⟩] } with
    streams := [⟨0, ⟨.sensor, some .p1, 0, 10, 0⟩, ⟨true, false⟩, false, some 0, [10]⟩,
      ⟨1, ⟨.sensor, some .p1, 1, 10, 0⟩, ⟨true, false⟩, true, none, []⟩] }

/-- The DATA that confirms it: two values of format 2, with P2 running a segment whose condition names P1 in mode 0. -/
theorem test_meets_DataUpdates_confirms :
    ∃ s : State, s = (changing bench).modUnit .p2 (fun m => { m with
        motor := .running, queue := [{ segment .run 500 with cond := some ⟨.p1, 0, 0, .above, 5, 0⟩ }, segment .run 5]
        act := some ⟨0, none, none, 0, .cruise, 0, 0⟩ })
      ∧ (s.port .p1).state = .active ∧ (s.port .p1).discarding = false ∧ (s.port .p1).pendingMode = some 1
      ∧ (s.port .p1).modeDesc 1 = some ⟨2, 2, 0, 100, 0, 100, 5, 0⟩
      ∧ wholeMessage [0x25, 1, 7, 0, 8, 0, checkByte [0x25, 1, 7, 0, 8, 0]] = true
      ∧ messageClass [0x25, 1, 7, 0, 8, 0, checkByte [0x25, 1, 7, 0, 8, 0]] = some .data
      ∧ (s.port .p1).expect.outcome [0x25, 1, 7, 0, 8, 0, checkByte [0x25, 1, 7, 0, 8, 0]] = .ok
      ∧ (∀ w ∈ (s.port .p1).waiting, w.dest.activation = (s.link w.dest.link).activation)
      ∧ (s.port .p1).mode = some 0 ∧ (0 : Nat) ≠ 1 ∧ s.streams.map StreamEntry.suspended = [false, true]
      ∧ s.streams.map (fun e => (e.key.kind, e.key.port, e.key.mode)) = [(.sensor, some .p1, 0), (.sensor, some .p1, 1)]
      ∧ (s.unit .p2).queue = { segment .run 500 with cond := some ⟨.p1, 0, 0, .above, 5, 0⟩ } :: [segment .run 5]
      ∧ (after (exec (.messageOutcome .p1 [0x25, 1, 7, 0, 8, 0, checkByte [0x25, 1, 7, 0, 8, 0]] false) s) s).streams
        = [⟨0, ⟨.sensor, some .p1, 0, 10, 0⟩, ⟨true, false⟩, true, some 0, [10]⟩,
          ⟨1, ⟨.sensor, some .p1, 1, 10, 0⟩, ⟨true, false⟩, false, some 0, [7, 8]⟩] := ⟨_, rfl, by decide +kernel⟩

/-- Both losses, with a waiting SET_MODE and a write of the present stay in ACTIVE. -/
theorem test_meets_LossRestarts :
    ∃ s : State, s = bench.modPort .p1 (fun u => { u with
        errorRun := 3, pendingMode := some 1, waiting := [⟨⟨.cl0, 1, 7, 0x12⟩, 1⟩], writes := [⟨⟨.cl0, 1, 8, 0x13⟩, [1]⟩] })
      ∧ (s.port .p1).state = .active ∧ (s.port .p1).silence.isSome = true
      ∧ ([0x22] : List Byte) ≠ [] ∧ shortMessage [0x22] = true ∧ (s.port .p1).errorRun = 3
      ∧ (s.port .p1).discarding = false ∧ shortMessage [0x22, 0] = true ∧ wholeMessage [0x22, 0, 5, 0] = true
      ∧ (s.port .p1).expect.outcome [0x22, 0, 5, 0] ≠ .ok ∧ (s.port .p1).expect.outcome [0x22, 0, 5, 0] ≠ .modeMismatch
      ∧ (s.port .p1).tapTarget = none
      ∧ (∀ w ∈ (s.port .p1).waiting, w.dest.activation = (s.link w.dest.link).activation)
      ∧ ∀ w ∈ (s.port .p1).writes, w.dest.activation = (s.link w.dest.link).activation := ⟨_, rfl, by decide⟩

/-- P4 in a handshake. -/
def shaking (h : Handshake) : State :=
  bench.modPort .p4 fun u => { u with
    state := .describing, power := true, level := some 1, lastReading := some 1, run := 3, kind := .serial, hs := some h }

theorem test_meets_HandshakeEnds :
    (((shaking ⟨0, some 9, false, none, [], none⟩).port .p4).hs = some ⟨0, some 9, false, none, [], none⟩
      ∧ ((shaking ⟨0, some 9, false, none, [], none⟩).port .p4).receives = true)
    ∧ (∃ h : Handshake, h = ⟨0, some 9, true, some (0x0412, ⟨1, 4, false, none, none⟩), [⟨1, 1, 0, 100, 0, 100, 10, 0⟩], none⟩
      ∧ ((shaking h).port .p4).state = .describing ∧ ((shaking h).port .p4).discarding = false
      ∧ ((shaking h).port .p4).tapTarget = none ∧ ((shaking h).port .p4).hs = some h ∧ h.ended = none
      ∧ h.stagedHead = some (0x0412, ⟨1, 4, false, none, none⟩) ∧ h.stagedModes.length = 1 ∧ (1 : Byte).toNat = 1)
    ∧ (∃ h : Handshake, h = ⟨0, none, true, some (0x0412, ⟨1, 4, true, some 360, some 1000⟩), [⟨1, 1, 0, 100, 0, 100, 10, 0⟩],
        some 4⟩
      ∧ ((shaking h).port .p4).hs = some h ∧ h.stagedHead = some (0x0412, ⟨1, 4, true, some 360, some 1000⟩)
      ∧ h.ended = some 4 ∧ ((shaking h).port .p4).desc = none)
    ∧ (⟨1, some 0, false, none, [], none⟩ : Handshake).timer.isSome = true
    ∧ ((shaking ⟨2, some 0, false, none, [], none⟩).port .p4).hs = some ⟨2, some 0, false, none, [], none⟩
    ∧ ((shaking ⟨2, some 0, false, none, [], none⟩).port .p4).kind ≠ .none :=
  ⟨by decide, ⟨_, rfl, by decide⟩, ⟨_, rfl, by decide⟩, by decide, by decide, by decide⟩

/-- An encoder HEAD of one mode with rate 4 and a MODE of raw values 0 to 4, as the staging clauses take them. -/
def headBytes : List Byte := [0, 0x12, 4, 1, 4, 1, 0x68, 1, 0xE8, 3]

def modeBytes : List Byte := [1, 0, 1, 1, 0, 0, 0, 0, 4, 0, 0, 0, 0, 0, 0, 0, 100, 0, 0, 0, 5, 0, 9]

theorem test_meets_HandshakeStages :
    (headBytes.length = 10 ∧ byteAt headBytes 0 = 0 ∧ 1 ≤ byteAt headBytes 3 ∧ byteAt headBytes 3 ≤ 8 ∧ byteAt headBytes 4 ≤ 5
      ∧ (byteAt headBytes 5).testBit 0 = true ∧ wordAt headBytes 6 ≠ 0 ∧ wordAt headBytes 8 ≠ 0)
    ∧ (modeBytes.length = 23 ∧ byteAt modeBytes 0 = 1 ∧ byteAt modeBytes 1 = ([] : List ModeDesc).length
      ∧ 1 ≤ byteAt modeBytes 2 ∧ byteAt modeBytes 2 ≤ 4 ∧ byteAt modeBytes 3 ∈ [1, 2, 4]
      ∧ signedOf 32 (longAt modeBytes 4) < signedOf 32 (longAt modeBytes 8) ∧ wordAt modeBytes 20 ≤ 60000)
    ∧ (∃ h : Handshake, h = ⟨0, some 9, true, none, [], none⟩ ∧ ((shaking h).port .p4).state = .describing
      ∧ ((shaking h).port .p4).discarding = false ∧ ((shaking h).port .p4).tapTarget = none
      ∧ ((shaking h).port .p4).hs = some h ∧ h.ended = none ∧ h.stagedHead = none ∧ h.attempt < 2
      ∧ wholeMessage [0x0A, 0, 1, 2, 3, 4, 5, 6, 7, 8, 9, 0] = true
      ∧ ((shaking h).port .p4).expect.outcome [0x0A, 0, 1, 2, 3, 4, 5, 6, 7, 8, 9, 0] ≠ .ok)
    ∧ (∃ h : Handshake, h = ⟨0, some 9, true, some (0x0412, ⟨1, 4, true, some 360, some 1000⟩), [], none⟩
      ∧ h.stagedHead = some (0x0412, ⟨1, 4, true, some 360, some 1000⟩) ∧ h.stagedModes.length < 1 ∧ h.ended = none) :=
  ⟨by decide, by decide, ⟨_, rfl, by decide⟩, _, rfl, by decide⟩

/-- R23: an OK HEAD and an OK MODE are staged, the minimum interval brought up to 10. -/
theorem test_handshake_stages :
    (((ran (.messageOutcome .p4 (0x0A :: headBytes ++ [checkByte (0x0A :: headBytes)]) false)
      (shaking ⟨0, some 9, true, none, [], none⟩)).port .p4).hs.bind Handshake.stagedHead)
        = some (0x0412, ⟨1, 4, true, some 360, some 1000⟩)
    ∧ (((ran (.messageOutcome .p4 (0x17 :: modeBytes ++ [checkByte (0x17 :: modeBytes)]) false)
      (shaking ⟨0, some 9, true, some (0x0412, ⟨1, 4, true, some 360, some 1000⟩), [], none⟩)).port .p4).hs.map
        Handshake.stagedModes) = some [⟨1, 1, 0, 4, 0, 100, 10, 9⟩] := by decide +kernel

/-- P1 in the re-handshake of the same device, its handshake at END, in a mode and with a mode pending or not. -/
def rehandshaking (mode : Nat) (pending : Option Nat) (typeId : BitVec 16) : State :=
  bench.modPort .p1 fun u => { u with
    state := .describing, mode := some mode, pendingMode := pending, silence := none, keepAlive := none, rate := 0
    hs := some ⟨0, none, true, some (typeId, ⟨2, 3, true, some 360, some 1000⟩),
      [⟨1, 1, -100, 100, -1000, 1000, 10, 0⟩, ⟨2, 2, 0, 100, 0, 100, 5, 0⟩], some 3⟩ }

/-- The same identity with a mode pending, in mode 1 and in mode 0; and another type id. -/
theorem test_meets_HandshakeEnds_again :
    (∀ x ∈ [(1, some 0), (1, none), (0, (none : Option Nat))],
      ((rehandshaking x.1 x.2 5).port .p1).typeId = some 5
      ∧ ((rehandshaking x.1 x.2 5).port .p1).hs.bind Handshake.stagedHead = some (5, ⟨2, 3, true, some 360, some 1000⟩)
      ∧ ((rehandshaking x.1 x.2 5).port .p1).hs.bind Handshake.ended = some 3
      ∧ ((rehandshaking x.1 x.2 5).port .p1).desc = some ⟨some ⟨2, 3, true, some 360, some 1000⟩,
          [⟨1, 1, -100, 100, -1000, 1000, 10, 0⟩, ⟨2, 2, 0, 100, 0, 100, 5, 0⟩]⟩
      ∧ ((rehandshaking x.1 x.2 5).port .p1).pendingMode = x.2 ∧ ((rehandshaking x.1 x.2 5).port .p1).mode = some x.1)
    ∧ ((rehandshaking 1 none 6).port .p1).typeId ≠ some 6 ∧ ((rehandshaking 1 none 6).port .p1).desc.isSome = true := by decide

/-- R26: the same device in mode 1 is restored to it; another device is in mode 0 and the claim on it is free. -/
theorem test_rehandshake :
    ((ran (.ackSent .p1) (rehandshaking 1 none 5)).port .p1).pendingMode = some 1
    ∧ ((ran (.ackSent .p1) (rehandshaking 1 none 6)).port .p1).mode = some 0
    ∧ (ran (.ackSent .p1) (rehandshaking 1 none 6)).claim .p1 = ⟨none, false⟩ := by decide

theorem test_meets_SerialTimers :
    (bench.port .p1).state = .active ∧ (bench.port .p1).keepAlive.isSome = true
    ∧ (∃ u : PortUnit, u = { bench.port .p1 with
        pendingMode := some 1, modeTimer := some 0, waiting := [⟨⟨.cl0, 1, 7, 0x12⟩, 1⟩]
        writeTimer := some 0, writes := [⟨⟨.cl0, 1, 8, 0x13⟩, [1]⟩] }
      ∧ u.modeTimer.isSome = true ∧ u.pendingMode = some 1 ∧ u.restore = false ∧ u.writeTimer.isSome = true
      ∧ u.writes = [⟨⟨.cl0, 1, 8, 0x13⟩, [1]⟩]) := ⟨by decide, by decide, _, rfl, by decide⟩

/-- The restore of mode 1 fails, with a stream in each mode and P2 running a segment whose condition names P1 in mode 1. -/
theorem test_meets_SerialTimers_restore :
    ∃ s : State, s = { ((bench.modPort .p1 fun u => { u with
          mode := some 1, pendingMode := some 1, restore := true, modeTimer := some 0 }).modUnit .p2 (fun m => { m with
          motor := .running, queue := [{ segment .run 500 with cond := some ⟨.p1, 1, 0, .above, 5, 0⟩ }, segment .run 5]
          act := some ⟨0, none, none, 0, .cruise, 0, 0⟩ })) with
        streams := [⟨0, ⟨.sensor, some .p1, 0, 10, 0⟩, ⟨true, false⟩, true, some 0, [10]⟩,
          ⟨1, ⟨.sensor, some .p1, 1, 10, 0⟩, ⟨true, false⟩, false, none, []⟩] }
      ∧ (s.port .p1).modeTimer.isSome = true ∧ (s.port .p1).pendingMode = some 1 ∧ (s.port .p1).restore = true
      ∧ (s.port .p1).mode = some 1 ∧ s.pairOf .p2 = none
      ∧ (s.unit .p2).queue = { segment .run 500 with cond := some ⟨.p1, 1, 0, .above, 5, 0⟩ } :: [segment .run 5]
      ∧ (after (exec (.modeTimerExpiry .p1) s) s).streams
        = [⟨0, ⟨.sensor, some .p1, 0, 10, 0⟩, ⟨true, false⟩, false, none, [10]⟩,
          ⟨1, ⟨.sensor, some .p1, 1, 10, 0⟩, ⟨true, false⟩, true, none, []⟩]
      ∧ ((after (exec (.modeTimerExpiry .p1) s) s).unit .p2).queue = []
      ∧ ((after (exec (.modeTimerExpiry .p1) s) s).link .cl0).notices.length = 3 := ⟨_, rfl, by decide⟩

theorem test_meets_SetModeAndPortWrite :
    ((asking bench .cl0 7 0x12 [1, 1]).asked .cl0 7 0x12 [1, 1] ∧ (bench.port .p1).state = .active
      ∧ (bench.port .p1).kind = .serial ∧ ((bench.port .p1).modeDesc 1).isSome = true ∧ bench.pairOf .p1 = none
      ∧ (bench.claim .p1).holder = some .cl0 ∧ (bench.port .p1).pendingMode = none ∧ (bench.port .p1).waiting = [])
    ∧ (asking bench .cl0 7 0x13 (1 :: 31 :: List.replicate 31 0)).asked .cl0 7 0x13 (1 :: 31 :: List.replicate 31 0)
    ∧ (bench.port .p1).desc.isSome = true ∧ (List.replicate 31 (0 : Byte)).length = (31 : Byte).toNat
    ∧ (31 : Byte).toNat ≤ 31 ∧ (List.replicate 3 (⟨⟨.cl0, 1, 8, 0x13⟩, [1]⟩ : WriteReq)).length < 4 := by decide

/-! ### Claims -/

/-- One claiming request for every refusal: an out of range port, an empty one, a paired one and one the other link locked. -/
theorem test_meets_ClaimStepRefuses :
    (Instr.stop .cl0 7 [0, 0]).asks = some (.cl0, 7, 0x31, [0, 0]) ∧ (asking bench .cl0 7 0x31 [0, 0]).asked .cl0 7 0x31 [0, 0]
    ∧ lengthAllowed 0x31 [0, 0] = some true ∧ portAt [0, 0] 0 = none ∧ portAt [7, 0] 0 = none
    ∧ portAt [4, 0] 0 = some .p4 ∧ (bench.port .p4).state ∈ [PortState.empty, .probing, .fault, .faultLatched]
    ∧ portAt [1, 0] 0 = some .p1 ∧ (bench.port .p1).state ∈ [PortState.passive, .describing, .active]
    ∧ ((paired bench).pairOf .p1).isSome = true ∧ bench.pairOf .p1 = none
    ∧ (bench.setClaim .p1 ⟨some .cl1, true⟩).claim .p1 = ⟨some LinkId.cl0.other, true⟩ := by decide

theorem test_meets_LockUnlockRelease :
    bench.pairOf .p1 = none ∧ (asking bench .cl0 7 0x20 [0, BitVec.ofNat 8 Port.p1.num]).asked .cl0 7 0x20 [0, 1]
    ∧ (bench.port .p1).state ∈ [PortState.passive, .describing, .active] ∧ (bench.claim .p1).holder = some .cl0
    ∧ (bench.setClaim .p1 ⟨none, false⟩).claim .p1 = ⟨none, false⟩
    ∧ (asking bench .cl0 7 0x21 [0, 1]).asked .cl0 7 0x21 [0, 1] ∧ (asking bench .cl0 7 0x22 [0, 1]).asked .cl0 7 0x22 [0, 1]
    ∧ (paired bench).pairAt .q0 = some ⟨.p1, .p2, 32, [], none, 0, 0⟩ ∧ Port.p1 ≠ Port.p2
    ∧ (asking (paired bench) .cl0 7 0x20 [1, 0]).asked .cl0 7 0x20 [1, BitVec.ofNat 8 PairId.q0.num]
    ∧ ((paired bench).claim .p1).holder = some .cl0 ∧ ((paired bench).claim .p2).holder = some .cl0
    ∧ (((paired bench).setClaim .p1 ⟨none, false⟩).setClaim .p2 ⟨none, false⟩).claim .p1 = ⟨none, false⟩
    ∧ (asking (paired bench) .cl0 7 0x21 [1, 0]).asked .cl0 7 0x21 [1, 0]
    ∧ (asking (paired bench) .cl0 7 0x22 [1, 0]).asked .cl0 7 0x22 [1, 0] := by decide

/-- RELEASE with segments to end: two on P1, and two of pair 0, one led by each port; their issuer ACTIVE with room for both. -/
theorem test_meets_LockUnlockRelease_segments :
    (∃ gs, gs = ((holding 600 true).unit .p1).queue ∧ gs = [segment .run 500, segment .run 300]
      ∧ (∀ x ∈ gs.map fun g => (Port.p1, g), x.2.issuer = .cl0)
      ∧ ((holding 600 true).link .cl0).state = .active ∧ ((holding 600 true).link .cl0).notices.length + gs.length ≤ 32)
    ∧ ∃ s, s = pairRunning ⟨segment .run 500, 20⟩ [⟨segment .run 300, -20⟩] ⟨0, none, 0, 0, none, .cruise, 0, 0, 0⟩ 0 0
      ∧ s.pairAt .q0 = some ⟨.p1, .p2, 32, [⟨segment .run 500, 20⟩, ⟨segment .run 300, -20⟩],
          some ⟨0, none, 0, 0, none, .cruise, 0, 0, 0⟩, 0, 0⟩
      ∧ (s.claim .p1).holder = some .cl0 ∧ (s.claim .p2).holder = some .cl0
      ∧ (segment .run 500).issuer = .cl0 ∧ (segment .run 300).issuer = .cl0
      ∧ (s.link .cl0).state = .active ∧ (s.link .cl0).notices.length + 2 ≤ 32 :=
  ⟨⟨_, rfl, by decide⟩, _, rfl, by decide⟩

theorem test_meets_Takeover :
    (asking bench .cl1 7 0x20 [0, 1]).asked .cl1 7 0x20 [0, BitVec.ofNat 8 Port.p1.num]
    ∧ (bench.port .p1).state ∈ [PortState.passive, .describing, .active] ∧ bench.pairOf .p1 = none
    ∧ bench.claim .p1 = ⟨some LinkId.cl1.other, false⟩ ∧ (bench.unit .p1).queue = []
    ∧ ((running bench .run 500).unit .p1).queue = [segment .run 500] ∧ (bench.link LinkId.cl1.other).state = .active
    ∧ (∀ g ∈ ((running bench .run 500).unit .p1).queue, g.issuer = LinkId.cl1.other)
    ∧ ((running bench .run 500).link LinkId.cl1.other).notices.length + 1 < 32 := by decide

/-! ### Motion -/

/-- A RUN of 2000 on a motor of max speed 1000, into an empty queue, behind 3 segments and behind 4. -/
theorem test_meets_MoveQueues :
    (asking bench .cl0 7 0x30 (moveBytes 0 0xD0 7 0 0 0)).asked .cl0 7 0x30 (moveBytes 0 0xD0 7 0 0 0)
    ∧ (moveBytes 0 0xD0 7 0 0 0).length = 28 ∧ portAt (moveBytes 0 0xD0 7 0 0 0) 0 = some .p1
    ∧ blockSegment .cl0 7 (moveBytes 0 0xD0 7 0 0 0) 1 = some { segment .run 2000 with tag := 7 }
    ∧ placementAt (moveBytes 0 0xD0 7 0 0 0) 27 = some false ∧ bench.pairOf .p1 = none
    ∧ (bench.claim .p1).holder = some .cl0 ∧ (bench.port .p1).state ∈ [PortState.passive, .active, .describing]
    ∧ (bench.port .p1).drives = true ∧ (bench.port .p1).encoderMotor = true ∧ (bench.unit .p1).halted = false
    ∧ bench.supply.state ≠ .brownout ∧ (bench.unit .p1).queue = []
    ∧ { segment .run 2000 with tag := 7 }.inRange (bench.port .p1).maxSpeed = { segment .run 1000 with tag := 7 }
    ∧ (List.replicate 3 (segment .run 500)).length ≤ 3 ∧ 4 ≤ (List.replicate 4 (segment .run 500)).length
    ∧ (bench.port .p3).drives = true ∧ (bench.port .p3).encoderMotor = false ∧ (segment .duty 5).work.regulated = false
    ∧ placementAt (moveBytes 0 0xD0 7 0 0 1) 27 = some true ∧ ((running bench .run 500).unit .p1).motor = .running
    ∧ ((running bench .run 500).unit .p1).queue = segment .run 500 :: []
    ∧ ((running bench .run 500).link .cl0).notices.length + 1 ≤ 32 ∧ (segment .run 500).issuer = .cl0 := by decide

/-- A MOVE with a stop condition on mode 0 of P2, whose one value it names, and on its second value, which does not exist. -/
theorem test_meets_MoveQueues_condition :
    (∃ g, blockSegment .cl0 7 ((moveBytes 0 100 0 0 0 0).set 10 0x0C |>.set 15 2) 1 = some g
      ∧ g.cond = some ⟨.p2, 0, 0, .below, 0, 0⟩ ∧ ∀ c ∈ g.cond, bench.decides [.p1] c)
    ∧ (∃ g, blockSegment .cl0 7 ((moveBytes 0 100 0 0 0 0).set 10 0x0C |>.set 15 2 |>.set 17 1) 1 = some g
      ∧ ∃ c ∈ g.cond, ¬ bench.decides [.p1] c)
    ∧ bench.decides [.p1] ⟨.p2, 0, 0, .below, 0, 0⟩ ∧ ¬ bench.decides [.p1] ⟨.p1, 0, 0, .below, 0, 0⟩
    ∧ bench.decides [.p1] ⟨.p2, 1, 1, .below, 0, 0⟩ ∧ ¬ bench.decides [.p1] ⟨.p2, 1, 2, .below, 0, 0⟩ := by
  refine ⟨⟨_, rfl, by decide⟩, ⟨_, rfl, by decide⟩, by decide⟩

/-- A MOVE with REPLACE over an active and two waiting segments of the same link. -/
theorem test_move_replaces :
    (((ran (.move .cl0 7 (moveBytes 0 0xD0 7 0 0 1)) (asking ((running bench .run 500).modUnit .p1 fun m => { m with
      queue := m.queue ++ [segment .run 5, segment .run 6] }) .cl0 7 0x30 (moveBytes 0 0xD0 7 0 0 1))).link .cl0).notices.map
        fun n => match n with
          | .segmentEnd e => some e.outcome
          | _ => none) = [some .replaced, some .flushed, some .flushed] := by decide

theorem test_meets_StopEnds :
    (asking bench .cl0 7 0x31 [BitVec.ofNat 8 Port.p1.num, 2]).asked .cl0 7 0x31 [1, 2]
    ∧ EndAction.ofCode (2 : Byte).toNat = some .hold ∧ bench.pairOf .p1 = none ∧ (bench.claim .p1).holder = some .cl0
    ∧ (bench.port .p1).state ∈ [PortState.passive, .active, .describing] ∧ (bench.port .p1).drives = true
    ∧ (bench.port .p1).encoderMotor = true ∧ (bench.unit .p1).halted = false ∧ bench.supply.state ≠ .brownout
    ∧ ((ran .stopLineAssert bench).unit .p1).halted = true
    ∧ ((running bench .run 500).unit .p1).queue = segment .run 500 :: [] ∧ (bench.link .cl0).state = .active
    ∧ (∀ g ∈ ((running bench .run 500).unit .p1).queue, g.issuer = .cl0)
    ∧ ((running bench .run 500).link .cl0).notices.length + ((running bench .run 500).unit .p1).queue.length ≤ 32 := by decide

theorem test_meets_HaltAndResume :
    (∀ p, ((ran .stopLineAssert bench).unit p).halted = true) ∧ (∀ p, (bench.unit p).halted = false)
    ∧ (asking bench .cl0 7 0x34 []).asked .cl0 7 0x34 [] ∧ (ran .stopLineAssert bench).stopLine = true
    ∧ (ran .stopLineRelease (ran .stopLineAssert bench)).stopLine = false
    ∧ ((ran .stopLineRelease (ran .stopLineAssert bench)).unit .p1).halted = true :=
  ⟨fun p => by cases p <;> decide, fun p => by cases p <;> decide, by decide⟩

theorem test_meets_PositionSettings :
    (asking bench .cl0 7 0x32 ([1, 0xFF, 1] ++ List.replicate 17 0xFF)).asked .cl0 7 0x32
        ([1, 0xFF, 1] ++ List.replicate 17 0xFF)
    ∧ ([1, 0xFF, 1] ++ List.replicate 17 (0xFF : Byte)).length = 20
    ∧ portAt ([1, 0xFF, 1] ++ List.replicate 17 0xFF) 0 = some .p1 ∧ bench.pairOf .p1 = none
    ∧ (bench.claim .p1).holder = some .cl0 ∧ (bench.port .p1).state ∈ [PortState.passive, .active, .describing]
    ∧ (bench.port .p1).encoderMotor = true
    ∧ (asking bench .cl0 7 0x33 [1, 1, 2, 3, 4]).asked .cl0 7 0x33 [BitVec.ofNat 8 Port.p1.num, 1, 2, 3, 4]
    ∧ (0x04030201 : BitVec 32) = (4 : Byte) ++ (3 : Byte) ++ (2 : Byte) ++ (1 : Byte)
    ∧ (asking bench .cl0 7 0x38 [6]).asked .cl0 7 0x38 [BitVec.ofNat 8 Port.p6.num]
    ∧ ((running bench .run 500).unit .p1).queue = segment .run 500 :: [] ∧ (bench.unit .p6).queue = []
    ∧ (paired bench).pairOf .p2 = some .q0 := by decide

/-- The state of the worked period, and a clamped duty just short of the stall limit. -/
theorem test_meets_RegulatedRun :
    ((running bench .run 600).pairOf .p1 = none ∧ ((running bench .run 600).unit .p1).motor = .running
      ∧ ((running bench .run 600).unit .p1).queue = segment .run 600 :: []
      ∧ ((running bench .run 600).unit .p1).act = some ⟨0, none, none, 0, .cruise, 0, 0⟩ ∧ (segment .run 600).work = .run)
    ∧ ((0 : Nat) : Int) < truncDiv RegSettings.fresh.stallTime 5 ∧ ((79 : Nat) : Int) < truncDiv RegSettings.fresh.stallTime 5 := by
  decide

/-- P1 RUNNING at 500 counts per second against an obstacle, its duty of 394 clamped at 300, one event from its stall. -/
def stalling (policy : StallPolicy) (rest : List Segment) : State :=
  { (running bench .run 500).modUnit .p1 fun m => { m with
      queue := { segment .run 500 with stall := policy } :: rest, act := some ⟨0, none, none, 79, .cruise, 0, 0⟩
      reg := ⟨500000, 0, 300, true, ⟨0, 0, 0, 0⟩, 0, 0, none⟩ } with
    supply := { bench.supply with s := 300, cv := 300 } }

/-- The equations of the statement at such an event: e 500 at an unchanged integral, u 390, the timer at its limit of 80. -/
theorem test_meets_RegulatedRun_stall :
    (∀ x ∈ [StallPolicy.keepOn, .finish, .abort],
      (stalling x [segment .run 5]).pairOf .p1 = none ∧ ((stalling x [segment .run 5]).unit .p1).motor = .running
      ∧ ((stalling x [segment .run 5]).unit .p1).queue = { segment .run 500 with stall := x } :: [segment .run 5]
      ∧ ((stalling x [segment .run 5]).unit .p1).act = some ⟨0, none, none, 79, .cruise, 0, 0⟩
      ∧ ((stalling x []).unit .p1).queue = { segment .run 500 with stall := x } :: [])
    ∧ clampMag 65535 (((0 : BitVec 32) - 0).toInt * 50) = 0 ∧ mag (500 * 1000 - 500000) ≤ 2000 * 5
    ∧ clampMag 65535 (truncDiv 500000 1000 - 0) = 500 ∧ (0 : Int) < 500 * 300
    ∧ clampMag 1000 (truncDiv (200 * 500) 256 + truncDiv (40 * 0) 4096 + truncDiv (0 * 500) 256) = 390
    ∧ truncDiv (390 * 7200) (max 3000 7200) = 390 ∧ min (1000 : Int) 300 = 300 ∧ (300 : Int) < mag 390
    ∧ mag 0 < max 20 (truncDiv (mag 500) 20) ∧ truncDiv RegSettings.fresh.stallTime 5 ≤ ((79 + 1 : Nat) : Int)
    ∧ (segment .run 5).cond = none := by decide

/-- R68, R91: each policy at that event. -/
theorem test_stall_policies :
    ((ran (.regulationEvent .p1) (stalling .keepOn [])).unit .p1).act = some ⟨0, none, none, 0, .cruise, 0, 0⟩
    ∧ ((ran (.regulationEvent .p1) (stalling .finish [segment .run 5])).unit .p1).queue = [segment .run 5]
    ∧ ((ran (.regulationEvent .p1) (stalling .abort [segment .run 5])).unit .p1).motor = .coasting
    ∧ ((ran (.regulationEvent .p1) (stalling .abort [segment .run 5])).link .cl0).notices.map (fun n => match n with
        | .segmentEnd e => some e.outcome
        | _ => none) = [some .stalled, some .flushed] := by decide

theorem test_meets_OtherRegulation :
    bench.pairOf .p1 = none ∧ (bench.unit .p1).motor = .coasting
    ∧ ((running bench .duty 600).unit .p1).motor = .running ∧ ((running bench .duty 600).unit .p1).queue = segment .duty 600 :: []
    ∧ ((running bench .duty 600).unit .p1).act = some ⟨0, none, none, 0, .cruise, 0, 0⟩
    ∧ (∃ m : MotionUnit, m = { bench.unit .p1 with motor := .holding, hold := some 5, settings := { RegSettings.fresh with ki := 0 } }
        ∧ m.motor = .holding ∧ m.hold = some 5 ∧ m.settings.ki = 0)
    ∧ ((running bench (.runTime 20) 600).unit .p1).queue = [segment (.runTime 20) 600]
    ∧ (segment (.runTime 20) 600).work.time = some 20 ∧ 20 ≤ 20 - 0 ∧ (segment (.runTime 20) 600).endAction = .coast :=
  ⟨by decide, by decide, by decide, by decide, by decide, ⟨_, rfl, by decide⟩, by decide, by decide, by decide, by decide⟩

/-- P1 running to 100 at 500 counts per second, in a phase, at a ramp accumulator. -/
def positioningTo (phase : Phase) (settle : Nat) (dir : Int) (x : BitVec 32) (acc : Int) (rest : List Segment) : State :=
  (running bench (.runTo 100) 500).modUnit .p1 fun m => { m with
    queue := segment (.runTo 100) 500 :: rest, position := x
    act := some ⟨0, none, some 100, 0, phase, settle, dir⟩, reg := { m.reg with acc := acc } }

/-- CRUISE far away, CRUISE at the stopping distance exactly, DECEL still short, past and 3 counts from the target, and SETTLE. -/
theorem test_meets_Positioning :
    (∀ c ∈ [(Phase.cruise, (-9900 : Int), (500000 : Int), (0 : Nat)), (.cruise, 90, 200000, 0), (.decel, 50, 31000, 0),
        (.decel, 103, 31000, 0), (.settle, 97, 0, 2)],
      ((positioningTo c.1 c.2.2.2 1 (BitVec.ofInt 32 c.2.1) c.2.2.1 []).unit .p1).motor = .running
      ∧ ((positioningTo c.1 c.2.2.2 1 (BitVec.ofInt 32 c.2.1) c.2.2.1 []).unit .p1).queue = segment (.runTo 100) 500 :: []
      ∧ ((positioningTo c.1 c.2.2.2 1 (BitVec.ofInt 32 c.2.1) c.2.2.1 []).unit .p1).act
        = some ⟨0, none, some 100, 0, c.1, c.2.2.2, 1⟩
      ∧ (positioningTo c.1 c.2.2.2 1 (BitVec.ofInt 32 c.2.1) c.2.2.1 []).pairOf .p1 = none)
    ∧ (segment (.runTo 100) 500).work.positioning = true ∧ ((0 : Nat) : Int) + 1 < truncDiv RegSettings.fresh.stallTime 5
    ∧ 2 * 2000 * mag (100 - 90) ≤ 200 * (200 : Int) ∧ ¬ 2 * 2000 * mag (100 - 89) ≤ 200 * (200 : Int) ∧ 2 + 1 < 4
    ∧ (3 ≤ 3 ∧ mag ((100 : BitVec 32) - 97).toInt ≤ 3)
    ∧ bench.decides [] ⟨.p2, 0, 0, .above, 5, 0⟩ := by decide

/-- R93 to R95: those five events, by the phase and the accumulator they leave; creep speed is 31. -/
theorem test_positioning_phases :
    [(Phase.cruise, (-9900 : Int), (500000 : Int), (0 : Nat)), (.cruise, 90, 200000, 0), (.decel, 50, 31000, 0),
      (.decel, 103, 31000, 0), (.settle, 97, 0, 2)].map (fun c =>
        let m := (ran (.regulationEvent .p1) (positioningTo c.1 c.2.2.2 1 (BitVec.ofInt 32 c.2.1) c.2.2.1 [])).unit .p1
        (m.act.map Activation.phase, m.act.map Activation.settle, m.reg.acc))
      = [(some .cruise, some 0, 500000), (some .decel, some 0, 190000), (some .decel, some 0, 31000),
        (some .settle, some 1, -12000), (some .settle, some 3, 12000)] := by decide

/-- R71, R73, R95: the fourth event within 3 counts ends the segment DONE and the next one becomes active. -/
theorem test_positioning_done :
    ((ran (.regulationEvent .p1) (positioningTo .settle 3 1 97 12000 [segment .run 5])).unit .p1).queue = [segment .run 5]
    ∧ told (ran (.regulationEvent .p1) (positioningTo .settle 3 1 97 12000 [segment .run 5]))
      = some (.segmentEnd ⟨.p1, none, 9, .runTo, .done, some 97, 0⟩)
    ∧ ((ran (.regulationEvent .p1) (positioningTo .settle 3 1 97 12000 [])).unit .p1).motor = .coasting := by decide

/-- R4, R58, R92: the outputs of a motor at duty 500 and of a LIGHT at 500, in P3. -/
theorem test_outputs :
    ((bench.modUnit .p3 fun m => { m with motor := .running, reg := { m.reg with duty := 500 } }).bridgeOut .p3
      = (.pulsed 600, .low))
    ∧ (bench.modUnit .p3 fun m => { m with motor := .running, reg := { m.reg with duty := 500 } }).txOut .p3 = .protocol
    ∧ (((bench.modPort .p3 fun u => { u with kind := .light }).modUnit .p3 fun m => { m with
        motor := .running, reg := { m.reg with duty := 500 } }).bridgeOut .p3 = (.off, .off))
    ∧ ((bench.modPort .p3 fun u => { u with kind := .light }).modUnit .p3 fun m => { m with
        motor := .running, reg := { m.reg with duty := 500 } }).txOut .p3 = .light (.pulsed 600) := by decide

/-! ### Pairs -/

theorem test_meets_PairForms :
    (asking bench .cl0 7 0x35 [1, 2, 1, 255]).asked .cl0 7 0x35 [BitVec.ofNat 8 Port.p1.num, BitVec.ofNat 8 Port.p2.num, 1, 255]
    ∧ Port.p1 ≠ Port.p2 ∧ (1 : Byte).toNat ≤ 1 ∧ (bench.port .p1).noDevice = false ∧ (bench.port .p2).noDevice = false
    ∧ (bench.port .p1).encoderMotor = true ∧ (bench.port .p2).encoderMotor = true ∧ bench.pairOf .p1 = none
    ∧ bench.pairOf .p2 = none ∧ (bench.unit .p1).queue = [] ∧ (bench.unit .p2).queue = []
    ∧ (bench.claim .p1).holder = some .cl0 ∧ (bench.claim .p2).holder = some .cl0
    ∧ ((bench.setClaim .p1 ⟨none, false⟩).claim .p1).holder = none
    ∧ (PairId.all.find? fun q => (bench.pairAt q).isNone) = some .q0 := by decide

/-- Steering −100, RUN, into an empty queue and behind three segments; and UNPAIR. -/
theorem test_meets_MovePair :
    (asking (paired bench) .cl0 7 0x37 (pairBytes 0 100 0 0 0x9C 0)).asked .cl0 7 0x37 (pairBytes 0 100 0 0 0x9C 0)
    ∧ (pairBytes 0 100 0 0 0x9C 0).length = 29 ∧ byteAt (pairBytes 0 100 0 0 0x9C 0) 0 = PairId.q0.num
    ∧ (paired bench).pairAt .q0 = some ⟨.p1, .p2, 32, [], none, 0, 0⟩ ∧ Port.p1 ≠ Port.p2
    ∧ ((paired bench).claim .p1).holder = some .cl0 ∧ ((paired bench).claim .p2).holder = some .cl0
    ∧ blockSegment .cl0 7 (pairBytes 0 100 0 0 0x9C 0) 1 = some { segment .run 100 with tag := 7 }
    ∧ (-100 : Int) = signedOf 8 (byteAt (pairBytes 0 100 0 0 0x9C 0) 27)
    ∧ placementAt (pairBytes 0 100 0 0 0x9C 0) 28 = some false
    ∧ { segment .run 100 with tag := 7 }.work.kind ∈ [SegKind.run, .runTime, .runBy]
    ∧ ((paired bench).unit .p1).halted = false ∧ ((paired bench).unit .p2).halted = false ∧ (paired bench).supply.state ≠ .brownout
    ∧ (List.replicate 3 (⟨segment .run 5, 0⟩ : PairSegment)).length ≤ 3
    ∧ (asking (paired bench) .cl0 7 0x36 [0]).asked .cl0 7 0x36 [BitVec.ofNat 8 PairId.q0.num] := by decide

/-- A stop condition on a third port, and on a port of the pair. -/
theorem test_meets_MovePair_condition :
    (touched (paired bench)).decides [.p1, .p2] ⟨.p4, 0, 0, .above, 0, 0⟩
    ∧ ¬ (touched (paired bench)).decides [.p1, .p2] ⟨.p2, 0, 0, .above, 0, 0⟩
    ∧ (∃ g, blockSegment .cl0 7 ((pairBytes 0 100 0 0 0 0).set 10 0x0C |>.set 15 4) 1 = some g
      ∧ g.cond = some ⟨.p4, 0, 0, .below, 0, 0⟩) := ⟨by decide, by decide, _, rfl, by decide⟩

/-- The state of the worked correction; the stall timers one event short of the limit of 80. -/
theorem test_meets_PairRegulation :
    ∃ s : State, s = bench.setPair .q0 (some ⟨.p1, .p2, 32, [⟨segment .run 500, 20⟩],
        some ⟨0, none, 3000, 8000, none, .cruise, 0, 78, 0⟩, 0, 0⟩)
      ∧ s.pairOf .p1 = some .q0 ∧ s.pairOf .p2 = some .q0 ∧ (segment .run 500).work = .run
      ∧ ((78 : Nat) : Int) + 1 < truncDiv (s.unit .p1).settings.stallTime 5
      ∧ ((0 : Nat) : Int) + 1 < truncDiv (s.unit .p2).settings.stallTime 5
      ∧ Port.p1 = (if (0 : Int) ≤ 20 then Port.p1 else .p2) ∧ Port.p2 ≠ (if (0 : Int) ≤ 20 then Port.p1 else .p2) :=
  ⟨_, rfl, by decide⟩

/-- A RUN_BY of 1000 in CRUISE, at its stopping distance; one that has travelled its distance; and a RUN_TIME at its time. -/
theorem test_meets_PairRegulation_ends :
    (∃ s, s = pairRunning ⟨segment (.runBy 1000) 500, 0⟩ [] ⟨0, none, 0, 0, some 1000, .cruise, 0, 0, 0⟩ 990 200000
      ∧ s.pairOf .p1 = some .q0
      ∧ s.pairAt .q0 = some ⟨.p1, .p2, 32, [⟨segment (.runBy 1000) 500, 0⟩], some ⟨0, none, 0, 0, some 1000, .cruise, 0, 0, 0⟩,
          0, 0⟩
      ∧ (0 : Int) < (1000 : BitVec 32).toInt * ((1000 : BitVec 32) - (s.unit .p1).position).toInt
      ∧ 2 * 2000 * mag ((1000 : BitVec 32) - (s.unit .p1).position).toInt ≤ (200 : Int) * 200
      ∧ ((0 : Nat) : Int) + 1 < truncDiv (s.unit .p1).settings.stallTime 5)
    ∧ ((1000 : BitVec 32) - 1000).toInt = 0 ∧ (1000 : BitVec 32).toInt * ((1000 : BitVec 32) - 1001).toInt < 0
    ∧ (segment (.runTime 20) 600).work.time = some 20 ∧ (⟨segment .run 5, 0⟩ : PairSegment).seg.cond = none
    ∧ (segment (.runBy 1000) 500).notify = true :=
  ⟨⟨_, rfl, by decide⟩, by decide⟩

/-- R109: a pair's RUN_BY turns to creep speed at the stopping distance, and ends DONE at the target. -/
theorem test_pair_run_by :
    ((ran (.regulationEvent .p1) (pairRunning ⟨segment (.runBy 1000) 500, 0⟩ []
      ⟨0, none, 0, 0, some 1000, .cruise, 0, 0, 0⟩ 990 200000)).unit .p1).reg.acc = 190000
    ∧ ((ran (.regulationEvent .p1) (pairRunning ⟨segment (.runBy 1000) 500, 0⟩ [⟨segment .run 5, 0⟩]
      ⟨0, none, 0, 0, some 1000, .decel, 1, 0, 0⟩ 1000 31000)).pairAt .q0).map (fun r => r.queue)
      = some [⟨segment .run 5, 0⟩]
    ∧ told (ran (.regulationEvent .p1) (pairRunning ⟨segment (.runBy 1000) 500, 0⟩ []
      ⟨0, none, 0, 0, some 1000, .decel, 1, 0, 0⟩ 1000 31000))
      = some (.segmentEnd ⟨.p1, some .q0, 9, .runBy, .done, some 1000, 0⟩) := by decide

/-- Pair 0 RUNNING at 500 with P1 held by an obstacle, one lead event from its stall. -/
def pairStalling (policy : StallPolicy) (rest : List PairSegment) : State :=
  let s := pairRunning ⟨{ segment .run 500 with stall := policy }, 0⟩ rest ⟨0, none, 0, 0, none, .cruise, 0, 79, 0⟩ 0 500000
  { s with supply := { s.supply with s := 300, cv := 300 } }

/-- The equations of the statement at that event: no correction, target 500, integral 500, u 394, the timer at its limit. -/
theorem test_meets_PairRegulation_stall :
    (∀ x ∈ [StallPolicy.keepOn, .finish, .abort],
      (pairStalling x [⟨segment .run 5, 0⟩]).pairOf .p1 = some .q0
      ∧ (pairStalling x []).pairAt .q0 = some ⟨.p1, .p2, 32, [⟨{ segment .run 500 with stall := x }, 0⟩],
          some ⟨0, none, 0, 0, none, .cruise, 0, 79, 0⟩, 0, 0⟩)
    ∧ ((pairStalling .abort []).port .p1).maxSpeed = 1000
    ∧ truncDiv (rampTo 32000000 500000 (500 * 1000) (2000 * 5)) 1000 = 500
    ∧ clampMag 1000 (truncDiv (500 * 100) 100 - 0) = 500 ∧ clampMag (truncDiv 4096000 40) (0 + 500) = 500
    ∧ clampMag 1000 (truncDiv (200 * 500) 256 + truncDiv (40 * 500) 4096 + truncDiv (0 * 500) 256) = 394
    ∧ truncDiv (394 * 7200) (max 3000 7200) = 394 ∧ (300 : Int) < mag 394
    ∧ mag 0 < max 20 (truncDiv (mag (truncDiv (500 * 100) 100)) 20)
    ∧ truncDiv RegSettings.fresh.stallTime 5 ≤ ((79 + 1 : Nat) : Int) := by decide

/-- R110: each policy at that event. -/
theorem test_pair_stall_policies :
    ((ran (.regulationEvent .p1) (pairStalling .keepOn [])).pairAt .q0).map (fun r => r.act.map PairActivation.stallA)
      = some (some 0)
    ∧ ((ran (.regulationEvent .p1) (pairStalling .finish [⟨segment .run 5, 0⟩])).pairAt .q0).map (fun r => r.queue)
      = some [⟨segment .run 5, 0⟩]
    ∧ (ran (.regulationEvent .p1) (pairStalling .abort [⟨segment .run 5, 0⟩])).pairAt .q0
      = some ⟨.p1, .p2, 32, [], none, 0, 0⟩
    ∧ ((ran (.regulationEvent .p1) (pairStalling .abort [])).unit .p2).motor = .coasting := by decide

/-! ### Supply -/

/-- The new state in each of the table's moves, at the boundary values of Vf. -/
theorem test_meets_SupplyStates :
    (7200 : Int) + truncDiv (min 16000 ((7200 : Nat) : Int) - 7200) 8 = 7200
    ∧ (6399 : Int) < bench.supply.vsoft ∧ ¬ (6400 : Int) < bench.supply.vsoft
    ∧ bench.supply.vsoft + 200 ≤ (6600 : Int) ∧ ¬ bench.supply.vsoft + 200 ≤ (6599 : Int)
    ∧ bench.supply.vhard + 400 ≤ (6000 : Int) ∧ min 4 (3 + 1) = 4 ∧ (∀ e ∈ bench.streams, e.key.kind ≠ .supply)
    ∧ (bench.link .cl0).state = .active := by decide

theorem test_meets_SupplyRequests :
    ((asking bench .cl0 7 0x41 [31, 0x20, 0x1C, 0, 0x19, 0xE0, 0x15, 0xA0, 0x0F, 63]).asked .cl0 7 0x41
        [31, 0x20, 0x1C, 0, 0x19, 0xE0, 0x15, 0xA0, 0x0F, 63]
      ∧ ([31, 0x20, 0x1C, 0, 0x19, 0xE0, 0x15, 0xA0, 0x0F, 63] : List Byte).length = 10
      ∧ (byteAt [31, 0x20, 0x1C, 0, 0x19, 0xE0, 0x15, 0xA0, 0x0F, 63] 9 ≤ 63) ∧ (5600 : Int) < 6400 ∧ (6400 : Int) ≤ 7200)
    ∧ ((byteAt [16, 0, 0, 0, 0, 0, 0, 0, 0, 64] 0).testBit 4 = true ∧ 63 < byteAt [16, 0, 0, 0, 0, 0, 0, 0, 0, 64] 9
      ∧ byteAt [16, 0, 0, 0, 0, 0, 0, 0, 0, 64] 9 ≠ 255)
    ∧ (asking bench .cl0 7 0x40 []).asked .cl0 7 0x40 [] := by decide

/-- The warning clip READY at a LOW battery, every voice FREE, and the cases in which nothing plays. -/
theorem test_meets_Warning :
    ∃ s : State, s = { (bench.modStore fun t => { t with directory := [{ clip with id := 0 }] }) with
        supply := { bench.supply with warning := some 0 } }
      ∧ s.supply.warning.isSome = true ∧ s.store.scanning = false ∧ { clip with id := 0 } ∈ s.store.directory
      ∧ s.supply.warnClip = some { clip with id := 0 }.id ∧ clip.state = .ready ∧ clip.marked = false
      ∧ (∀ d ∈ s.store.directory, d.id = { clip with id := 0 }.id → d = { clip with id := 0 })
      ∧ VoiceId.all.find? (fun w => (s.voice w).state == .free) = some .v0 ∧ 1 ≤ clip.clip.samples
      ∧ (∀ e ∈ bench.store.directory, some e.id = bench.supply.warnClip → e.state ≠ .ready ∨ e.marked = true)
      ∧ ∀ w, (s.voice w).state ≠ .free → (s.voice w).owner ≠ some .supply :=
  ⟨_, rfl, by decide, by decide, by decide, by decide, by decide, by decide, by decide, by decide, by decide, by decide,
    fun w => by cases w <;> decide⟩

/-! ### Subscriptions and notices -/

/-- A queue of 31 and of 32, and a held DATA notice of the entry. -/
theorem test_meets_NoticesJoin :
    State.reset.links.cl0.state ≠ .active ∧ activeLink.state = .active
    ∧ ({ activeLink with notices := List.replicate 31 (.streamEnd 1) } : Link).notices.length < 32
    ∧ 32 ≤ ({ activeLink with notices := List.replicate 32 (.streamEnd 1) } : Link).notices.length
    ∧ some 3 ∉ activeLink.notices.map Notice.dataEntry
    ∧ [Notice.streamEnd 1, .data ⟨3, 0, 0, [5]⟩] = [Notice.streamEnd 1] ++ .data ⟨3, 0, 0, [5]⟩ :: []
    ∧ ([Notice.streamEnd 1, .data ⟨3, 0, 0, [5]⟩].filterMap Notice.dataEntry).Nodup
    ∧ (⟨3, 9, 0, [6]⟩ : DataNotice).entry = (⟨3, 0, 0, [5]⟩ : DataNotice).entry := by decide

/-- A stream of CL0 on the supply, interval 10, delta 0. -/
def supplyStream (id interval : Nat) (both : Bool) : StreamEntry :=
  ⟨id, ⟨.supply, none, 0, interval, 0⟩, ⟨true, both⟩, false, none, []⟩

/-- The three kinds of source, an interval below the floor, the joined, the new and the refused entry. -/
theorem test_meets_Subscribe :
    (asking bench .cl0 7 0x50 [3, 0, 0, 9, 0, 0, 0, 0, 0]).asked .cl0 7 0x50 [3, 0, 0, 9, 0, 0, 0, 0, 0]
    ∧ byteAt [3, 0, 0, 9, 0, 0, 0, 0, 0] 0 = SourceKind.supply.code ∧ 9 = wordAt [3, 0, 0, 9, 0, 0, 0, 0, 0] 3
    ∧ longAt [3, 0, 0, 9, 0, 0xFF, 0xFF, 0xFF, 0x7F] 5 ≤ 2147483647 ∧ 10 = min 60000 (max 10 9)
    ∧ ((bench.port .p1).sample.isSome = true
      ∧ (bench.port .p1).modeDesc 1 = some ⟨2, 2, 0, 100, 0, 100, 5, 0⟩ ∧ portAt [0, 1, 1, 9, 0, 0, 0, 0, 0] 1 = some .p1)
    ∧ (portAt [1, 2, 0, 9, 0, 0, 0, 0, 0] 1 = some .p2 ∧ (bench.port .p2).encoderMotor = true)
    ∧ ([supplyStream 0 10 false].find? fun x => x.key == ⟨.supply, none, 0, 10, 0⟩) = some (supplyStream 0 10 false)
    ∧ (∀ e ∈ [supplyStream 0 20 false], e.key ≠ ⟨.supply, none, 0, 10, 0⟩)
    ∧ (∀ e ∈ [supplyStream 0 20 false], e.id ≠ 1) ∧ (∀ x, x < 1 → ∃ e ∈ [supplyStream 0 20 false], e.id = x)
    ∧ ∀ x, x < 24 → ∃ e ∈ (List.range 24).map (fun n => supplyStream n (20 + n) false), e.id = x := by decide

theorem test_meets_Unsubscribe :
    (asking bench .cl0 7 0x51 [23]).asked .cl0 7 0x51 [23] ∧ (supplyStream 23 10 true).id = (23 : Byte).toNat
    ∧ [supplyStream 0 20 false, supplyStream 23 10 true].Pairwise (fun a b => a.id < b.id)
    ∧ (supplyStream 23 10 true).members.get .cl0 = true ∧ (supplyStream 23 10 true).members.get LinkId.cl0.other = true
    ∧ (supplyStream 0 20 false).members.get LinkId.cl0.other = false
    ∧ (asking bench .cl0 7 0x52 [23]).asked .cl0 7 0x52 [23]
    ∧ ([supplyStream 20 20 false, supplyStream 23 10 true].filter fun e => decide ((23 : Byte).toNat ≤ e.id))[0]?
      = some (supplyStream 23 10 true)
    ∧ 4 < ((List.range 5).map fun n => supplyStream n (20 + n) false).length := by decide

/-- Which entries emit, as the statement gives it. -/
def emitting (s : State) (u : Update) (e : StreamEntry) : Prop :=
  e.suspended = false ∧ e.key.kind = u.kind ∧ e.key.port = u.port ∧ e.key.mode = u.mode
    ∧ (e.lastEmit = none ∨ ∃ x, e.lastEmit = some x ∧ e.key.interval ≤ (s.deviceTime - x).toNat
      ∧ (e.key.delta = 0 ∨ ∃ v ∈ e.lastSent.zip u.values, (e.key.delta : Int)
          ≤ (if u.kind = .motorPosition then mag ((BitVec.ofInt 32 v.2 - BitVec.ofInt 32 v.1).toInt) else mag (v.2 - v.1))))

/-- An update of the supply at 10 ms: the one entry emits for the first time, and again exactly at its interval and delta; one
that lacks a millisecond does not. -/
theorem test_meets_StreamsEmit :
    ∃ (s : State) (u : Update), s = { bench with now := 10, streams := [supplyStream 0 10 false] }
      ∧ u = ⟨.supply, none, 0, [45], 0⟩ ∧ emitting s u (supplyStream 0 10 false)
      ∧ emitting s u { supplyStream 0 10 false with
          key := ⟨.supply, none, 0, 10, 5⟩, lastEmit := some 0, lastSent := [40] }
      ∧ ¬ emitting s u { supplyStream 0 10 false with lastEmit := some 1, lastSent := [40] }
      ∧ (supplyStream 0 10 false).members.get .cl0 = true ∧ (supplyStream 0 10 false).members.get .cl1 = false := by
  refine ⟨_, _, rfl, rfl, ⟨by decide, by decide, by decide, by decide, .inl rfl⟩,
    ⟨by decide, by decide, by decide, by decide, .inr ⟨0, by decide, by decide, .inr (by decide)⟩⟩, ?_, by decide, by decide⟩
  rintro ⟨-, -, -, -, h | ⟨x, h, k, -⟩⟩
  · exact absurd h (by decide)
  · obtain rfl : x = 1 := (Option.some.inj h).symm
    exact absurd k (by decide)

/-! ### Clip store -/

theorem test_meets_ScanRebuilds : State.reset.store.scanning = true ∧ State.reset.store.undet = [] := by decide

/-- The 17 parameter bytes of CLIP_BEGIN for the clip of the examples, of 600 bytes. -/
def beginBytes : List Byte := [17, 0x58, 2, 0, 0, 0x40, 0x1F, 0, 0xFF, 0xFF, 0xFF, 0xFF, 0xFF, 0xFF, 0xFF, 0xFF, 200]

theorem test_meets_ClipBegin :
    (asking bench .cl0 7 0x60 beginBytes).asked .cl0 7 0x60 beginBytes ∧ beginBytes.length = 17 ∧ 17 = byteAt beginBytes 0
    ∧ bench.store.scanning = false ∧ bench.store.openEntry = none ∧ bench.store.entry 17 = none
    ∧ clipOf beginBytes = some ⟨.pcm8, 8000, 600, allOnes, allOnes, 200⟩
    ∧ (⟨.pcm8, 8000, 600, allOnes, allOnes, 200⟩ : ClipInfo).valid = true ∧ bench.store.jobs.length < 4
    ∧ bench.store.checkBoundary ≤ 8 ∧ 8 + sectorsFor 600 ≤ 128
    ∧ (∀ i, i < sectorsFor 600 → bench.store.sectorFree (8 + i) = true)
    ∧ (writing 0).store.openEntry.isSome = true := by decide

/-- Every sector below 8, where the boundary stands: the lowest run is at the boundary itself. -/
theorem test_meets_ClipBegin_lowest :
    ∀ k, bench.store.checkBoundary ≤ k → k < 8 → ∃ i, i < sectorsFor 600 ∧ bench.store.sectorFree (k + i) = false := by
  intro k h1 h2
  have e : bench.store.checkBoundary = 8 := by decide
  omega

/-- No room: a clip over the whole array above the boundary. -/
theorem test_meets_ClipBegin_full :
    ∀ k, (bench.modStore fun t => { t with directory := [⟨1, .ready, 8, 120, clip.clip, false⟩] }).store.checkBoundary ≤ k →
      k + sectorsFor 600 ≤ 128 → ∃ i, i < sectorsFor 600
        ∧ (bench.modStore fun t => { t with directory := [⟨1, .ready, 8, 120, clip.clip, false⟩] }).store.sectorFree (k + i)
          = false := by
  intro k h1 h2
  have e : (bench.modStore fun t => { t with directory := [⟨1, .ready, 8, 120, clip.clip, false⟩] }).store.checkBoundary = 8 := by
    decide
  have n : sectorsFor 600 = 1 := by decide
  rw [e] at h1
  rw [n] at h2
  refine ⟨0, by decide, ?_⟩
  simp [Store.sectorFree, DirEntry.covers, State.modStore, State.setStore]
  omega

/-- CLIP_DATA at 0 that stays in the first page, at 168 that fills it exactly, and with four jobs queued. -/
theorem test_meets_ClipData :
    (asking (writing 168) .cl0 7 0x61 ([168, 0, 0, 0, 56] ++ List.replicate 56 1)).asked .cl0 7 0x61
        ([168, 0, 0, 0, 56] ++ List.replicate 56 1)
    ∧ 168 = longAt ([168, 0, 0, 0, 56] ++ List.replicate 56 1) 0 ∧ 56 = byteAt ([168, 0, 0, 0, 56] ++ List.replicate 56 1) 4
    ∧ ([168, 0, 0, 0, 56] ++ List.replicate 56 (1 : Byte)).length = 5 + 56 ∧ (writing 168).store.scanning = false
    ∧ (writing 168).store.ctx = some ⟨.cl0, 17, 168, List.replicate 256 0xFF, false⟩
    ∧ (writing 168).store.writing = some writingEntry ∧ 168 + 56 ≤ writingEntry.clip.length
    ∧ (32 + 0) % 256 + 56 < 256 ∧ 256 ≤ (32 + 168) % 256 + 56 ∧ (writing 168).store.jobs.length < 4
    ∧ 4 ≤ (List.replicate 4 (job (.remove 9) none)).length ∧ (List.replicate 256 (0xFF : Byte)).length = 256 := by
  decide +kernel

theorem test_meets_StoreRequests :
    ((asking (writing 600) .cl0 7 0x62 [17]).asked .cl0 7 0x62 [17] ∧ (17 : Byte).toNat ≤ 63
      ∧ (writing 600).store.ctx = some ⟨.cl0, 17, 600, List.replicate 256 0xFF, false⟩
      ∧ (writing 600).store.writing = some writingEntry ∧ writingEntry.id = (17 : Byte).toNat
      ∧ writingEntry.clip.length ≤ 600 ∧ (writing 600).store.jobs.length < 4)
    ∧ ((asking (stocked bench) .cl0 7 0x63 [5]).asked .cl0 7 0x63 [5] ∧ (stocked bench).store.entry 5 = some clip
      ∧ clip.state = .ready ∧ (stocked bench).store.checkBoundary ≤ clip.first ∧ (stocked bench).clipPlaying 5 = false
      ∧ (sounding (stocked bench) .v0 (clipVoice none 0 0)).clipPlaying 5 = true ∧ clip.marked = false
      ∧ (7 : Nat) < (stocked bench).store.checkBoundary)
    ∧ (asking bench .cl0 7 0x65 [128, 2]).asked .cl0 7 0x65 [128, 2] ∧ (128 : Byte).toNat ≤ 128 ∧ (2 : Byte).toNat ≤ 2
    ∧ (∀ e ∈ bench.store.directory, e.state = .ready) ∧ bench.store.standing = (8, false)
    ∧ (128, false) ≠ bench.store.standing
    ∧ (bench.modStore fun t => { t with heldLock := true }).store.standing.2 = true := by decide +kernel

theorem test_meets_Operations :
    (∃ s : State, s = bench.modStore (fun t => { t with jobs := [job (.remove 9) (some 5)] })
      ∧ s.store.activity = .idle ∧ s.store.readWaits = false ∧ s.store.jobRunning = false ∧ s.store.cleanup = false
      ∧ s.store.jobs = job (.remove 9) (some 5) :: [] ∧ (JobKind.remove 9).work = .eraseSector 9 :: [])
    ∧ (bench.modStore fun t => { t with directory := [{ clip with state := .abandoned }] }).store.abandonedEntry
      = some { clip with state := .abandoned }
    ∧ (∃ s : State, s = bench.modStore (fun t => { t with
        array := [(4, 0x0F)], activity := .programming, opInHand := some (.program 524284 [1, 2, 3, 4]) })
      ∧ s.store.activity = .programming ∧ s.store.opInHand = some (.program 524284 [1, 2, 3, 4])
      ∧ Memory.wf s.store.array ∧ 524284 + ([1, 2, 3, 4] : List Byte).length ≤ 524288)
    ∧ (∃ s : State, s = bench.modStore (fun t => { t with
        directory := [{ clip with state := .abandoned }], activity := .erasing, opInHand := some (.eraseSector 8), cleanup := true })
      ∧ s.store.activity = .erasing ∧ s.store.suspending = false ∧ s.store.opInHand = some (.eraseSector 8)
      ∧ s.store.cleanup = true ∧ s.store.jobRunning = false ∧ s.store.work = [] ∧ s.store.readWaits = false
      ∧ s.store.abandonedEntry = some { clip with state := .abandoned }) :=
  ⟨⟨_, rfl, by decide⟩, by decide, ⟨_, rfl, by decide⟩, ⟨_, rfl, by decide⟩⟩

/-- A REMOVE at its last operation, an INFO with one to come, and a read that waits. -/
theorem test_meets_JobsComplete :
    (∃ s : State, s = bench.modStore (fun t => { t with
        activity := .erasing, opInHand := some (.eraseSector 9), jobRunning := true, jobs := [job (.remove 9) (some 5)] })
      ∧ s.store.activity = .erasing ∧ s.store.suspending = false ∧ s.store.opInHand = some (.eraseSector 9)
      ∧ s.store.cleanup = false ∧ s.store.jobRunning = true ∧ s.store.jobs = job (.remove 9) (some 5) :: []
      ∧ s.store.work = [] ∧ s.store.readWaits = false)
    ∧ (∃ s : State, s = bench.modStore (fun t => { t with
        activity := .programming, opInHand := some (.program 32768 [1]), work := [.program 33024 [2]], jobRunning := true
        jobs := [job (.page 32768 [1] 224) (some 17)], reads := [⟨⟨.cl0, 1, 7, 0x66⟩, 32, 8⟩] })
      ∧ s.store.activity = .programming ∧ s.store.opInHand = some (.program 32768 [1])
      ∧ s.store.work = .program 33024 [2] :: [] ∧ s.store.readWaits = true
      ∧ (s.modStore fun t => { t with reads := [] }).store.readWaits = false) := ⟨⟨_, rfl, by decide⟩, ⟨_, rfl, by decide⟩⟩

/-- Each kind of job at its last operation, of a clip and abandoned; the read behind which a last PAGE completes. -/
theorem test_meets_JobsComplete_kinds :
    (∀ k ∈ [JobKind.prepare 8 1 [1], .page 32800 [1] 56, .seal 8 none, .remove 8, .info 3 true], ∀ a ∈ [false, true],
      ∃ s : State, s = (writing 600).modStore (fun t => { t with
          activity := .programming, opInHand := some (.program 32768 [1]), jobRunning := true
          jobs := [{ job k (some 17) with abandoned := a }] })
        ∧ s.store.opInHand = some (.program 32768 [1]) ∧ s.store.cleanup = false ∧ s.store.jobRunning = true
        ∧ s.store.jobs = [{ job k (some 17) with abandoned := a }] ∧ s.store.work = [] ∧ s.store.readWaits = false
        ∧ s.store.entry 17 = some writingEntry)
    ∧ ∃ s : State, s = bench.modStore (fun t => { t with
        activity := .reading, reading := some (.clipRead ⟨⟨.cl0, 1, 7, 0x66⟩, 32, 8⟩), jobRunning := true
        jobs := [job (.page 32768 [1] 224) (some 17)] })
      ∧ s.store.reading = some (.clipRead ⟨⟨.cl0, 1, 7, 0x66⟩, 32, 8⟩) ∧ s.store.readWaits = false
      ∧ s.store.opInHand = none ∧ s.store.work = [] ∧ s.store.cleanup = false ∧ s.store.jobRunning = true
      ∧ s.store.jobs = [job (.page 32768 [1] 224) (some 17)]
      ∧ ((after (exec .arrayReadComplete s) s).link .cl0).replies.map (fun r => (r.tag, r.payload.length)) = [(7, 8), (3, 4)]
      ∧ (after (exec .arrayReadComplete s) s).store.jobs = [] := by
  refine ⟨fun k _ a _ => ⟨_, rfl, rfl, rfl, rfl, rfl, rfl, rfl, rfl⟩, _, rfl, by decide⟩

/-- R154, R155: the SEAL makes its entry READY and answers with the span; the INFO job sets B and the lock. -/
theorem test_jobs_complete :
    (∃ s : State, s = (writing 600).modStore (fun t => { t with
        activity := .programming, opInHand := some (.program 32799 [0]), jobRunning := true, jobs := [job (.seal 8 none) (some 17)] })
      ∧ said (after (exec .programComplete s) s) = some (.ok, [17, 8, 1])
      ∧ (after (exec .programComplete s) s).store.directory = [{ writingEntry with state := .ready }])
    ∧ (∃ s : State, s = bench.modStore (fun t => { t with
        activity := .programming, opInHand := some (.programInfo 3 true), jobRunning := true, jobs := [job (.info 3 true) none] })
      ∧ said (after (exec .programComplete s) s) = some (.ok, [3, 1])
      ∧ ((after (exec .programComplete s) s).store.heldB, (after (exec .programComplete s) s).store.heldLock) = (3, true)) :=
  ⟨⟨_, rfl, by decide⟩, _, rfl, by decide⟩

/-- No job and no cleanup in progress, and a command that begins a job. -/
theorem test_meets_Operations_apart :
    ¬ (bench.store.cleanup = true ∧ bench.store.jobRunning = true) ∧ ∃ t, exec .jobStart bench = .next t :=
  ⟨by decide, _, rfl⟩

theorem test_meets_ClipReads :
    (asking bench .cl0 7 0x64 [63]).asked .cl0 7 0x64 [63]
    ∧ (asking (stocked bench) .cl0 7 0x66 [5, 0x20, 2, 0, 0, 56]).asked .cl0 7 0x66 [5, 0x20, 2, 0, 0, 56]
    ∧ (stocked bench).store.entry (byteAt [5, 0x20, 2, 0, 0, 56] 0) = some clip ∧ clip.state = .ready ∧ clip.marked = false
    ∧ longAt [5, 0x20, 2, 0, 0, 56] 1 + byteAt [5, 0x20, 2, 0, 0, 56] 5 ≤ clip.clip.length
    ∧ (stocked bench).store.activity = .idle ∧ (stocked bench).store.readWaits = false
    ∧ (∃ t : Store, t = { (stocked bench).store with activity := .erasing, opInHand := some (.eraseSector 9), eraseRun := 1 }
      ∧ t.activity = .erasing ∧ 1 ≤ t.eraseRun ∧ ({ t with eraseRun := 0 } : Store).eraseRun = 0) :=
  ⟨by decide, by decide, by decide, by decide, by decide, by decide, by decide, by decide, _, rfl, by decide⟩

/-- CLIP_INFO with an open clip, and with three entries from the id asked for. -/
theorem test_meets_ClipInfo :
    (writing 56).store.openEntry = some writingEntry ∧ bench.store.openEntry = none
    ∧ ([clip, { clip with id := 6 }, { clip with id := 7 }].filter fun e => decide ((5 : Byte).toNat ≤ e.id))[1]?
      = some { clip with id := 6 }
    ∧ 2 < [clip, { clip with id := 6 }, { clip with id := 7 }].length := by decide

/-- R186: one entry in 21 bytes, but for its state (a free code, log entry 9): no mark, sector 8, one sector, PCM8, 8000, 600. -/
theorem test_clip_info_entry :
    (said (ran (.clipInfo .cl0 7 [0] false) (asking (stocked bench) .cl0 7 0x64 [0]))).map (fun r => r.2.drop 14)
      = some ([0, 8, 1, 0, 0x40, 0x1F, 0x58, 2, 0, 0] ++ List.replicate 8 0xFF ++ [200, 0xFF]) := by decide +kernel

/-- A suspended erase with nothing to read, with a CLIP_READ, and with a fetch of one voice. -/
theorem test_meets_Suspension :
    (∃ t : Store, t = { bench.store with activity := .erasing, suspending := true, opInHand := some (.eraseSector 9) }
      ∧ t.activity = .erasing ∧ t.suspending = true ∧ (∀ v, t.fetches.get v = none) ∧ t.reads = [] ∧ t.opInHand.isSome = true
      ∧ ({ t with reads := [⟨⟨.cl0, 1, 7, 0x66⟩, 32, 8⟩] } : Store).readWaits = true
      ∧ ({ t with fetches := t.fetches.set .v2 (some ⟨.h0, 0, 32⟩) } : Store).fetches.get .v2 = some ⟨.h0, 0, 32⟩
      ∧ ∀ w, w ≠ .v2 → (({ t with fetches := t.fetches.set .v2 (some ⟨.h0, 0, 32⟩) } : Store).fetches.get w).isSome = false) :=
  ⟨_, rfl, by decide, by decide, fun v => by cases v <;> decide, by decide, by decide, by decide, by decide,
    fun w => by cases w <;> decide⟩

/-- A CLIP_READ being served at the end of the array, and the first fetch of a STARTING voice. -/
theorem test_meets_ReadCompletes :
    (∃ s : State, s = bench.modStore (fun t => { t with
        activity := .reading, reading := some (.clipRead ⟨⟨.cl0, 1, 7, 0x66⟩, 524287, 1⟩) })
      ∧ s.store.reading = some (.clipRead ⟨⟨.cl0, 1, 7, 0x66⟩, 524287, 1⟩) ∧ s.store.readWaits = false ∧ s.store.undet = []
      ∧ s.store.opInHand = none ∧ s.store.work = [] ∧ s.store.jobs = [] ∧ s.store.jobRunning = false)
    ∧ ∃ s : State, s = (sounding bench .v0 { clipVoice none 0 0 with state := .starting, half0 := ⟨0, .fetching, []⟩ }).modStore
        (fun t => { t with activity := .reading, reading := some (.fetch .v0 ⟨.h0, 0, 32800⟩) })
      ∧ s.store.reading = some (.fetch .v0 ⟨.h0, 0, 32800⟩) ∧ (s.voice .v0).state = .starting
      ∧ Half.h0 = (s.voice .v0).playing ∧ (s.voice .v0).half .h0 = ⟨0, .fetching, []⟩ := ⟨⟨_, rfl, by decide⟩, ⟨_, rfl, by decide⟩⟩

/-- The first fetch of a STARTING voice whose clip has one block: with no job in progress, with one that has an operation in hand,
one to come or a read before it, and with a PAGE that has none left, which then completes. -/
theorem test_meets_ReadCompletes_jobs :
    ∃ s : State, s = (sounding bench .v0 { clipVoice none 0 0 with
        state := .starting, source := some (.clip 5 8 .pcm8 256 none), half0 := ⟨0, .fetching, []⟩ }).modStore
        (fun t => { t with
          activity := .reading, reading := some (.fetch .v0 ⟨.h0, 0, 32800⟩), jobRunning := true
          jobs := [job (.page 32768 [1] 224) (some 17)] })
      ∧ s.store.reading = some (.fetch .v0 ⟨.h0, 0, 32800⟩) ∧ (s.voice .v0).state = .starting
      ∧ Half.h0 = (s.voice .v0).playing ∧ (s.voice .v0).half .h0 = ⟨0, .fetching, []⟩
      ∧ (s.voice .v0).source = some (.clip 5 8 .pcm8 256 none) ∧ 256 ≤ blockSamples .pcm8 ∧ (s.voice .v0).loops = 0
      ∧ ((s.voice .v0).half Half.h0.other).fill ≠ .fetching ∧ s.store.readWaits = false ∧ s.store.jobRunning = true
      ∧ s.store.opInHand = none ∧ s.store.work = [] ∧ s.store.jobs = job (.page 32768 [1] 224) (some 17) :: []
      ∧ (s.modStore fun t => { t with jobRunning := false }).store.jobRunning = false
      ∧ (s.modStore fun t => { t with opInHand := some (.eraseSector 9) }).store.opInHand.isSome = true
      ∧ (s.modStore fun t => { t with work := [.program 33024 [2]] }).store.work ≠ []
      ∧ (s.modStore fun t => { t with reads := [⟨⟨.cl0, 1, 7, 0x66⟩, 32, 8⟩] }).store.readWaits = true
      ∧ (after (exec .arrayReadComplete s) s).store.jobs = []
      ∧ said (after (exec .arrayReadComplete s) s) = some (.ok, [224, 0, 0, 0]) := ⟨_, rfl, by decide⟩

/-! ### Sound -/

/-- PLAY's parameters: a tone of 8000 Hz for 1 ms at priority 7, and clip 5 at its own rate. -/
theorem test_meets_Play :
    (asking bench .cl0 7 0x70 [1, 0, 0x40, 0x1F, 0, 1, 0, 7, 3, 9]).asked .cl0 7 0x70 [1, 0, 0x40, 0x1F, 0, 1, 0, 7, 3, 9]
    ∧ byteAt [1, 0, 0x40, 0x1F, 0, 1, 0, 7, 3, 9] 0 = 1 ∧ 7 = byteAt [1, 0, 0x40, 0x1F, 0, 1, 0, 7, 3, 9] 7
    ∧ wordAt [1, 0, 0x40, 0x1F, 0, 1, 0, 7, 3, 9] 5 ≠ 0 ∧ State.reset.store.scanning = true ∧ bench.store.scanning = false
    ∧ ({ bench.supply with state := .brownout } : Supply).state = .brownout ∧ bench.supply.state ≠ .brownout
    ∧ VoiceId.all.find? (fun w => (bench.voice w).state == .free) = some .v0
    ∧ byteAt [0, 63, 0, 0, 0, 0, 0, 0, 0, 0] 1 ≤ 63
    ∧ (∀ e ∈ bench.store.directory, e.id = byteAt [0, 63, 0, 0, 0, 0, 0, 0, 0, 0] 1 → e.state ≠ .ready ∨ e.marked = true)
    ∧ (stocked bench).store.readyClip (byteAt [0, 5, 0, 0, 0, 0, 0, 0, 0, 0] 1) = some clip
    ∧ (stocked bench).store.fetches.get .v0 = none ∧ (stocked bench).store.reading = none := by decide

/-- Every voice busy at priority 7; and one of them older than the rest of its priority. -/
theorem test_meets_Play_steals :
    ∃ s : State, s = { bench with sound := { bench.sound with voices :=
        ⟨{ toneVoice 440 16 with priority := 7, order := 2 }, { toneVoice 440 16 with priority := 7, order := 1 },
          { toneVoice 440 16 with priority := 7, order := 3 }, { toneVoice 440 16 with priority := 7, order := 4 }⟩ } }
      ∧ (∀ v, (s.voice v).state ≠ .free ∧ 6 < (s.voice v).priority) ∧ (s.voice .v1).priority ≤ 7
      ∧ (∀ w, w ≠ .v1 → (s.voice .v1).priority < (s.voice w).priority
          ∨ ((s.voice .v1).priority = (s.voice w).priority ∧ (s.voice .v1).order.toNat < (s.voice w).order.toNat)) :=
  ⟨_, rfl, fun v => by cases v <;> decide, by decide, fun w => by cases w <;> decide⟩

theorem test_meets_VoiceRequests :
    (asking bench .cl0 7 0x71 [3]).asked .cl0 7 0x71 [3] ∧ 3 < (4 : Byte).toNat ∧ VoiceId.v3.num = (3 : Byte).toNat
    ∧ (bench.voice .v3).state = .free ∧ ((sounding bench .v3 (toneVoice 440 16)).voice .v3).state ≠ .free
    ∧ ((sounding bench .v3 (toneVoice 440 16)).voice .v3).owner = some (.link .cl0)
    ∧ (asking bench .cl0 7 0x72 [255]).asked .cl0 7 0x72 [255] ∧ (asking bench .cl0 7 0x73 []).asked .cl0 7 0x73 [] := by decide

/-- Tones with two samples left and one, no voice PLAYING, and the last voice the only one. -/
theorem test_meets_OutputSample_tones :
    (∀ v, ((sounding bench .v1 (toneVoice 440 2)).voice v).state = .playing →
      2 ≤ ((sounding bench .v1 (toneVoice 440 2)).voice v).left
        ∧ ∃ freq, ((sounding bench .v1 (toneVoice 440 2)).voice v).source = some (.tone freq))
    ∧ (∀ v, (bench.voice v).state ≠ .playing)
    ∧ ((sounding bench .v1 (toneVoice 440 1)).voice .v1).left = 1
    ∧ (∀ w, w ≠ .v1 → ((sounding bench .v1 (toneVoice 440 1)).voice w).state ≠ .playing) :=
  ⟨fun v => by
      cases v
      · exact fun h => absurd h (by decide)
      · exact fun _ => ⟨by decide, 440, by decide⟩
      · exact fun h => absurd h (by decide)
      · exact fun h => absurd h (by decide),
    fun v => by cases v <;> decide, by decide, fun w => by cases w <;> decide⟩

/-- A clip voice in its block, at its last sample, at the last sample of its loop region, and with no block of its index. -/
theorem test_meets_OutputSample_clip :
    (∀ w, w ≠ .v1 → ((sounding bench .v1 (clipVoice none 0 0)).voice w).state ≠ .playing)
    ∧ ((clipVoice none 0 0).half (clipVoice none 0 0).playing).fill = .filled
    ∧ ((clipVoice none 255 0).half .h0).block = 255 / blockSamples .pcm8
    ∧ ((clipVoice none 0 0).position + (clipVoice none 0 0).step) / 65536 < 600
    ∧ 600 ≤ ((clipVoice none 599 0).position + (clipVoice none 599 0).step) / 65536
    ∧ ((clipVoice (some (256, 384)) 383 2).position + (clipVoice (some (256, 384)) 383 2).step) / 65536 = 384
    ∧ (∀ h, (({ clipVoice none 0 0 with position := 256 * 65536 } : Voice).half h).fill = .filled →
      (({ clipVoice none 0 0 with position := 256 * 65536 } : Voice).half h).block ≠ 256 / blockSamples .pcm8) :=
  ⟨fun w => by cases w <;> decide, by decide, by decide, by decide, by decide, by decide, fun h => by cases h <;> decide⟩

/-! ### The invariants -/

/-- A state far from reset that meets every invariant and answers a next state. -/
theorem test_meets_EveryStepKeeps :
    ∃ s : State, s = running (stocked (sounding bench .v0 (toneVoice 440 16))) .run 500
      ∧ s.store.inv ∧ s.driveInv ∧ s.haltInv ∧ s.countInv ∧ s.motionInv ∧ s.streamInv ∧ (∀ l, (s.link l).inv)
      ∧ (∀ p, (s.port p).inv) ∧ ∃ t, step { s with pending := [.regulationEvent .p1] } = .next t :=
  ⟨_, rfl, by decide, by decide, by decide, by decide, by decide, by decide, fun l => by cases l <;> decide,
    fun p => by cases p <;> decide, _, rfl⟩

end Sys2Proof.Tests
end

section
/-! What a link keeps while notices and replies are added to its queues, and what the operations of the motion units and
pairs can do, said once each. -/

namespace Sys2Proof.Machine

/-! ## Links whose queues are only added to (R133, R137, R175) -/

/-- A link goes from `k` to `j` by replies, event notices and DATA notices put into its queues, and by DATA notices whose
stream ended taken out with a STREAM_END in the place: its stay in ACTIVE goes on, no reply and no event notice is lost,
NOTICE_LOST stays set, and a full notice queue stays full. -/
structure Link.Grows (k j : Link) : Prop where
  state : j.state = k.state
  activation : j.activation = k.activation
  replies : ∀ r ∈ k.replies, r ∈ j.replies
  events : ∀ n ∈ k.notices, n.dataEntry = none → n ∈ j.notices
  lost : k.sticky.noticeLost = true → j.sticky.noticeLost = true
  distinct : (k.notices.filterMap Notice.dataEntry).Nodup → (j.notices.filterMap Notice.dataEntry).Nodup
  full : k.state = .active → (k.notices.filterMap Notice.dataEntry).Nodup → 32 ≤ k.notices.length → 32 ≤ j.notices.length

theorem Link.Grows.refl (k : Link) : k.Grows k :=
  ⟨rfl, rfl, fun _ h => h, fun _ h _ => h, fun h => h, fun h => h, fun _ _ h => h⟩

theorem Link.Grows.trans {k j i : Link} (a : k.Grows j) (b : j.Grows i) : k.Grows i where
  state := b.state.trans a.state
  activation := b.activation.trans a.activation
  replies r h := b.replies r (a.replies r h)
  events n h e := b.events n (a.events n h e) e
  lost h := b.lost (a.lost h)
  distinct h := b.distinct (a.distinct h)
  full s d h := b.full (a.state.trans s) (a.distinct d) (a.full s d h)

theorem Link.grows_pushEvent {n : Notice} (e : n.dataEntry = none) (k : Link) : k.Grows (k.pushEvent n) := by
  obtain ⟨h, -⟩ | ⟨h, -, -⟩ | ⟨h, -, -⟩ := Link.pushEvent_cases n k <;> rw [h]
  · exact .refl k
  · refine ⟨rfl, rfl, fun _ h => h, fun m h _ => by simp [h], fun h => h, fun h => ?_, fun _ _ h => ?_⟩
    · simpa [List.filterMap_append, e] using h
    · simp only [List.length_append]; omega
  · exact ⟨rfl, rfl, fun _ h => h, fun _ h _ => h, fun _ => rfl, fun h => h, fun _ _ h => h⟩

/-- A link that is ACTIVE holds an event notice just sent to it, or its queue is full and NOTICE_LOST is set (R133). -/
theorem Link.pushEvent_arrives (n : Notice) {k : Link} (a : k.state = .active) :
    (k.pushEvent n).notices.getLast? = some n
      ∨ (k.pushEvent n).sticky.noticeLost = true ∧ 32 ≤ (k.pushEvent n).notices.length := by
  obtain ⟨-, h⟩ | ⟨h, -, -⟩ | ⟨h, -, g⟩ := Link.pushEvent_cases n k
  · exact absurd a h
  · rw [h]; simp
  · rw [h]; exact .inr ⟨rfl, g⟩

theorem Notice.isDataFor_eq_true {m : Nat} {n : Notice} : n.isDataFor m = true ↔ n.dataEntry = some m := by
  cases n <;> simp [Notice.isDataFor, Notice.dataEntry]

@[simp] theorem Notice.dataEntry_replaceData (d : DataNotice) (n : Notice) :
    (Notice.replaceData d n).dataEntry = n.dataEntry := by
  cases n with
  | data x =>
    by_cases h : x.entry = d.entry
    · simp [Notice.replaceData, Notice.dataEntry, h]
    · simp [Notice.replaceData, Notice.dataEntry, h]
  | _ => rfl

theorem Notice.replaceData_of_event (d : DataNotice) {n : Notice} (h : n.dataEntry = none) : Notice.replaceData d n = n := by
  cases n with
  | data x => cases h
  | _ => rfl

/-- A DATA notice put into a link's queue, in place or at its end (R133). -/
theorem Link.grows_pushData (d : DataNotice) (k : Link) : k.Grows (k.pushData d) := by
  unfold Link.pushData
  split
  · split
    · refine ⟨rfl, rfl, fun _ h => h, fun n h e => ?_, fun h => h, fun h => ?_, fun _ _ h => by simpa using h⟩
      · exact List.mem_map.mpr ⟨n, h, Notice.replaceData_of_event d e⟩
      · simpa [List.filterMap_map, Function.comp_def] using h
    · rename_i new
      split
      · refine ⟨rfl, rfl, fun _ h => h, fun n h _ => by simp [h], fun h => h, fun h => ?_, fun _ _ h => ?_⟩
        · have fresh : d.entry ∉ k.notices.filterMap Notice.dataEntry := by
            intro m
            obtain ⟨n, hn, e⟩ := List.mem_filterMap.mp m
            exact new (List.any_eq_true.mpr ⟨n, hn, Notice.isDataFor_eq_true.mpr e⟩)
          rw [List.filterMap_append, List.nodup_append]
          refine ⟨h, by simp [Notice.dataEntry], fun a ha b hb => ?_⟩
          obtain rfl : b = d.entry := by simpa [Notice.dataEntry] using hb
          exact fun e => fresh (e ▸ ha)
        · simp only [List.length_append]; omega
      · exact .refl k
  · exact .refl k

/-- With no two DATA notices of one entry, the end of a stream takes at most one message out of a queue. -/
theorem length_filter_isDataFor (m : Nat) (ns : List Notice) (d : (ns.filterMap Notice.dataEntry).Nodup) :
    ns.length ≤ (ns.filter fun n => !n.isDataFor m).length + 1 := by
  induction ns with
  | nil => simp
  | cons n rest ih =>
    by_cases h : n.isDataFor m = true
    · have e := Notice.isDataFor_eq_true.mp h
      rw [List.filterMap_cons_some e, List.nodup_cons] at d
      have others : rest.filter (fun n => !n.isDataFor m) = rest := by
        refine List.filter_eq_self.mpr fun x hx => ?_
        have : x.dataEntry ≠ some m := fun g => d.1 (List.mem_filterMap.mpr ⟨x, hx, g⟩)
        simpa [← Notice.isDataFor_eq_true] using this
      simp [h, others]
    · have tail : (rest.filterMap Notice.dataEntry).Nodup := by
        cases e : n.dataEntry with
        | none => rwa [List.filterMap_cons_none e] at d
        | some x => rw [List.filterMap_cons_some e] at d; exact (List.nodup_cons.mp d).2
      have := ih tail
      simp only [Bool.not_eq_true] at h
      simp [h]
      omega

/-- The end of a stream for one member: its DATA notice leaves and STREAM_END comes (R137). -/
theorem Link.grows_endStream (m : Nat) (k : Link) : k.Grows ((k.dropData m).pushEvent (.streamEnd m)) := by
  have dropped : (k.dropData m).notices = k.notices.filter fun n => !n.isDataFor m := rfl
  have event : ∀ n ∈ k.notices, n.dataEntry = none → n ∈ (k.dropData m).notices := by
    intro n h e
    refine List.mem_filter.mpr ⟨h, ?_⟩
    cases n with
    | data x => cases e
    | _ => rfl
  have distinct : (k.notices.filterMap Notice.dataEntry).Nodup →
      ((k.dropData m).notices.filterMap Notice.dataEntry).Nodup :=
    fun h => h.sublist (List.filter_sublist.filterMap _)
  have push := Link.grows_pushEvent (n := .streamEnd m) rfl (k.dropData m)
  refine ⟨push.state, push.activation, push.replies, fun n h e => push.events n (event n h e) e, push.lost,
    fun h => push.distinct (distinct h), fun a d h => ?_⟩
  have few := length_filter_isDataFor m k.notices d
  rw [← dropped] at few
  obtain ⟨-, g⟩ | ⟨g, -, -⟩ | ⟨g, -, r⟩ := Link.pushEvent_cases (.streamEnd m) (k.dropData m)
  · exact absurd a g
  · rw [g]; simp only [List.length_append, List.length_singleton]; omega
  · rw [g]; exact r

/-! ### The same of all links of a state -/

/-- Every link grows. -/
def State.LinksGrow (s t : State) : Prop := ∀ l, (s.link l).Grows (t.link l)

theorem State.LinksGrow.refl (s : State) : s.LinksGrow s := fun l => .refl (s.link l)

theorem State.LinksGrow.trans {s t u : State} (a : s.LinksGrow t) (b : t.LinksGrow u) : s.LinksGrow u :=
  fun l => (a l).trans (b l)

theorem State.LinksGrow.of_links {s t : State} (h : t.links = s.links) : s.LinksGrow t :=
  fun l => by rw [show t.link l = s.link l from congrArg (Two.get · l) h]; exact .refl _

theorem State.linksGrow_modLink (s : State) (l : LinkId) {f : Link → Link} (h : (s.link l).Grows (f (s.link l))) :
    s.LinksGrow (s.modLink l f) := by
  intro i
  rw [State.modLink_link]
  split
  · rename_i e; subst e; exact h
  · exact .refl _

theorem State.linksGrow_notify (s : State) (l : LinkId) {n : Notice} (e : n.dataEntry = none) :
    s.LinksGrow (s.notify l n) := s.linksGrow_modLink l (Link.grows_pushEvent e _)

theorem State.linksGrow_notifyAll (s : State) {n : Notice} (e : n.dataEntry = none) : s.LinksGrow (s.notifyAll n) :=
  (s.linksGrow_notify .cl0 e).trans (State.linksGrow_notify _ .cl1 e)

theorem State.linksGrow_answer (s : State) (r : ReplyTo) (st : Status) (payload : List Byte) :
    s.LinksGrow (s.answer r st payload) := by
  unfold State.answer
  split
  · exact s.linksGrow_modLink r.link
      ⟨rfl, rfl, fun _ h => by simp [h], fun _ h _ => h, fun h => h, fun h => h, fun _ _ h => h⟩
  · exact .refl s

theorem State.linksGrow_endStreamFor (s : State) (e : StreamEntry) (l : LinkId) : s.LinksGrow (s.endStreamFor e l) := by
  unfold State.endStreamFor
  split
  · rw [State.notify, State.modLink_modLink]
    exact s.linksGrow_modLink l (Link.grows_endStream e.id _)
  · exact .refl s

/-- What holds of each step of a fold, and of steps taken after one another, holds of the fold. -/
theorem foldl_induct {α β : Type} {R : α → α → Prop} (refl : ∀ a, R a a) (trans : ∀ {a b c}, R a b → R b c → R a c)
    {f : α → β → α} (xs : List β) (step : ∀ a, ∀ x ∈ xs, R a (f a x)) (a : α) : R a (xs.foldl f a) := by
  induction xs generalizing a with
  | nil => exact refl a
  | cons x rest ih =>
    exact trans (step a x (by simp)) (ih (fun b y hy => step b y (by simp [hy])) _)

theorem State.linksGrow_offerData (s : State) (e : StreamEntry) (u : Update) : s.LinksGrow (s.offerData e u) := by
  refine foldl_induct .refl .trans _ (fun t l _ => ?_) s
  split
  · exact t.linksGrow_modLink l (Link.grows_pushData _ _)
  · exact .refl t

theorem State.linksGrow_offerUpdates (s : State) (us : List Update) : s.LinksGrow (s.offerUpdates us) := by
  refine State.LinksGrow.trans (t := s.setStreams (s.streams.map fun e => e.sent us s.deviceTime))
    (State.LinksGrow.of_links rfl) (foldl_induct .refl .trans _ (fun t e _ => ?_) _)
  split
  · exact t.linksGrow_offerData e _
  · exact .refl t

/-! ### Sent notices -/

/-- A notice sent after the links grew is a notice sent. -/
theorem State.LinksGrow.sends_after {s t u : State} (g : s.LinksGrow t) {l : LinkId} {n : Notice} (h : t.sends u l n) :
    s.sends u l n := by
  intro a
  refine (h ((g l).state.trans a)).imp id fun ⟨lost, full⟩ => ⟨lost, fun d => full ((g l).distinct d)⟩

/-- A sent notice stays sent while the links grow. -/
theorem State.LinksGrow.sends_before {s t u : State} (g : s.LinksGrow t) (k : t.LinksGrow u) {l : LinkId} {n : Notice}
    (e : n.dataEntry = none) (h : s.sends t l n) : s.sends u l n := by
  intro a
  refine (h a).imp (fun m => (k l).events n m e) fun ⟨lost, full⟩ => ⟨(k l).lost lost, fun d => ?_⟩
  exact (k l).full ((g l).state.trans a) ((g l).distinct d) (full d)

theorem State.sends_notify (s : State) (l : LinkId) (n : Notice) : s.sends (s.notify l n) l n := by
  intro a
  rw [State.notify, State.modLink_link_same]
  exact (Link.pushEvent_arrives n a).imp List.mem_of_getLast? fun ⟨h, g⟩ => ⟨h, fun _ => g⟩

/-- A notice for each ACTIVE link stands last in its queue, unless the queue is full (R133). -/
theorem State.notifyAll_arrives (s : State) (n : Notice) {l : LinkId} (a : (s.link l).state = .active) :
    ((s.notifyAll n).link l).notices.getLast? = some n
      ∨ ((s.notifyAll n).link l).sticky.noticeLost = true ∧ 32 ≤ ((s.notifyAll n).link l).notices.length := by
  have e : (s.notifyAll n).link l = (s.link l).pushEvent n := by
    cases l <;> simp [State.notifyAll, State.notify, State.modLink_link]
  rw [e]
  exact Link.pushEvent_arrives n a

theorem State.sends_notifyAll (s : State) (l : LinkId) (n : Notice) : s.sends (s.notifyAll n) l n :=
  fun a => (s.notifyAll_arrives n a).imp List.mem_of_getLast? fun ⟨h, g⟩ => ⟨h, fun _ => g⟩

end Sys2Proof.Machine
end

section
/-! What the operations of the motion units and pairs can do, said once each (chapters 4 to 6): which records they change, and
that the bounds of R57 and R101 stay. -/

namespace Sys2Proof.Machine

/-! ## Operations that only put messages into the links' queues -/

/-- Nothing but the links changes, and they grow. -/
structure State.LinkWork (s t : State) : Prop where
  frame : t = { s with links := t.links }
  links : s.LinksGrow t

theorem State.LinkWork.refl (s : State) : s.LinkWork s := ⟨rfl, .refl s⟩

theorem State.LinkWork.trans {s t u : State} (a : s.LinkWork t) (b : t.LinkWork u) : s.LinkWork u :=
  ⟨by rw [b.frame, a.frame], a.links.trans b.links⟩

theorem State.LinkWork.motion {s t : State} (h : s.LinkWork t) : t.motion = s.motion := by rw [h.frame]

theorem State.LinkWork.pairs {s t : State} (h : s.LinkWork t) : t.pairs = s.pairs := by rw [h.frame]

theorem State.LinkWork.unit {s t : State} (h : s.LinkWork t) (x : Port) : t.unit x = s.unit x :=
  congrArg (Six.get · x) h.motion

theorem State.LinkWork.pairAt {s t : State} (h : s.LinkWork t) (q : PairId) : t.pairAt q = s.pairAt q :=
  congrArg (Three.get · q) h.pairs

theorem State.linkWork_notify (s : State) (l : LinkId) {n : Notice} (e : n.dataEntry = none) :
    s.LinkWork (s.notify l n) := ⟨rfl, s.linksGrow_notify l e⟩

theorem State.linkWork_answer (s : State) (r : ReplyTo) (st : Status) (payload : List Byte) :
    s.LinkWork (s.answer r st payload) := by
  refine ⟨?_, s.linksGrow_answer r st payload⟩
  unfold State.answer
  split <;> rfl

theorem State.linkWork_endNotice (s : State) (p : Port) (q : Option PairId) (g : Segment) (o : SegOutcome) (n : Nat) :
    s.LinkWork (s.endNotice p q g o n) := by
  unfold State.endNotice
  split
  · exact s.linkWork_notify _ rfl
  · exact .refl s

theorem State.linkWork_waitingNotices (s : State) (p : Port) (q : Option PairId) (gs : List Segment) (o : SegOutcome) :
    s.LinkWork (s.waitingNotices p q gs o) :=
  foldl_induct .refl .trans gs (fun t g _ => t.linkWork_endNotice p q g o 0) s

theorem State.linkWork_pairNotice (s : State) (q : PairId) (r : PairRec) (g : PairSegment) (o : SegOutcome) (n : Nat) :
    s.LinkWork (s.pairNotice q r g o n) := s.linkWork_endNotice _ (some q) g.seg o n

theorem State.linkWork_pairNotices (s : State) (q : PairId) (r : PairRec) (gs : List PairSegment) (o : SegOutcome) :
    s.LinkWork (gs.foldl (fun t h => t.pairNotice q r h o 0) s) :=
  foldl_induct .refl .trans gs (fun t h _ => t.linkWork_pairNotice q r h o 0) s

/-! ## The records a unit's and a pair's operations change -/

/-- Work on the unit of port `p`: nothing but that unit and the links' queues changes, and the unit keeps its bounds. -/
structure State.UnitWork (p : Port) (s t : State) : Prop where
  frame : t = { s with motion := s.motion.set p (t.unit p), links := t.links }
  links : s.LinksGrow t
  inv : (s.unit p).inv → (t.unit p).inv

/-- Work on pair `q`: nothing but its record, the motors of its two ports and the links' queues changes; the queues,
activations and positions of the units stay, the pair's ports stay while it has a record, and the bounds are kept. -/
structure State.PairWork (q : PairId) (s t : State) : Prop where
  frame : t = { s with motion := t.motion, pairs := s.pairs.set q (t.pairAt q), links := t.links }
  links : s.LinksGrow t
  others : ∀ x, (∀ r, s.pairAt q = some r → r.portA ≠ x ∧ r.portB ≠ x) → t.unit x = s.unit x
  kept : ∀ x, t.unit x = { s.unit x with motor := (t.unit x).motor, hold := (t.unit x).hold, reg := (t.unit x).reg }
  ports : ∀ r, t.pairAt q = some r → ∃ r', s.pairAt q = some r' ∧ r.portA = r'.portA ∧ r.portB = r'.portB
  inv : ∀ x, (s.unit x).inv → (t.unit x).inv
  short : (∀ r, s.pairAt q = some r → r.queue.length ≤ 4) → ∀ r, t.pairAt q = some r → r.queue.length ≤ 4

/-- Work on the units and pairs. -/
structure State.MotionWork (s t : State) : Prop where
  frame : t = { s with motion := t.motion, pairs := t.pairs, links := t.links }
  links : s.LinksGrow t
  inv : s.motionInv → t.motionInv

theorem State.UnitWork.unit_ne {p x : Port} {s t : State} (h : s.UnitWork p t) (e : x ≠ p) : t.unit x = s.unit x :=
  (congrArg (fun u => State.unit u x) h.frame).trans (Six.get_set_ne _ _ e)

theorem State.UnitWork.refl (p : Port) (s : State) : s.UnitWork p s := by
  refine ⟨?_, .refl s, fun h => h⟩
  rw [State.unit, Six.set_get_same]

theorem State.UnitWork.trans {p : Port} {s t u : State} (a : s.UnitWork p t) (b : t.UnitWork p u) : s.UnitWork p u := by
  refine ⟨?_, a.links.trans b.links, fun h => b.inv (a.inv h)⟩
  conv_lhs => rw [b.frame, a.frame]
  simp only [Six.set_set]

theorem State.LinkWork.unitWork {s t : State} (h : s.LinkWork t) (p : Port) : s.UnitWork p t := by
  have e := h.unit p
  refine ⟨?_, h.links, fun g => e ▸ g⟩
  rw [e, State.unit, Six.set_get_same]
  exact h.frame

theorem State.unitWork_modUnit (s : State) (p : Port) {f : MotionUnit → MotionUnit}
    (h : (s.unit p).inv → (f (s.unit p)).inv) : s.UnitWork p (s.modUnit p f) := by
  refine ⟨?_, .of_links rfl, fun g => ?_⟩
  · rw [State.modUnit_unit_same]; rfl
  · rw [State.modUnit_unit_same]; exact h g

theorem State.PairWork.pairAt_ne {q y : PairId} {s t : State} (h : s.PairWork q t) (e : y ≠ q) :
    t.pairAt y = s.pairAt y :=
  (congrArg (fun u => State.pairAt u y) h.frame).trans (Three.get_set_ne _ _ e)

theorem State.PairWork.refl (q : PairId) (s : State) : s.PairWork q s := by
  refine ⟨?_, .refl s, fun _ _ => rfl, fun _ => rfl, fun r h => ⟨r, h, rfl, rfl⟩, fun _ h => h, fun h => h⟩
  rw [State.pairAt, Three.set_get_same]

theorem State.PairWork.trans {q : PairId} {s t u : State} (a : s.PairWork q t) (b : t.PairWork q u) : s.PairWork q u where
  frame := by
    conv_lhs => rw [b.frame, a.frame]
    simp only [Three.set_set]
  links := a.links.trans b.links
  others x h := by
    refine (b.others x fun r e => ?_).trans (a.others x h)
    obtain ⟨r', e', ea, eb⟩ := a.ports r e
    exact ea ▸ eb ▸ h r' e'
  kept x := by
    conv_lhs => rw [b.kept x, a.kept x]
  ports r h := by
    obtain ⟨r', e, ea, eb⟩ := b.ports r h
    obtain ⟨r'', e', ea', eb'⟩ := a.ports r' e
    exact ⟨r'', e', ea.trans ea', eb.trans eb'⟩
  inv x h := b.inv x (a.inv x h)
  short h := b.short (a.short h)

theorem State.LinkWork.pairWork {s t : State} (h : s.LinkWork t) (q : PairId) : s.PairWork q t := by
  have eu := h.unit
  have ep := h.pairAt q
  refine ⟨?_, h.links, fun x _ => eu x, fun x => by rw [eu], fun r e => ⟨r, ep ▸ e, rfl, rfl⟩, fun x g => eu x ▸ g,
    fun g r e => g r (ep ▸ e)⟩
  rw [ep, State.pairAt, Three.set_get_same, h.motion]
  exact h.frame

/-- A pair's motor takes a new state, hold and regulator. -/
theorem State.pairWork_modUnit (s : State) {q : PairId} {r : PairRec} (e : s.pairAt q = some r) {x : Port}
    (h : x = r.portA ∨ x = r.portB) {f : MotionUnit → MotionUnit} (i : (s.unit x).inv → (f (s.unit x)).inv)
    (k : ∀ m, f m = { m with motor := (f m).motor, hold := (f m).hold, reg := (f m).reg }) :
    s.PairWork q (s.modUnit x f) where
  frame := by
    rw [State.modUnit_pairAt, State.pairAt, Three.set_get_same]; rfl
  links := .of_links rfl
  others y g := by
    refine State.modUnit_unit_ne _ _ _ fun j => ?_
    obtain ⟨ga, gb⟩ := g r e
    rcases h with h | h
    · exact ga (h.symm.trans j.symm)
    · exact gb (h.symm.trans j.symm)
  kept y := by
    rw [State.modUnit_unit]
    split
    · rename_i j; subst j; exact k _
    · rfl
  ports r h := ⟨r, h, rfl, rfl⟩
  inv y g := by
    rw [State.modUnit_unit]
    split
    · rename_i j; subst j; exact i g
    · exact g
  short h := h

/-- The same after other work on the pair. -/
theorem State.PairWork.modUnit {s t : State} {q : PairId} (a : s.PairWork q t) {r : PairRec} (e : t.pairAt q = some r)
    {x : Port} (h : x = r.portA ∨ x = r.portB) {f : MotionUnit → MotionUnit} (i : (t.unit x).inv → (f (t.unit x)).inv)
    (k : ∀ m, f m = { m with motor := (f m).motor, hold := (f m).hold, reg := (f m).reg }) :
    s.PairWork q (t.modUnit x f) := a.trans (t.pairWork_modUnit e h i k)

/-- A pair's record is written: it is freed, or its ports stay. -/
theorem State.pairWork_setPair (s : State) (q : PairId) {x : Option PairRec}
    (h : ∀ r, x = some r → ∃ r', s.pairAt q = some r' ∧ r.portA = r'.portA ∧ r.portB = r'.portB
      ∧ (r'.queue.length ≤ 4 → r.queue.length ≤ 4)) : s.PairWork q (s.setPair q x) where
  frame := by rw [State.setPair_pairAt_same]; rfl
  links := .of_links rfl
  others _ _ := rfl
  kept _ := rfl
  ports r e := by
    rw [State.setPair_pairAt_same] at e
    obtain ⟨r', e', ha, hb, -⟩ := h r e
    exact ⟨r', e', ha, hb⟩
  inv _ g := g
  short g r e := by
    rw [State.setPair_pairAt_same] at e
    obtain ⟨r', e', -, -, hq⟩ := h r e
    exact hq (g r' e')

theorem State.pairWork_modPair (s : State) (q : PairId) {f : PairRec → PairRec}
    (k : ∀ r, (f r).portA = r.portA ∧ (f r).portB = r.portB)
    (h : ∀ r, s.pairAt q = some r → r.queue.length ≤ 4 → (f r).queue.length ≤ 4) : s.PairWork q (s.modPair q f) := by
  refine s.pairWork_setPair q fun r e => ?_
  obtain ⟨r', e', rfl⟩ := Option.map_eq_some_iff.mp e
  exact ⟨r', e', (k r').1, (k r').2, h r' e'⟩

/-! ### Units and pairs together -/

theorem State.motionInv_iff {s : State} :
    s.motionInv ↔ (∀ x, (s.unit x).inv) ∧ ∀ q r, s.pairAt q = some r → r.queue.length ≤ 4 :=
  ⟨fun h => ⟨fun x => h.1 x (Port.mem_all x), fun q r e => h.2 q (PairId.mem_all q) r e⟩,
    fun h => ⟨fun x _ => h.1 x, fun q _ r e => h.2 q r e⟩⟩

theorem State.MotionWork.refl (s : State) : s.MotionWork s := ⟨rfl, .refl s, fun h => h⟩

theorem State.MotionWork.trans {s t u : State} (a : s.MotionWork t) (b : t.MotionWork u) : s.MotionWork u := by
  refine ⟨?_, a.links.trans b.links, fun h => b.inv (a.inv h)⟩
  conv_lhs => rw [b.frame, a.frame]

theorem State.UnitWork.motionWork {p : Port} {s t : State} (h : s.UnitWork p t) : s.MotionWork t := by
  have pairs : t.pairs = s.pairs := by rw [h.frame]
  refine ⟨?_, h.links, fun g => ?_⟩
  · rw [show t.motion = s.motion.set p (t.unit p) from congrArg State.motion h.frame, pairs]
    exact h.frame
  · obtain ⟨units, queues⟩ := State.motionInv_iff.mp g
    refine State.motionInv_iff.mpr ⟨fun x => ?_, fun q r e => queues q r ?_⟩
    · by_cases j : x = p
      · subst j; exact h.inv (units x)
      · rw [h.unit_ne j]; exact units x
    · rwa [State.pairAt, pairs] at e

theorem State.PairWork.motionWork {q : PairId} {s t : State} (h : s.PairWork q t) : s.MotionWork t := by
  refine ⟨?_, h.links, fun g => ?_⟩
  · rw [show t.pairs = s.pairs.set q (t.pairAt q) from congrArg State.pairs h.frame]
    exact h.frame
  · obtain ⟨units, queues⟩ := State.motionInv_iff.mp g
    refine State.motionInv_iff.mpr ⟨fun x => h.inv x (units x), fun y r e => ?_⟩
    by_cases j : y = q
    · subst j; exact h.short (queues y) r e
    · rw [h.pairAt_ne j] at e; exact queues y r e

/-! ## Motion units: what keeps their bounds (R57, R72) -/

theorem MotionUnit.settle_inv {m : MotionUnit} {state : MotorState} (e : state ≠ .holding) (h : m.inv) :
    (m.settle state).inv := ⟨h.1, by simp [MotionUnit.settle, e]⟩

theorem MotionUnit.holdAt_inv {m : MotionUnit} (h : m.inv) (position : BitVec 32) (creep : Int) :
    (m.holdAt position creep).inv := ⟨h.1, by simp [MotionUnit.holdAt]⟩

theorem MotionUnit.endAction_inv {m : MotionUnit} (h : m.inv) (a : EndAction) (position : BitVec 32) (creep : Int) :
    (m.endAction a position creep).inv := by
  cases a with
  | coast => exact MotionUnit.settle_inv (by decide) h
  | brake => exact MotionUnit.settle_inv (by decide) h
  | hold => exact MotionUnit.holdAt_inv h position creep

/-- An end action changes the motor, its hold and its regulator alone. -/
theorem MotionUnit.endAction_kept (m : MotionUnit) (a : EndAction) (position : BitVec 32) (creep : Int) :
    m.endAction a position creep = { m with
      motor := (m.endAction a position creep).motor, hold := (m.endAction a position creep).hold
      reg := (m.endAction a position creep).reg } := by
  cases a <;> rfl

/-- A motor after an end action, in the words of the statements (R72). -/
theorem MotionUnit.endAction_endedBy (m : MotionUnit) (a : EndAction) (position : BitVec 32) (creep : Int) :
    (m.endAction a position creep).endedBy a position := by
  cases a <;> simp [MotionUnit.endedBy, MotionUnit.endAction, MotionUnit.settle, MotionUnit.holdAt]

/-- A unit with a shorter or the same queue and its motor as it stood keeps its bounds. -/
theorem MotionUnit.inv_of_queue_le {m n : MotionUnit} (h : m.inv) (q : n.queue.length ≤ m.queue.length)
    (motor : n.motor = m.motor) (hold : n.hold = m.hold) : n.inv :=
  ⟨q.trans h.1, by rw [motor, hold]; exact h.2⟩

/-! ## The operations of a unit -/

theorem State.endQueue_of_nil {s : State} {p : Port} (h : (s.unit p).queue = []) (a w : SegOutcome) :
    s.endQueue p a w = s := by
  unfold State.endQueue; rw [h]

theorem State.endQueue_of_cons {s : State} {p : Port} {g : Segment} {rest : List Segment}
    (h : (s.unit p).queue = g :: rest) (a w : SegOutcome) :
    s.endQueue p a w = ((s.endNotice p none g a (s.elapsed p)).waitingNotices p none rest w).modUnit p
      fun m => { m with queue := [], act := none } := by
  unfold State.endQueue; rw [h]

theorem State.unitWork_endQueue (s : State) (p : Port) (a w : SegOutcome) : s.UnitWork p (s.endQueue p a w) := by
  cases h : (s.unit p).queue with
  | nil => rw [State.endQueue_of_nil h]; exact .refl p s
  | cons g rest =>
    rw [State.endQueue_of_cons h]
    refine (((s.linkWork_endNotice _ _ _ _ _).trans (State.linkWork_waitingNotices _ _ _ _ _)).unitWork p).trans
      (State.unitWork_modUnit _ p fun i => MotionUnit.inv_of_queue_le i (Nat.zero_le _) rfl rfl)

/-- What the end of a unit's queue leaves of the unit: all but its queue and, where a segment stood in it, its activation. -/
theorem State.endQueue_unit (s : State) (p : Port) (a w : SegOutcome) :
    (s.endQueue p a w).unit p = { s.unit p with
      queue := [], act := if (s.unit p).queue = [] then (s.unit p).act else none } := by
  cases h : (s.unit p).queue with
  | nil => rw [State.endQueue_of_nil h]; simp [← h]
  | cons g rest =>
    rw [State.endQueue_of_cons h, State.modUnit_unit_same]
    rw [((s.linkWork_endNotice p none g a (s.elapsed p)).trans (State.linkWork_waitingNotices _ p none rest w)).unit p]
    simp

theorem State.abortSegment_of_cons {s : State} {p : Port} {g : Segment} {rest : List Segment}
    (h : (s.unit p).queue = g :: rest) (o : SegOutcome) :
    s.abortSegment p o = (s.endQueue p o .flushed).modUnit p fun m =>
      m.endAction g.endAction (s.unit p).holdPosition ((s.port p).holdCreep (some g)) := by
  unfold State.abortSegment; rw [h]

theorem State.unitWork_abortSegment (s : State) (p : Port) (o : SegOutcome) : s.UnitWork p (s.abortSegment p o) := by
  cases h : (s.unit p).queue with
  | nil => unfold State.abortSegment; rw [h]; exact .refl p s
  | cons g rest =>
    rw [State.abortSegment_of_cons h]
    exact (s.unitWork_endQueue p o .flushed).trans
      (State.unitWork_modUnit _ p fun i => MotionUnit.endAction_inv i _ _ _)

/-- A unit whose segment was ended by an abort has taken its end action and holds no segment (R68, R69, R72). -/
theorem State.abortSegment_unit {s : State} {p : Port} {g : Segment} {rest : List Segment}
    (h : (s.unit p).queue = g :: rest) (o : SegOutcome) :
    (s.abortSegment p o).unit p = ({ s.unit p with queue := [], act := none }).endAction g.endAction
      (s.unit p).holdPosition ((s.port p).holdCreep (some g)) := by
  rw [State.abortSegment_of_cons h, State.modUnit_unit_same, State.endQueue_unit, h]
  rfl

theorem State.abortSegment_queue (s : State) (p : Port) (o : SegOutcome) : ((s.abortSegment p o).unit p).queue = [] := by
  cases h : (s.unit p).queue with
  | nil => unfold State.abortSegment; rw [h]; exact h
  | cons g rest => rw [State.abortSegment_unit h, MotionUnit.endAction_kept]

theorem State.unitWork_activate (s : State) (p : Port) (prev : Option Bool) : s.UnitWork p (s.activate p prev) := by
  unfold State.activate
  split
  · exact .refl p s
  · rename_i g rest h
    refine State.UnitWork.trans (t := s.modUnit p fun m => { m with act := some (s.activation p g) })
      (s.unitWork_modUnit p fun i => MotionUnit.inv_of_queue_le i le_rfl rfl rfl) ?_
    split
    · exact State.unitWork_modUnit _ p fun i => ⟨i.1, by simp⟩
    · exact State.unitWork_abortSegment _ p _

theorem State.finishSegment_of_single {s : State} {p : Port} {g : Segment} (h : (s.unit p).queue = [g]) (o : SegOutcome) :
    s.finishSegment p o = s.abortSegment p o := by
  unfold State.finishSegment; rw [h]

theorem State.unitWork_finishSegment (s : State) (p : Port) (o : SegOutcome) : s.UnitWork p (s.finishSegment p o) := by
  unfold State.finishSegment
  split
  · exact .refl p s
  · exact s.unitWork_abortSegment p o
  · rename_i g rest _ h
    have told := s.linkWork_endNotice p none g o (s.elapsed p)
    have queue : ((s.endNotice p none g o (s.elapsed p)).unit p).queue = g :: rest := by rw [told.unit, h]
    exact ((told.unitWork p).trans (State.unitWork_modUnit _ p fun i =>
      MotionUnit.inv_of_queue_le i (by rw [queue]; simp) rfl rfl)).trans (State.unitWork_activate _ p _)

theorem State.unitWork_settleUnit (s : State) (p : Port) {state : MotorState} (e : state ≠ .holding) :
    s.UnitWork p (s.settleUnit p state) := by
  refine s.unitWork_modUnit p fun i => MotionUnit.settle_inv ?_ i
  split
  · exact e
  · decide

/-! ## The operations of a pair -/

theorem State.endPairQueue_of_cons {s : State} {q : PairId} {r : PairRec} {g : PairSegment} {rest : List PairSegment}
    (e : s.pairAt q = some r) (h : r.queue = g :: rest) (a w : SegOutcome) :
    s.endPairQueue q a w
      = (rest.foldl (fun t h => t.pairNotice q r h w 0) (s.pairNotice q r g a (s.pairElapsed r))).modPair q
        PairRec.emptied := by
  unfold State.endPairQueue; rw [e]; simp only [h]

theorem State.endPairQueue_of_nil {s : State} {q : PairId} {r : PairRec} (e : s.pairAt q = some r) (h : r.queue = [])
    (a w : SegOutcome) : s.endPairQueue q a w = s := by
  unfold State.endPairQueue; rw [e]; simp only [h]

theorem State.endPairQueue_of_none {s : State} {q : PairId} (e : s.pairAt q = none) (a w : SegOutcome) :
    s.endPairQueue q a w = s := by
  unfold State.endPairQueue; rw [e]

theorem State.pairWork_endPairQueue (s : State) (q : PairId) (a w : SegOutcome) : s.PairWork q (s.endPairQueue q a w) := by
  cases e : s.pairAt q with
  | none => rw [State.endPairQueue_of_none e]; exact .refl q s
  | some r =>
    cases h : r.queue with
    | nil => rw [State.endPairQueue_of_nil e h]; exact .refl q s
    | cons g rest =>
      rw [State.endPairQueue_of_cons e h]
      exact (((s.linkWork_pairNotice q r g a _).trans (State.linkWork_pairNotices _ q r rest w)).pairWork q).trans
        (State.pairWork_modPair _ q (fun _ => ⟨rfl, rfl⟩) fun _ _ _ => Nat.zero_le _)

/-- The end of a pair's queue changes no unit. -/
theorem State.endPairQueue_motion (s : State) (q : PairId) (a w : SegOutcome) :
    (s.endPairQueue q a w).motion = s.motion := by
  cases e : s.pairAt q with
  | none => rw [State.endPairQueue_of_none e]
  | some r =>
    cases h : r.queue with
    | nil => rw [State.endPairQueue_of_nil e h]
    | cons g rest =>
      rw [State.endPairQueue_of_cons e h]
      exact ((s.linkWork_pairNotice q r g a (s.pairElapsed r)).trans
        (State.linkWork_pairNotices _ q r rest w)).motion

/-- A pair's record after the end of its queue (R110). -/
theorem State.endPairQueue_pairAt {s : State} {q : PairId} {r : PairRec} (e : s.pairAt q = some r) (a w : SegOutcome) :
    (s.endPairQueue q a w).pairAt q = some (if r.queue = [] then r else r.emptied) := by
  cases h : r.queue with
  | nil => rw [State.endPairQueue_of_nil e h]; simpa using e
  | cons g rest =>
    rw [State.endPairQueue_of_cons e h, State.modPair, State.setPair_pairAt_same]
    have told := (s.linkWork_pairNotice q r g a (s.pairElapsed r)).trans
      (State.linkWork_pairNotices _ q r rest w)
    rw [told.pairAt q, e]
    simp

/-- The record a pair has after the end of its queue names the same ports. -/
theorem State.endPairQueue_record {s : State} {q : PairId} {r : PairRec} (e : s.pairAt q = some r) (a w : SegOutcome) :
    ∃ r', (s.endPairQueue q a w).pairAt q = some r' ∧ r'.portA = r.portA ∧ r'.portB = r.portB ∧ r'.queue = [] := by
  rw [State.endPairQueue_pairAt e]
  split
  · rename_i h; exact ⟨r, rfl, rfl, rfl, h⟩
  · exact ⟨r.emptied, rfl, rfl, rfl, rfl⟩

theorem PairRec.portOf_eq (r : PairRec) (side : Lead) : r.portOf side = r.portA ∨ r.portOf side = r.portB := by
  cases side
  · exact .inl rfl
  · exact .inr rfl

/-- The end action of a pair segment, on the motors of a pair that has a record of the same ports. -/
theorem State.pairWork_pairEndAction (s : State) {q : PairId} {r' r : PairRec} (e : s.pairAt q = some r')
    (ha : r'.portA = r.portA) (hb : r'.portB = r.portB) (g : PairSegment) (hold : BitVec 32) :
    s.PairWork q (s.pairEndAction r g hold) := by
  have side : ∀ x, r.portOf x = r'.portA ∨ r.portOf x = r'.portB := fun x => by
    rw [ha, hb]; exact r.portOf_eq x
  exact (s.pairWork_modUnit e (side g.lead) (fun i => MotionUnit.endAction_inv i _ _ _)
      (fun m => m.endAction_kept _ _ _)).modUnit e (side g.lead.other) (fun i => MotionUnit.endAction_inv i _ _ _)
      (fun m => m.endAction_kept _ _ _)

theorem State.pairWork_settlePair (s : State) {q : PairId} {r' r : PairRec} (e : s.pairAt q = some r')
    (ha : r'.portA = r.portA) (hb : r'.portB = r.portB) {state : MotorState} (h : state ≠ .holding) :
    s.PairWork q (s.settlePair r state) :=
  (s.pairWork_modUnit e (.inl ha.symm) (f := fun m => m.settle state) (MotionUnit.settle_inv h) fun _ => rfl).modUnit e
    (.inr hb.symm) (MotionUnit.settle_inv h) fun _ => rfl

theorem State.abortPair_of_cons {s : State} {q : PairId} {r : PairRec} {g : PairSegment} {rest : List PairSegment}
    (e : s.pairAt q = some r) (h : r.queue = g :: rest) (o : SegOutcome) :
    s.abortPair q o = (s.endPairQueue q o .flushed).pairEndAction r g (s.pairHold r g) := by
  unfold State.abortPair; rw [e]; simp only [h]

theorem State.pairWork_abortPair (s : State) (q : PairId) (o : SegOutcome) : s.PairWork q (s.abortPair q o) := by
  cases e : s.pairAt q with
  | none => unfold State.abortPair; rw [e]; exact .refl q s
  | some r =>
    cases h : r.queue with
    | nil => unfold State.abortPair; rw [e]; simp only [h]; exact .refl q s
    | cons g rest =>
      rw [State.abortPair_of_cons e h]
      obtain ⟨r', e', ha, hb, -⟩ := State.endPairQueue_record e o .flushed
      exact (s.pairWork_endPairQueue q o .flushed).trans (State.pairWork_pairEndAction _ e' ha hb g _)

theorem MotionUnit.pairStart_inv {m : MotionUnit} (h : m.inv) (lead : Bool) (prev : Option Lead) :
    (m.pairStart lead prev).inv := ⟨h.1, by simp [MotionUnit.pairStart]⟩

theorem State.pairWork_carryRamp (s : State) {q : PairId} {r' r : PairRec} (e : s.pairAt q = some r')
    (ha : r'.portA = r.portA) (hb : r'.portB = r.portB) (g : PairSegment) (prev : Option Lead) :
    s.PairWork q (s.carryRamp r g prev) := by
  unfold State.carryRamp
  split
  · refine s.pairWork_modUnit e ?_ (fun i => i) fun _ => rfl
    rw [ha, hb]; exact r.portOf_eq _
  · exact .refl q s

theorem State.carryRamp_pairs (s : State) (r : PairRec) (g : PairSegment) (prev : Option Lead) :
    (s.carryRamp r g prev).pairs = s.pairs := by
  unfold State.carryRamp; split <;> rfl

theorem State.pairWork_activatePair (s : State) (q : PairId) (prev : Option Lead) :
    s.PairWork q (s.activatePair q prev) := by
  unfold State.activatePair
  split
  · exact .refl q s
  · rename_i r e
    split
    · exact .refl q s
    · rename_i g rest h
      refine State.PairWork.trans
        (t := s.modPair q fun x => { x with act := some (s.pairActivation r g), corrA := 0, corrB := 0 })
        (s.pairWork_modPair q (fun _ => ⟨rfl, rfl⟩) fun _ _ i => i) ?_
      split
      · have record : (s.modPair q fun x => { x with act := some (s.pairActivation r g), corrA := 0, corrB := 0 }).pairAt q
            = some { r with act := some (s.pairActivation r g), corrA := 0, corrB := 0 } := by
          rw [State.modPair, State.setPair_pairAt_same, e]; rfl
        have carried := (congrArg (Three.get · q) (State.carryRamp_pairs _ r g prev)).trans record
        exact ((State.pairWork_carryRamp _ record rfl rfl g prev).modUnit carried (r.portOf_eq g.lead)
          (f := fun m => m.pairStart true prev) (fun i => MotionUnit.pairStart_inv i _ _) fun _ => rfl).modUnit carried
          (r.portOf_eq g.lead.other) (fun i => MotionUnit.pairStart_inv i _ _) fun _ => rfl
      · exact State.pairWork_abortPair _ q _

theorem State.pairWork_finishPair (s : State) (q : PairId) (o : SegOutcome) : s.PairWork q (s.finishPair q o) := by
  unfold State.finishPair
  split
  · exact .refl q s
  · rename_i r e
    split
    · exact .refl q s
    · exact s.pairWork_abortPair q o
    · rename_i g rest _ h
      have told := s.linkWork_pairNotice q r g o (s.pairElapsed r)
      refine ((told.pairWork q).trans (State.pairWork_modPair _ q (f := fun x => { x with queue := rest, act := none })
        (fun _ => ⟨rfl, rfl⟩) fun r' e' i => ?_)).trans (State.pairWork_activatePair _ q _)
      obtain rfl : r = r' := Option.some.inj (e.symm.trans ((told.pairAt q).symm.trans e'))
      rw [h, List.length_cons] at i
      exact Nat.le_of_succ_le i

theorem State.dissolvePair_of_some {s : State} {q : PairId} {r : PairRec} (e : s.pairAt q = some r) (o : SegOutcome) :
    s.dissolvePair q o = ((s.endPairQueue q o o).settlePair r .coasting).setPair q none := by
  unfold State.dissolvePair; rw [e]

theorem State.pairWork_dissolvePair (s : State) (q : PairId) (o : SegOutcome) : s.PairWork q (s.dissolvePair q o) := by
  cases e : s.pairAt q with
  | none => unfold State.dissolvePair; rw [e]; exact .refl q s
  | some r =>
    rw [State.dissolvePair_of_some e]
    obtain ⟨r', e', ha, hb, -⟩ := State.endPairQueue_record e o o
    exact ((s.pairWork_endPairQueue q o o).trans (State.pairWork_settlePair _ e' ha hb (by decide))).trans
      (State.pairWork_setPair _ q fun _ h => by cases h)

/-! ## Events taken by every unit and pair -/

theorem State.motionWork_testConditions (s : State) (p : Port) (r : SampleRec) : s.MotionWork (s.testConditions p r) := by
  unfold State.testConditions
  refine State.MotionWork.trans (foldl_induct .refl .trans _ (fun t u _ => ?_) s)
    (foldl_induct .refl .trans _ (fun t q _ => ?_) _)
  · split
    · split
      · exact (t.unitWork_finishSegment u _).motionWork
      · exact .refl t
    · exact .refl t
  · split
    · split
      · exact (t.pairWork_finishPair q _).motionWork
      · exact .refl t
    · exact .refl t

theorem State.motionWork_sourceLost (s : State) (p : Port) (mode : Option Nat) : s.MotionWork (s.sourceLost p mode) := by
  unfold State.sourceLost
  refine State.MotionWork.trans (foldl_induct .refl .trans _ (fun t u _ => ?_) s)
    (foldl_induct .refl .trans _ (fun t q _ => ?_) _)
  · split
    · split
      · exact (t.unitWork_abortSegment u _).motionWork
      · exact .refl t
    · exact .refl t
  · split
    · split
      · split
        · exact (t.pairWork_abortPair q _).motionWork
        · exact .refl t
      · exact .refl t
    · exact .refl t

theorem State.motionWork_stopAll (s : State) (o : SegOutcome) {state : MotorState} (h : state ≠ .holding) :
    s.MotionWork (s.stopAll o state) :=
  State.MotionWork.trans
    (foldl_induct .refl .trans _
      (fun t p _ => ((t.unitWork_endQueue p o o).trans (State.unitWork_settleUnit _ p h)).motionWork) s)
    (foldl_induct .refl .trans _ (fun t q _ => (t.pairWork_endPairQueue q o o).motionWork) _)

theorem State.motionWork_setHalted (s : State) (h : Bool) : s.MotionWork (s.setHalted h) :=
  foldl_induct .refl .trans _ (fun t p _ => (t.unitWork_modUnit p fun i => i).motionWork) s

theorem State.motionWork_detachMotion (s : State) (p : Port) : s.MotionWork (s.detachMotion p) := by
  unfold State.detachMotion
  split
  · exact (s.pairWork_dissolvePair _ _).motionWork
  · exact ((s.unitWork_endQueue p _ _).trans
      (State.unitWork_modUnit _ p (MotionUnit.settle_inv (by decide)))).motionWork

end Sys2Proof.Machine
end

section
/-! The regulation event (chapters 5 and 6.4): which records it changes. -/

namespace Sys2Proof.Machine

/-! ## A single unit (R82 to R97) -/

theorem State.unitWork_setUnit (s : State) (p : Port) {m : MotionUnit} (h : (s.unit p).inv → m.inv) :
    s.UnitWork p (s.setUnit p m) := s.unitWork_modUnit p (f := fun _ => m) h

/-- The ramp changes the regulator alone. -/
theorem MotionUnit.rampStage_inv {m : MotionUnit} (h : m.inv) (g : Segment) (phase : Phase) (dir d : Int) :
    (m.rampStage g phase dir d).1.inv := by
  unfold MotionUnit.rampStage
  split <;> exact h

theorem State.unitWork_stallPort (s : State) (p : Port) (g : Segment) : s.UnitWork p (s.stallPort p g) := by
  unfold State.stallPort
  split
  · exact s.unitWork_modUnit p fun i => i
  · exact s.unitWork_finishSegment p _
  · exact s.unitWork_abortSegment p _

theorem State.unitWork_regulatePort (s : State) (p : Port) (g : Segment) (a : Activation) (d : Int) (count : Nat) :
    s.UnitWork p (s.regulatePort p g a d count) := by
  unfold State.regulatePort
  extract_lets m
  split
  rename_i phase dir _
  extract_lets count'
  split
  rename_i m1 target ramped
  have kept (i : (s.unit p).inv) : m1.inv := by
    have := MotionUnit.rampStage_inv i g phase dir d
    rwa [show (s.unit p).rampStage g phase dir d = (m1, target) from ramped] at this
  extract_lets m2 timer a' t
  have work : s.UnitWork p t := s.unitWork_setUnit p kept
  split
  · exact work.trans (t.unitWork_stallPort p g)
  · exact work

theorem State.unitWork_regulateSingle (s : State) (p : Port) : s.UnitWork p (s.regulateSingle p) := by
  unfold State.regulateSingle
  extract_lets m
  split
  · extract_lets d count
    split
    · exact s.unitWork_finishSegment p _
    · split
      · exact s.unitWork_regulatePort p _ _ _ _
      · exact s.unitWork_modUnit p fun i => i
  · exact s.unitWork_modUnit p fun i => i
  · exact .refl p s
  · exact s.unitWork_modUnit p fun i => i

/-! ## A pair (R107 to R109) -/

theorem State.pairWork_drivePaired (s : State) {q : PairId} {r : PairRec} (e : s.pairAt q = some r) (g : PairSegment)
    (side : Lead) (target : Int) : s.PairWork q (s.drivePaired q r g side target) := by
  unfold State.drivePaired
  extract_lets p m timer t
  have work : s.PairWork q t :=
    (s.pairWork_modUnit e (r.portOf_eq side) (f := fun m => m.drive s.supply target) (fun i => i) fun _ => rfl).trans
      (State.pairWork_modPair _ q (fun _ => ⟨rfl, rfl⟩) fun _ _ i => i)
  split
  · split
    · exact work.trans (t.pairWork_modPair q (fun _ => ⟨rfl, rfl⟩) fun _ _ i => i)
    · exact work.trans (t.pairWork_finishPair q _)
    · exact work.trans (t.pairWork_abortPair q _)
  · exact work

theorem State.pairWork_regulateLead (s : State) {q : PairId} {r : PairRec} (e : s.pairAt q = some r) (g : PairSegment)
    (a : PairActivation) : s.PairWork q (s.regulateLead q r g a) := by
  unfold State.regulateLead
  extract_lets p m d
  split
  · exact s.pairWork_finishPair q _
  · split
    split
    extract_lets reg v r'
    have ramped : s.PairWork q (s.setUnit p { m with reg := reg }) :=
      s.pairWork_modUnit e (r.portOf_eq g.lead) (f := fun m => { m with reg := reg }) (fun i => i) fun _ => rfl
    have record : s.PairWork q ((s.setUnit p { m with reg := reg }).setPair q (some r')) :=
      ramped.trans (State.pairWork_setPair _ q fun x h => ⟨r, e, by cases h; exact ⟨rfl, rfl, fun i => i⟩⟩)
    exact record.trans (State.pairWork_drivePaired _ (State.setPair_pairAt_same _ _ _) _ _ _)

theorem State.pairWork_regulatePartner (s : State) {q : PairId} {r : PairRec} (e : s.pairAt q = some r)
    (g : PairSegment) : s.PairWork q (s.regulatePartner q r g) :=
  (s.pairWork_modUnit e (r.portOf_eq g.lead.other)
      (f := fun m => { m with reg := { m.reg with
        acc := weighted (s.unit (r.leadPort g)).reg.ramped (g.weight g.lead.other) * 1000 } })
      (fun i => i) fun _ => rfl).trans
    (State.pairWork_drivePaired _ (by exact e) g g.lead.other _)

/-- The work of a regulation event before its offer to the subscription table. -/
theorem State.motionWork_regulationStep (s : State) (p : Port) :
    ∃ t, s.MotionWork t ∧ s.regulationStep p = t.offerMotion p := by
  refine ⟨_, ?_, rfl⟩
  refine (s.unitWork_modUnit p (f := MotionUnit.estimate) fun i => i).motionWork.trans ?_
  generalize s.modUnit p MotionUnit.estimate = t
  split
  · rename_i q _
    split
    · rename_i r e
      split
      · split
        · exact (t.pairWork_regulateLead e _ _).motionWork
        · exact (t.pairWork_regulatePartner e _).motionWork
      · exact (t.unitWork_regulateSingle p).motionWork
    · exact (t.unitWork_regulateSingle p).motionWork
  · exact (t.unitWork_regulateSingle p).motionWork

end Sys2Proof.Machine
end

section
/-! The port records, motion units, pairs and streams: the operations of the clip store, the sound engine and the links that
leave them as they are. -/

namespace Sys2Proof.Machine

/-- The four tables that O59 speaks of. -/
structure Tables where
  ports : Six PortUnit
  motion : Six MotionUnit
  pairs : Three (Option PairRec)
  streams : List StreamEntry

def State.tables (s : State) : Tables := ⟨s.ports, s.motion, s.pairs, s.streams⟩

/-! ## Writes to the other blocks -/

@[simp] theorem State.tables_setClaim (s : State) (p : Port) (c : Claim) : (s.setClaim p c).tables = s.tables := rfl

@[simp] theorem State.tables_setLink (s : State) (l : LinkId) (k : Link) : (s.setLink l k).tables = s.tables := rfl

@[simp] theorem State.tables_modLink (s : State) (l : LinkId) (f : Link → Link) : (s.modLink l f).tables = s.tables := rfl

@[simp] theorem State.tables_setSupply (s : State) (m : Supply) : (s.setSupply m).tables = s.tables := rfl

@[simp] theorem State.tables_setStore (s : State) (t : Store) : (s.setStore t).tables = s.tables := rfl

@[simp] theorem State.tables_modStore (s : State) (f : Store → Store) : (s.modStore f).tables = s.tables := rfl

@[simp] theorem State.tables_setSound (s : State) (n : Sound) : (s.setSound n).tables = s.tables := rfl

@[simp] theorem State.tables_setVoice (s : State) (v : VoiceId) (x : Voice) : (s.setVoice v x).tables = s.tables := rfl

@[simp] theorem State.tables_bumpFree (s : State) : s.bumpFree.tables = s.tables := rfl

@[simp] theorem State.tables_notify (s : State) (l : LinkId) (n : Notice) : (s.notify l n).tables = s.tables := rfl

@[simp] theorem State.tables_notifyAll (s : State) (n : Notice) : (s.notifyAll n).tables = s.tables := rfl

@[simp] theorem State.tables_answer (s : State) (r : ReplyTo) (st : Status) (payload : List Byte) :
    (s.answer r st payload).tables = s.tables := by
  unfold State.answer
  split <;> rfl

theorem State.tables_foldl {β : Type} {f : State → β → State} (h : ∀ t x, (f t x).tables = t.tables) (xs : List β)
    (s : State) : (xs.foldl f s).tables = s.tables :=
  foldl_induct (R := fun s t => State.tables t = s.tables) (fun _ => rfl) (fun a b => b.trans a) xs
    (fun t x _ => h t x) s

/-! ## The store arbiter (R157, R164) -/

theorem State.tables_grantRead {s t : State} (h : s.grantRead = some t) : t.tables = s.tables := by
  obtain ⟨v, f, -, -, rfl⟩ | ⟨r, rest, -, -, rfl⟩ := State.grantRead_cases h <;> rfl

@[simp] theorem State.tables_grantRead_getD (s : State) : (s.grantRead.getD s).tables = s.tables := by
  cases h : s.grantRead with
  | none => rfl
  | some t => exact State.tables_grantRead h

@[simp] theorem State.tables_readArrives (s : State) : s.readArrives.tables = s.tables := by
  unfold State.readArrives
  split
  · simp
  · simp
  · split <;> rfl
  · rfl
  · rfl

@[simp] theorem State.tables_placeFetch (s : State) (v : VoiceId) : (s.placeFetch v).tables = s.tables := by
  unfold State.placeFetch
  split
  · rfl
  · split <;> simp

@[simp] theorem State.tables_withdrawFetch (s : State) (v : VoiceId) : (s.withdrawFetch v).tables = s.tables := rfl

@[simp] theorem State.tables_withdrawPending (s : State) (v : VoiceId) : (s.withdrawPending v).tables = s.tables := rfl

@[simp] theorem State.tables_placeRead (s : State) (r : ClipRead) : (s.placeRead r).tables = s.tables := by
  simp [State.placeRead]

@[simp] theorem State.tables_fetchInto (s : State) (v : VoiceId) (h : Half) (block : Nat) :
    (s.fetchInto v h block).tables = s.tables := by
  simp [State.fetchInto]

@[simp] theorem State.tables_fetchNext (s : State) (v : VoiceId) : (s.fetchNext v).tables = s.tables := by
  unfold State.fetchNext
  extract_lets x
  split
  · split <;> simp
  · rfl

@[simp] theorem State.tables_fetchDone (s : State) (v : VoiceId) (f : Fetch) : (s.fetchDone v f).tables = s.tables := by
  unfold State.fetchDone
  extract_lets x filled y t
  split
  · split <;> simp [t]
  · simp

/-! ## Jobs (R148, R149, R155) -/

@[simp] theorem State.tables_queueJob (s : State) (j : Job) : (s.queueJob j).tables = s.tables := rfl

@[simp] theorem State.tables_beginOp (s : State) (op : ArrayOp) : (s.beginOp op).tables = s.tables := rfl

@[simp] theorem State.tables_startJob (s : State) : s.startJob.tables = s.tables := by
  unfold State.startJob
  split
  · split <;> simp
  · rfl

@[simp] theorem State.tables_completeJob (s : State) : s.completeJob.tables = s.tables := by
  unfold State.completeJob
  split
  · extract_lets t
    split
    · simp [t]
    · split; simp [t]
  · rfl

@[simp] theorem State.tables_goOn (s : State) : s.goOn.tables = s.tables := by
  obtain ⟨t, h, e⟩ | ⟨-, ⟨-, e⟩ | ⟨-, op, rest, -, e⟩ | ⟨-, -, e⟩⟩ := State.goOn_cases s
  · rw [e]; exact State.tables_grantRead h
  · rw [e]; rfl
  · rw [e]; rfl
  · rw [e, State.tables_modStore]; split <;> simp

@[simp] theorem State.tables_finishOp (s : State) (op : ArrayOp) : (s.finishOp op).tables = s.tables := rfl

@[simp] theorem State.tables_opComplete (s : State) (op : ArrayOp) : (s.opComplete op).tables = s.tables := by
  unfold State.opComplete
  extract_lets t u
  split
  · rw [State.tables_goOn]
    simp only [u]
    split <;> simp [t]
  · simp [t]

@[simp] theorem State.tables_abandonClip (s : State) (id : Nat) : (s.abandonClip id).tables = s.tables := by
  unfold State.abandonClip
  rw [State.tables_modStore]
  exact (State.tables_foldl (fun t j => by simp) _ _).trans (by simp)

@[simp] theorem State.tables_dropStoreWork (s : State) (l : LinkId) : (s.dropStoreWork l).tables = s.tables := by
  unfold State.dropStoreWork
  rw [State.tables_modStore]
  split
  · split <;> simp
  · rfl

/-! ## Voices (R162 to R168) -/

@[simp] theorem State.tables_endVoice (s : State) (v : VoiceId) (o : VoiceOutcome) :
    (s.endVoice v o).tables = s.tables := by
  unfold State.endVoice
  extract_lets x t
  split <;> simp [t]

@[simp] theorem State.tables_endVoices (s : State) (o : VoiceOutcome) : (s.endVoices o).tables = s.tables :=
  State.tables_foldl (fun t v => by split <;> simp) _ s

@[simp] theorem State.tables_orphanVoices (s : State) (l : LinkId) : (s.orphanVoices l).tables = s.tables := by
  refine State.tables_foldl (fun t v => ?_) _ s
  extract_lets x u
  split
  · split
    · split <;> simp [u]
    · simp [u]
  · rfl

theorem State.tables_allocate {s t : State} {priority : Nat} {v : VoiceId} (h : s.allocate priority = some (v, t)) :
    t.tables = s.tables := by
  unfold State.allocate at h
  split at h
  · cases h; rfl
  · obtain ⟨w, -, e⟩ := Option.map_eq_some_iff.mp h
    cases e
    simp

@[simp] theorem State.tables_startVoice (s : State) (v : VoiceId) (make : BitVec 32 → Voice) :
    (s.startVoice v make).tables = s.tables := rfl

@[simp] theorem State.tables_startClip (s : State) (v : VoiceId) (a : Start) (rate : Nat) (e : DirEntry) :
    (s.startClip v a rate e).tables = s.tables := by
  simp [State.startClip]

@[simp] theorem State.tables_startTone (s : State) (v : VoiceId) (a : Start) (freq duration : Nat) :
    (s.startTone v a freq duration).tables = s.tables := rfl

@[simp] theorem State.tables_enterHalf (s : State) (v : VoiceId) (h : Half) : (s.enterHalf v h).tables = s.tables := by
  unfold State.enterHalf
  extract_lets x
  split <;> simp

@[simp] theorem State.tables_underrunVoice (s : State) (v : VoiceId) (block : Nat) :
    (s.underrunVoice v block).tables = s.tables := by
  unfold State.underrunVoice
  extract_lets x t
  split <;> simp [t]

@[simp] theorem State.tables_stepClip (s : State) (v : VoiceId) (f : ClipFormat) (n : Nat) (region : Option (Nat × Nat)) :
    (s.stepClip v f n region).1.tables = s.tables := by
  unfold State.stepClip
  extract_lets x index
  split
  · simp
  · extract_lets t y term
    split
    extract_lets u
    split
    · simp [u, t]
    · split <;> simp [u, t]

@[simp] theorem State.tables_stepTone (s : State) (v : VoiceId) (freq : Nat) :
    (s.stepTone v freq).1.tables = s.tables := by
  unfold State.stepTone
  extract_lets x term t
  simp only
  split <;> simp [t]

@[simp] theorem State.tables_stepVoice (s : State) (v : VoiceId) : (s.stepVoice v).1.tables = s.tables := by
  unfold State.stepVoice
  split <;> simp

theorem State.tables_stepVoices (s : State) : s.stepVoices.1.tables = s.tables :=
  foldl_induct (R := fun (p q : State × Int) => q.1.tables = p.1.tables) (fun _ => rfl) (fun a b => b.trans a) VoiceId.all
    (fun p v _ => by simp) (s, 0)

@[simp] theorem State.tables_outputSampleStep (s : State) : s.outputSampleStep.tables = s.tables := by
  simp [State.outputSampleStep, State.tables_stepVoices]

/-! ## Requests and events of the store and the sound engine -/

@[simp] theorem State.tables_refuseAtPointer (s : State) (r : ReplyTo) : (s.refuseAtPointer r).tables = s.tables := by
  unfold State.refuseAtPointer
  split <;> simp

@[simp] theorem State.tables_clipBeginBody (s : State) (r : ReplyTo) (ps : List Byte) :
    (s.clipBeginBody r ps).tables = s.tables := by
  unfold State.clipBeginBody
  split <;> simp

@[simp] theorem State.tables_clipDataBody (s : State) (r : ReplyTo) (ps : List Byte) :
    (s.clipDataBody r ps).tables = s.tables := by
  unfold State.clipDataBody
  extract_lets
  split
  · simp
  · split
    · simp
    · simp
    · split <;> simp

@[simp] theorem State.tables_clipEndBody (s : State) (r : ReplyTo) (ps : List Byte) :
    (s.clipEndBody r ps).tables = s.tables := by
  unfold State.clipEndBody
  extract_lets
  repeat' split
  all_goals simp

@[simp] theorem State.tables_clipDeleteBody (s : State) (r : ReplyTo) (ps : List Byte) :
    (s.clipDeleteBody r ps).tables = s.tables := by
  unfold State.clipDeleteBody
  extract_lets
  repeat' split
  all_goals simp

@[simp] theorem State.tables_clipInfoBody (s : State) (r : ReplyTo) (ps : List Byte) (guardHigh : Bool) :
    (s.clipInfoBody r ps guardHigh).tables = s.tables := by
  unfold State.clipInfoBody
  repeat' split
  all_goals simp

@[simp] theorem State.tables_clipReadBody (s : State) (r : ReplyTo) (ps : List Byte) :
    (s.clipReadBody r ps).tables = s.tables := by
  unfold State.clipReadBody
  extract_lets
  repeat' split
  all_goals simp

@[simp] theorem State.tables_setProtectBody (s : State) (r : ReplyTo) (ps : List Byte) (guardHigh : Bool) :
    (s.setProtectBody r ps guardHigh).tables = s.tables := by
  unfold State.setProtectBody
  extract_lets
  split
  · simp
  · extract_lets
    repeat' split
    all_goals simp

@[simp] theorem State.tables_cleanupStartStep (s : State) : s.cleanupStartStep.tables = s.tables := by
  unfold State.cleanupStartStep
  split
  · split <;> simp
  · rfl

@[simp] theorem State.tables_arrayReadCompleteStep (s : State) : s.arrayReadCompleteStep.tables = s.tables := by
  unfold State.arrayReadCompleteStep
  split
  · extract_lets t u w
    have served : u.tables = s.tables := by
      simp only [u]
      split <;> simp [t]
    split <;> simp [w, served]
  · rfl

@[simp] theorem State.tables_playBody (s : State) (r : ReplyTo) (ps : List Byte) : (s.playBody r ps).tables = s.tables := by
  unfold State.playBody
  split
  · simp
  · extract_lets priority
    split
    · simp
    · rename_i v t h
      have := State.tables_allocate h
      split <;> simp [this]

@[simp] theorem State.tables_stopVoiceBody (s : State) (r : ReplyTo) (ps : List Byte) :
    (s.stopVoiceBody r ps).tables = s.tables := by
  unfold State.stopVoiceBody
  split
  · simp
  · rw [State.tables_answer]
    split <;> simp

@[simp] theorem State.tables_setVolumeBody (s : State) (r : ReplyTo) (ps : List Byte) :
    (s.setVolumeBody r ps).tables = s.tables := by
  simp [State.setVolumeBody]

/-! ## Requests of the links and the supply monitor -/

@[simp] theorem State.tables_selFallStep (s : State) (l : LinkId) : (s.selFallStep l).tables = s.tables := by
  unfold State.selFallStep
  split <;> simp

@[simp] theorem State.tables_setLinkBody (s : State) (r : ReplyTo) (ps : List Byte) :
    (s.setLinkBody r ps).tables = s.tables := by
  unfold State.setLinkBody
  extract_lets
  split <;> simp

@[simp] theorem State.tables_clearFlagsBody (s : State) (r : ReplyTo) (ps : List Byte) :
    (s.clearFlagsBody r ps).tables = s.tables := by
  unfold State.clearFlagsBody
  split <;> simp

theorem State.tables_take {s t : State} {l : LinkId} {req : Request} (h : s.take l req = some t) :
    t.tables = s.tables := by
  unfold State.take at h
  split at h
  · cases h
  · split at h
    · cases h; rfl
    · cases h

@[simp] theorem State.tables_unknownStep (s : State) (l : LinkId) (tag code : Byte) (ps : List Byte) :
    (s.unknownStep l tag code ps).tables = s.tables := by
  unfold State.unknownStep
  split
  · split
    · rename_i h; simp [State.tables_take h]
    · rfl
  · rfl

@[simp] theorem State.tables_codelessStep (s : State) (l : LinkId) (tag : Byte) :
    (s.codelessStep l tag).tables = s.tables := by
  unfold State.codelessStep
  split
  · rename_i h; simp [State.tables_take h]
  · rfl

@[simp] theorem State.tables_startWarning (s : State) : s.startWarning.tables = s.tables := by
  unfold State.startWarning
  split
  · rfl
  · split
    · rfl
    · split
      · rename_i h; simp [State.tables_allocate h]
      · rfl

@[simp] theorem State.tables_warningTimerStep (s : State) : s.warningTimerStep.tables = s.tables := by
  unfold State.warningTimerStep
  split <;> simp

@[simp] theorem State.tables_setSupplyBody (s : State) (r : ReplyTo) (ps : List Byte) :
    (s.setSupplyBody r ps).tables = s.tables := by
  unfold State.setSupplyBody
  extract_lets
  repeat' split
  all_goals simp

end Sys2Proof.Machine
end

section
/-! Every command keeps the port records, the motion units and pairs, and the subscription table within their bounds
(R2, R12, R39, R41, R57, R101, R126, R129, R138). -/

namespace Sys2Proof.Machine

/-- The step from `s` to `t` keeps each of the tables within its bounds. -/
structure State.KeepsTables (s t : State) : Prop where
  ports : (∀ p, (s.port p).inv) → ∀ p, (t.port p).inv
  motion : s.motionInv → t.motionInv
  streams : s.streamInv → t.streamInv

theorem State.KeepsTables.refl (s : State) : s.KeepsTables s := ⟨id, id, id⟩

theorem State.KeepsTables.trans {s t u : State} (a : s.KeepsTables t) (b : t.KeepsTables u) : s.KeepsTables u :=
  ⟨b.ports ∘ a.ports, b.motion ∘ a.motion, b.streams ∘ a.streams⟩

theorem State.KeepsTables.after {s t u : State} (b : t.KeepsTables u) (a : s.KeepsTables t) : s.KeepsTables u := a.trans b

theorem State.keepsTables_of_tables {s t : State} (h : t.tables = s.tables) : s.KeepsTables t := by
  have ports : t.ports = s.ports := congrArg Tables.ports h
  have motion : t.motion = s.motion := congrArg Tables.motion h
  have pairs : t.pairs = s.pairs := congrArg Tables.pairs h
  have streams : t.streams = s.streams := congrArg Tables.streams h
  refine ⟨fun i p => ?_, fun i => ?_, fun i => ?_⟩
  · rw [State.port, ports]; exact i p
  · unfold State.motionInv State.unit State.pairAt at *; rwa [motion, pairs]
  · unfold State.streamInv at *; rwa [streams]

/-- Work on the units and pairs keeps all three tables. -/
theorem State.MotionWork.keepsTables {s t : State} (h : s.MotionWork t) : s.KeepsTables t := by
  refine ⟨fun i p => ?_, h.inv, fun i => ?_⟩
  · rw [State.port, show t.ports = s.ports by rw [h.frame]]; exact i p
  · unfold State.streamInv at *; rwa [show t.streams = s.streams by rw [h.frame]]

theorem State.keepsTables_setPort (s : State) (p : Port) {u : PortUnit} (h : (s.port p).inv → u.inv) :
    s.KeepsTables (s.setPort p u) := by
  refine ⟨fun i x => ?_, id, id⟩
  rw [State.setPort_port]
  split
  · exact h (i p)
  · exact i x

theorem State.keepsTables_modPort (s : State) (p : Port) {f : PortUnit → PortUnit} (h : ∀ u : PortUnit, u.inv → (f u).inv) :
    s.KeepsTables (s.modPort p f) := s.keepsTables_setPort p (h _)

theorem State.keepsTables_setStreams (s : State) {es : List StreamEntry} (h : s.streamInv → (s.setStreams es).streamInv) :
    s.KeepsTables (s.setStreams es) := ⟨id, id, h⟩

/-! ### Steps put after a step -/

section
variable {s t : State} (h : s.KeepsTables t)
include h

theorem State.KeepsTables.same {u : State} (e : u.tables = t.tables) : s.KeepsTables u :=
  h.trans (State.keepsTables_of_tables e)

theorem State.KeepsTables.answer (r : ReplyTo) (st : Status) (payload : List Byte) :
    s.KeepsTables (t.answer r st payload) := h.same (by simp)

theorem State.KeepsTables.notify (l : LinkId) (n : Notice) : s.KeepsTables (t.notify l n) := h.same rfl

theorem State.KeepsTables.notifyAll (n : Notice) : s.KeepsTables (t.notifyAll n) := h.same rfl

theorem State.KeepsTables.setClaim (p : Port) (c : Claim) : s.KeepsTables (t.setClaim p c) := h.same rfl

theorem State.KeepsTables.modPort (p : Port) {f : PortUnit → PortUnit} (k : ∀ u : PortUnit, u.inv → (f u).inv) :
    s.KeepsTables (t.modPort p f) := h.trans (t.keepsTables_modPort p k)

end

theorem State.keepsTables_foldl {β : Type} {f : State → β → State} (h : ∀ (t : State) x, t.KeepsTables (f t x)) (xs : List β)
    (s : State) : s.KeepsTables (xs.foldl f s) :=
  foldl_induct .refl .trans xs (fun t x _ => h t x) s

theorem State.keepsTables_answer (s : State) (r : ReplyTo) (st : Status) (payload : List Byte) :
    s.KeepsTables (s.answer r st payload) := (State.KeepsTables.refl s).answer r st payload

/-! ## The subscription table (R126 to R138) -/

/-- What the entries' order and keys ask of each two of them. -/
abbrev StreamEntry.before (d e : StreamEntry) : Prop := d.id < e.id ∧ d.key ≠ e.key

/-- The bounds of one entry: its id is one of the 24, and it has a member. -/
abbrev StreamEntry.inBounds (e : StreamEntry) : Prop := e.id < 24 ∧ (e.members.cl0 = true ∨ e.members.cl1 = true)

/-- Entries that keep their ids and keys and have a member stay in order. -/
theorem State.streamInv_map {s : State} {f : StreamEntry → StreamEntry} (id : ∀ e, (f e).id = e.id)
    (key : ∀ e, (f e).key = e.key)
    (members : ∀ e ∈ s.streams, e.inBounds → (f e).members.cl0 = true ∨ (f e).members.cl1 = true)
    (h : s.streamInv) : (s.setStreams (s.streams.map f)).streamInv := by
  obtain ⟨order, bounds⟩ := h
  refine ⟨List.pairwise_map.mpr (order.imp fun g => ?_), fun e he => ?_⟩
  · rw [id, id, key, key]; exact g
  · obtain ⟨d, hd, rfl⟩ := List.mem_map.mp he
    exact ⟨by rw [id]; exact (bounds d hd).1, members d hd (bounds d hd)⟩

theorem State.streamInv_filter {s : State} (f : StreamEntry → Bool) (h : s.streamInv) :
    (s.setStreams (s.streams.filter f)).streamInv :=
  ⟨h.1.filter f, fun e he => h.2 e (List.mem_of_mem_filter he)⟩

theorem StreamEntry.sent_kept (e : StreamEntry) (us : List Update) (now : BitVec 32) :
    e.sent us now = { e with lastEmit := (e.sent us now).lastEmit, lastSent := (e.sent us now).lastSent } := by
  unfold StreamEntry.sent
  split <;> rfl

theorem StreamEntry.modeChange_kept (e : StreamEntry) (p : Port) (mode : Nat) :
    e.modeChange p mode = { e with
      suspended := (e.modeChange p mode).suspended, lastEmit := (e.modeChange p mode).lastEmit } := by
  unfold StreamEntry.modeChange
  repeat' split
  all_goals rfl

theorem State.tables_offerData (s : State) (e : StreamEntry) (u : Update) : (s.offerData e u).tables = s.tables :=
  State.tables_foldl (fun t l => by split <;> simp) _ s

/-- An offer of source updates changes the entries' last emissions and the links alone. -/
theorem State.tables_offerUpdates (s : State) (us : List Update) :
    (s.offerUpdates us).tables = (s.setStreams (s.streams.map fun e => e.sent us s.deviceTime)).tables :=
  State.tables_foldl (fun t e => by split <;> simp [State.tables_offerData]) _ _

theorem State.keepsTables_offerUpdates (s : State) (us : List Update) : s.KeepsTables (s.offerUpdates us) := by
  refine State.KeepsTables.same (s.keepsTables_setStreams (State.streamInv_map ?_ ?_ fun e _ b => ?_))
    (s.tables_offerUpdates us)
  · intro e; rw [StreamEntry.sent_kept]
  · intro e; rw [StreamEntry.sent_kept]
  · rw [StreamEntry.sent_kept]; exact b.2

theorem State.keepsTables_streamModeChange (s : State) (p : Port) (mode : Nat) :
    s.KeepsTables (s.streamModeChange p mode) := by
  refine s.keepsTables_setStreams (State.streamInv_map ?_ ?_ fun e _ b => ?_)
  · intro e; rw [StreamEntry.modeChange_kept]
  · intro e; rw [StreamEntry.modeChange_kept]
  · rw [StreamEntry.modeChange_kept]; exact b.2

theorem State.keepsTables_offerMotion (s : State) (p : Port) : s.KeepsTables (s.offerMotion p) := by
  unfold State.offerMotion
  split
  · exact s.keepsTables_offerUpdates _
  · exact .refl s

theorem State.tables_endStreamFor (s : State) (e : StreamEntry) (l : LinkId) : (s.endStreamFor e l).tables = s.tables := by
  unfold State.endStreamFor
  split <;> simp

theorem State.keepsTables_removeStreams (s : State) (p : Port) : s.KeepsTables (s.removeStreams p) := by
  unfold State.removeStreams
  refine State.KeepsTables.trans (t := s.setStreams (s.streams.filter fun e => e.key.port != some p))
    (s.keepsTables_setStreams (State.streamInv_filter _)) (State.keepsTables_of_tables ?_)
  have told := State.tables_foldl (fun t e => State.tables_foldl (fun u l => u.tables_endStreamFor e l) LinkId.all t)
    (s.streams.filter fun e => e.key.port == some p) s
  have ports := congrArg Tables.ports told
  have motion := congrArg Tables.motion told
  have pairs := congrArg Tables.pairs told
  simp only [State.tables] at ports motion pairs
  simp [State.tables, ports, motion, pairs]

theorem State.keepsTables_leaveStreams (s : State) (l : LinkId) : s.KeepsTables (s.leaveStreams l) := by
  refine s.keepsTables_setStreams fun ⟨order, bounds⟩ => ⟨?_, fun e he => ?_⟩
  · exact (List.pairwise_map.mpr (order.imp fun g => g)).filter _
  · obtain ⟨he, some⟩ := List.mem_filter.mp he
    obtain ⟨d, hd, rfl⟩ := List.mem_map.mp he
    exact ⟨(bounds d hd).1, by simpa using some⟩

theorem mem_insertStream {e x : StreamEntry} {es : List StreamEntry} : x ∈ insertStream e es ↔ x = e ∨ x ∈ es := by
  induction es with
  | nil => simp [insertStream]
  | cons d rest ih =>
    unfold insertStream
    split
    · simp
    · rw [List.mem_cons, ih, List.mem_cons]; tauto

/-- A new entry with an id and a key of its own takes its place in the order. -/
theorem insertStream_pairwise {e : StreamEntry} {es : List StreamEntry} (order : es.Pairwise StreamEntry.before)
    (fresh : ∀ d ∈ es, d.id ≠ e.id ∧ d.key ≠ e.key) : (insertStream e es).Pairwise StreamEntry.before := by
  induction es with
  | nil => simp [insertStream]
  | cons d rest ih =>
    obtain ⟨first, order⟩ := List.pairwise_cons.mp order
    obtain ⟨hd, hk⟩ := fresh d (by simp)
    have others : ∀ x ∈ rest, x.id ≠ e.id ∧ x.key ≠ e.key := fun x hx => fresh x (by simp [hx])
    unfold insertStream
    split
    · rename_i lt
      refine List.pairwise_cons.mpr ⟨fun x hx => ?_, List.pairwise_cons.mpr ⟨first, order⟩⟩
      rcases List.mem_cons.mp hx with rfl | hx
      · exact ⟨lt, hk.symm⟩
      · exact ⟨lt.trans (first x hx).1, (others x hx).2.symm⟩
    · rename_i ge
      refine List.pairwise_cons.mpr ⟨fun x hx => ?_, ih order others⟩
      rcases mem_insertStream.mp hx with rfl | hx
      · exact ⟨by omega, hk⟩
      · exact first x hx

theorem Two.set_true_some (m : Two Bool) (l : LinkId) : (m.set l true).cl0 = true ∨ (m.set l true).cl1 = true := by
  cases l
  · exact .inl rfl
  · exact .inr rfl

theorem State.keepsTables_joinStream {s t : State} {l : LinkId} {key : StreamKey} {n : Nat}
    (h : s.joinStream l key = some (n, t)) : s.KeepsTables t := by
  unfold State.joinStream at h
  split at h
  · cases h
    refine s.keepsTables_setStreams (State.streamInv_map ?_ ?_ fun e _ b => ?_)
    · intro e; split <;> rfl
    · intro e; split <;> rfl
    · split
      · exact Two.set_true_some e.members l
      · exact b.2
  · rename_i new
    obtain ⟨m, free, e⟩ := Option.map_eq_some_iff.mp h
    cases e
    refine s.keepsTables_setStreams fun ⟨order, bounds⟩ => ⟨insertStream_pairwise order fun d hd => ?_, fun e he => ?_⟩
    · have unused := List.find?_some free
      simp only [Bool.not_eq_true', List.any_eq_false, beq_iff_eq] at unused
      exact ⟨unused d hd, by simpa using List.find?_eq_none.mp new d hd⟩
    · rcases mem_insertStream.mp he with rfl | he
      · exact ⟨List.mem_range.mp (List.mem_of_find?_eq_some free), Two.set_true_some _ l⟩
      · exact bounds e he

theorem State.keepsTables_subscribeBody (s : State) (r : ReplyTo) (ps : List Byte) :
    s.KeepsTables (s.subscribeBody r ps) := by
  unfold State.subscribeBody
  split
  · exact s.keepsTables_answer _ _ _
  · split
    · exact s.keepsTables_answer _ _ _
    · extract_lets
      split
      · exact s.keepsTables_answer _ _ _
      · rename_i h; exact (State.keepsTables_joinStream h).answer _ _ _

theorem State.keepsTables_unsubscribeBody (s : State) (r : ReplyTo) (ps : List Byte) :
    s.KeepsTables (s.unsubscribeBody r ps) := by
  unfold State.unsubscribeBody
  split
  · rename_i e _
    split
    · extract_lets members t
      refine State.KeepsTables.answer ((State.keepsTables_of_tables (by simp [t])).trans
        (t.keepsTables_setStreams ?_)) _ _ _
      split
      · rename_i left
        refine State.streamInv_map (s := t) ?_ ?_ fun d _ b => ?_
        · intro d; split <;> rfl
        · intro d; split <;> rfl
        · split
          · simpa using left
          · exact b.2
      · exact State.streamInv_filter (s := t) _
    · exact s.keepsTables_answer _ _ _
  · exact s.keepsTables_answer _ _ _

theorem State.tables_listStreamsBody (s : State) (r : ReplyTo) (ps : List Byte) :
    (s.listStreamsBody r ps).tables = s.tables := by
  unfold State.listStreamsBody
  split <;> simp

/-! ## Claims (R45 to R54) -/

theorem State.keepsTables_settleClaim (s : State) (p : Port) (e : Option Settlement) :
    s.KeepsTables (s.settleClaim p e) := by
  unfold State.settleClaim
  split
  · exact (s.unitWork_modUnit p fun i => MotionUnit.endAction_inv i _ _ _).motionWork.keepsTables
  · exact .refl s

theorem State.keepsTables_claimRule {s t : State} {l : LinkId} {p : Port} {code : Byte} {e : Option Settlement}
    (h : s.claimRule l p code = .ok (t, e)) : s.KeepsTables t := by
  unfold State.claimRule at h
  split at h
  · cases h; exact State.keepsTables_of_tables rfl
  · split at h
    · cases h; exact .refl s
    · split at h
      · cases h
      · cases h
        exact ((s.unitWork_endQueue p _ _).motionWork.keepsTables.setClaim _ _).notify _ _

theorem State.keepsTables_claiming (s : State) (r : ReplyTo) (ps : List Byte)
    {body : State → Port → Option Settlement → State} (h : ∀ (t : State) p e, t.KeepsTables (body t p e)) :
    s.KeepsTables (s.claiming r ps body) := by
  unfold State.claiming
  split
  · exact s.keepsTables_answer _ _ _
  · rename_i p _
    split
    · exact s.keepsTables_answer _ _ _
    · rename_i t e claim
      refine State.KeepsTables.trans ?_ (h t p e)
      unfold State.claimPort at claim
      repeat' split at claim
      · cases claim
      · cases claim
      · exact State.keepsTables_claimRule claim

theorem State.keepsTables_settlePairClaim (s : State) {q : PairId} {r' r : PairRec} (e : s.pairAt q = some r')
    (ha : r'.portA = r.portA) (hb : r'.portB = r.portB) (x : Option PairSettlement) :
    s.KeepsTables (s.settlePairClaim r x) := by
  unfold State.settlePairClaim
  split
  · exact (s.pairWork_pairEndAction e ha hb _ _).motionWork.keepsTables
  · exact .refl s

/-- The claim step for a pair keeps the tables, and the pair keeps a record of the same ports. -/
theorem State.keepsTables_claimPair {s t : State} {l : LinkId} {q : PairId} {r : PairRec} {code : Byte}
    {e : Option PairSettlement} (record : s.pairAt q = some r) (h : s.claimPair l q r code = .ok (t, e)) :
    s.KeepsTables t ∧ ∃ r', t.pairAt q = some r' ∧ r'.portA = r.portA ∧ r'.portB = r.portB := by
  unfold State.claimPair at h
  split at h
  · cases h
  · split at h
    · cases h; exact ⟨State.keepsTables_of_tables rfl, r, record, rfl, rfl⟩
    · split at h
      · cases h; exact ⟨.refl s, r, record, rfl, rfl⟩
      · cases h
        obtain ⟨r', e', ha, hb, -⟩ := State.endPairQueue_record record .takenOver .takenOver
        refine ⟨?_, r', e', ha, hb⟩
        exact ((((s.pairWork_endPairQueue q _ _).motionWork.keepsTables.setClaim _ _).setClaim _ _).notify _ _).notify _ _

theorem State.keepsTables_claimingPair (s : State) (r : ReplyTo) (id : Nat)
    {body : State → PairId → PairRec → Option PairSettlement → State}
    (h : ∀ (t : State) q (x : PairRec) e, (∃ x', t.pairAt q = some x' ∧ x'.portA = x.portA ∧ x'.portB = x.portB) →
      t.KeepsTables (body t q x e)) : s.KeepsTables (s.claimingPair r id body) := by
  unfold State.claimingPair
  split
  · exact s.keepsTables_answer _ _ _
  · split
    · exact s.keepsTables_answer _ _ _
    · rename_i record
      split
      · exact s.keepsTables_answer _ _ _
      · rename_i claim
        obtain ⟨keeps, same⟩ := State.keepsTables_claimPair record claim
        exact keeps.trans (h _ _ _ _ same)

theorem State.keepsTables_lockBody (s : State) (r : ReplyTo) (ps : List Byte) : s.KeepsTables (s.lockBody r ps) := by
  unfold State.lockBody
  split
  · refine s.keepsTables_claiming r _ fun t p e => ?_
    exact (State.KeepsTables.trans (s := t) (t := t.setLocked p true) (State.keepsTables_of_tables rfl)
      (State.keepsTables_settleClaim _ p e)).answer _ _ _
  · refine s.keepsTables_claimingPair r _ fun t q x e ⟨x', same, ha, hb⟩ => ?_
    refine State.KeepsTables.answer (State.KeepsTables.trans (State.keepsTables_of_tables ?_)
      (State.keepsTables_settlePairClaim _ (q := q) (r' := x') ?_ ha hb e)) _ _ _
    · rfl
    · exact same
  · exact s.keepsTables_answer _ _ _

theorem State.keepsTables_unlockBody (s : State) (r : ReplyTo) (ps : List Byte) : s.KeepsTables (s.unlockBody r ps) := by
  unfold State.unlockBody
  split
  · exact s.keepsTables_answer _ _ _
  · exact State.keepsTables_of_tables (by simp [State.setLocked])
  · exact State.keepsTables_of_tables (by simp [State.setLocked])

theorem State.keepsTables_freePort (s : State) (p : Port) (o : SegOutcome) {state : MotorState} (h : state ≠ .holding) :
    s.KeepsTables (s.freePort p o state) :=
  ((s.unitWork_endQueue p o o).trans (State.unitWork_settleUnit _ p h)).motionWork.keepsTables.setClaim _ _

theorem State.keepsTables_freePair (s : State) {q : PairId} {r : PairRec} (e : s.pairAt q = some r) (o : SegOutcome)
    {state : MotorState} (h : state ≠ .holding) : s.KeepsTables (s.freePair q r o state) := by
  obtain ⟨r', e', ha, hb, -⟩ := State.endPairQueue_record e o o
  exact (((s.pairWork_endPairQueue q o o).trans
    (State.pairWork_settlePair _ e' ha hb h)).motionWork.keepsTables.setClaim _ _).setClaim _ _

theorem State.ownTarget_pair {s : State} {l : LinkId} {ps : List Byte} {q : PairId} {r : PairRec}
    (h : s.ownTarget l ps = .ok (.inr (q, r))) : s.pairAt q = some r := by
  unfold State.ownTarget at h
  repeat' split at h
  all_goals cases h
  assumption

theorem State.keepsTables_releaseBody (s : State) (r : ReplyTo) (ps : List Byte) : s.KeepsTables (s.releaseBody r ps) := by
  unfold State.releaseBody
  split
  · exact s.keepsTables_answer _ _ _
  · exact (s.keepsTables_freePort _ _ (by decide)).answer _ _ _
  · rename_i own; exact (s.keepsTables_freePair (State.ownTarget_pair own) _ (by decide)).answer _ _ _

theorem LapseAction.motor_ne_holding (a : LapseAction) : LapseAction.motor a ≠ .holding := by cases a <;> decide

theorem State.keepsTables_releasePort (s : State) (l : LinkId) (p : Port) : s.KeepsTables (s.releasePort l p) := by
  unfold State.releasePort
  split
  · extract_lets state
    have settles : state ≠ .holding := LapseAction.motor_ne_holding _
    split
    · split
      · rename_i record; exact s.keepsTables_freePair record _ settles
      · exact .refl s
    · exact s.keepsTables_freePort p _ settles
  · exact .refl s

/-! ## Links (R180, R181) -/

theorem State.keepsTables_undoLink (s : State) (l : LinkId) : s.KeepsTables (s.undoLink l) :=
  have released : s.KeepsTables (s.releaseClaims l) :=
    State.keepsTables_foldl (fun t p => t.keepsTables_releasePort l p) Port.all s
  (released.trans (State.keepsTables_leaveStreams _ l)).same (by simp [State.undoLink])

theorem State.keepsTables_ageTickStep (s : State) (l : LinkId) : s.KeepsTables (s.ageTickStep l) := by
  unfold State.ageTickStep
  split
  · extract_lets t
    have ticked : s.KeepsTables t := State.keepsTables_of_tables rfl
    split
    · exact ((ticked.same (u := t.modLink l fun k => { k.emptied with state := .lapsed, ageTimer := none }) rfl).trans
        (State.keepsTables_undoLink _ l)).notify _ _
    · exact ticked
  · exact .refl s

theorem State.keepsTables_leaveStep (s : State) (r : ReplyTo) : s.KeepsTables (s.leaveStep r) :=
  ((State.keepsTables_of_tables (s.tables_modLink r.link Link.emptied)).trans
    (State.keepsTables_undoLink _ r.link)).same (by simp [State.leaveStep])

/-! ## Motion (R60 to R79) -/

theorem State.unitWork_placeSegment (s : State) (p : Port) (g : Segment) (replace : Bool) (taken : Option Segment)
    (room : replace = false → (s.unit p).queue.length < 4) : s.UnitWork p (s.placeSegment p g replace taken) := by
  unfold State.placeSegment
  extract_lets held prev
  split
  · exact ((s.unitWork_endQueue p _ _).trans (State.unitWork_modUnit _ p fun i => ⟨by simp, i.2⟩)).trans
      (State.unitWork_activate _ p _)
  · rename_i append
    have short := room (by simpa using (not_or.mp append).1)
    exact s.unitWork_modUnit p fun i => ⟨by simp only [List.length_append, List.length_singleton]; omega, i.2⟩

theorem State.moveCheck_room {s : State} {r : ReplyTo} {p : Port} {ps : List Byte} {g : Segment} {replace : Bool}
    (h : s.moveCheck r p ps = .ok (g, replace)) : replace = false → (s.unit p).queue.length < 4 := by
  unfold State.moveCheck at h
  repeat' split at h
  all_goals cases h
  rename_i full
  intro append
  by_contra long
  exact full ⟨append, by omega⟩

theorem State.keepsTables_moveBody (s : State) (r : ReplyTo) (p : Port) (e : Option Settlement) (ps : List Byte) :
    s.KeepsTables (s.moveBody r p e ps) := by
  unfold State.moveBody
  split
  · exact (s.keepsTables_settleClaim p e).answer _ _ _
  · rename_i check
    have placed := fun g => (s.unitWork_placeSegment p g _ (e.map Settlement.seg)
      (State.moveCheck_room check)).motionWork.keepsTables
    extract_lets g t
    split
    · exact (placed g).answer _ _ _
    · exact (placed g).answer _ _ _

theorem State.keepsTables_stopBody (s : State) (r : ReplyTo) (p : Port) (e : Option Settlement) (ps : List Byte) :
    s.KeepsTables (s.stopBody r p e ps) := by
  unfold State.stopBody
  split
  · exact (s.keepsTables_settleClaim p e).answer _ _ _
  · split
    · exact s.keepsTables_answer _ _ _
    · exact ((s.unitWork_endQueue p _ _).trans
        (State.unitWork_modUnit _ p fun i => MotionUnit.endAction_inv i _ _ _)).motionWork.keepsTables.answer _ _ _

theorem MotionUnit.reduceDuty_inv {m : MotionUnit} (h : m.inv) (c : Int) : (m.reduceDuty c).inv := by
  unfold MotionUnit.reduceDuty
  extract_lets
  split <;> exact h

theorem State.keepsTables_setRegulatorBody (s : State) (r : ReplyTo) (p : Port) (e : Option Settlement) (ps : List Byte) :
    s.KeepsTables (s.setRegulatorBody r p e ps) := by
  unfold State.setRegulatorBody
  split
  · extract_lets t
    have set : s.UnitWork p t := s.unitWork_modUnit p fun i =>
      MotionUnit.reduceDuty_inv (m := { s.unit p with settings := (s.unit p).settings.given ps }) i _
    exact (set.motionWork.keepsTables.trans (State.keepsTables_settleClaim _ p e)).answer _ _ _
  · exact (s.keepsTables_settleClaim p e).answer _ _ _

theorem State.keepsTables_setPositionBody (s : State) (r : ReplyTo) (p : Port) (e : Option Settlement) (ps : List Byte) :
    s.KeepsTables (s.setPositionBody r p e ps) := by
  unfold State.setPositionBody
  split
  · exact (s.keepsTables_settleClaim p e).answer _ _ _
  · split
    · exact (s.keepsTables_settleClaim p e).answer _ _ _
    · exact ((s.unitWork_modUnit p fun i => i).motionWork.keepsTables.trans
        (State.keepsTables_settleClaim _ p e)).answer _ _ _

theorem State.keepsTables_stopLineStep (s : State) : s.KeepsTables s.stopLineStep := by
  unfold State.stopLineStep
  extract_lets t
  have line : s.KeepsTables t := State.keepsTables_of_tables rfl
  split
  · exact line
  · exact ((line.trans (State.motionWork_stopAll _ _ (by decide)).keepsTables).trans
      (State.motionWork_setHalted _ true).keepsTables).notifyAll _

theorem State.keepsTables_resumeBody (s : State) (r : ReplyTo) : s.KeepsTables (s.resumeBody r) := by
  unfold State.resumeBody
  split
  · split
    · exact s.keepsTables_answer _ _ _
    · exact ((s.motionWork_setHalted false).keepsTables.notifyAll _).answer _ _ _
  · exact s.keepsTables_answer _ _ _

theorem State.keepsTables_regulationStep (s : State) (p : Port) : s.KeepsTables (s.regulationStep p) := by
  obtain ⟨t, work, e⟩ := s.motionWork_regulationStep p
  rw [e]
  exact work.keepsTables.trans (t.keepsTables_offerMotion p)

/-! ## Pairs (R102 to R111) -/

theorem State.keepsTables_claimBoth {s t : State} {l : LinkId} {a b : Port} {code : Byte}
    {e : Option Settlement × Option Settlement} (h : s.claimBoth l a b code = .ok (t, e)) : s.KeepsTables t := by
  unfold State.claimBoth at h
  repeat' split at h
  all_goals cases h
  rename_i first _ _ second
  exact (State.keepsTables_claimRule first).trans (State.keepsTables_claimRule second)

/-- A new pair has an empty queue. -/
theorem State.keepsTables_setPair_new (s : State) (q : PairId) {r : PairRec} (h : r.queue = []) :
    s.KeepsTables (s.setPair q (some r)) := by
  refine ⟨id, fun i => ?_, id⟩
  obtain ⟨units, queues⟩ := State.motionInv_iff.mp i
  refine State.motionInv_iff.mpr ⟨units, fun y x e => ?_⟩
  rw [State.setPair_pairAt] at e
  split at e
  · cases e; simp [h]
  · exact queues y x e

theorem State.keepsTables_pairBody (s : State) (r : ReplyTo) (ps : List Byte) : s.KeepsTables (s.pairBody r ps) := by
  unfold State.pairBody
  split
  · split
    · exact s.keepsTables_answer _ _ _
    · split
      · exact s.keepsTables_answer _ _ _
      · rename_i a b _ _ _ _ t ea eb claim
        have settled (u : State) : u.KeepsTables ((u.settleClaim a ea).settleClaim b eb) :=
          (u.keepsTables_settleClaim a ea).trans (State.keepsTables_settleClaim _ b eb)
        have claimed := State.keepsTables_claimBoth claim
        extract_lets
        split
        · exact (claimed.trans (settled t)).answer _ _ _
        · split
          · exact (claimed.trans (settled t)).answer _ _ _
          · exact ((claimed.trans (t.keepsTables_setPair_new _ rfl)).trans (settled _)).answer _ _ _
  · exact s.keepsTables_answer _ _ _

theorem State.pairWork_placePairSegment (s : State) {q : PairId} {x : PairRec} (record : s.pairAt q = some x)
    (g : PairSegment) (replace : Bool) (taken : Option PairSegment) (room : replace = false → x.queue.length < 4) :
    s.PairWork q (s.placePairSegment q x g replace taken) := by
  unfold State.placePairSegment
  extract_lets prev
  split
  · exact ((s.pairWork_endPairQueue q _ _).trans (State.pairWork_modPair _ q
      (f := fun y => { y with queue := [g] }) (fun _ => ⟨rfl, rfl⟩) fun _ _ _ => by simp)).trans
      (State.pairWork_activatePair _ q _)
  · rename_i append
    have short := room (by simpa using (not_or.mp append).1)
    refine s.pairWork_modPair q (fun _ => ⟨rfl, rfl⟩) fun y e _ => ?_
    obtain rfl : x = y := Option.some.inj (record.symm.trans e)
    simp only [List.length_append, List.length_singleton]
    omega

theorem State.movePairCheck_room {s : State} {r : ReplyTo} {x : PairRec} {ps : List Byte} {g : PairSegment}
    {replace : Bool} (h : s.movePairCheck r x ps = .ok (g, replace)) : replace = false → x.queue.length < 4 := by
  unfold State.movePairCheck at h
  repeat' split at h
  all_goals cases h
  rename_i full _
  intro append
  by_contra long
  exact full ⟨append, by omega⟩

theorem State.keepsTables_movePairBody (s : State) (r : ReplyTo) {q : PairId} {x : PairRec} (record : s.pairAt q = some x)
    (e : Option PairSettlement) (ps : List Byte) : s.KeepsTables (s.movePairBody r q x e ps) := by
  unfold State.movePairBody
  split
  · exact (s.keepsTables_settlePairClaim record rfl rfl e).answer _ _ _
  · rename_i check
    have placed := fun g => (s.pairWork_placePairSegment record g _ (e.map PairSettlement.seg)
      (State.movePairCheck_room check)).motionWork.keepsTables
    extract_lets g t
    split
    · exact (placed g).answer _ _ _
    · exact (placed g).answer _ _ _

end Sys2Proof.Machine
end

section
/-! The port units' operations keep the tables (chapters 1 and 2), and with them every command and every step. -/

namespace Sys2Proof.Machine

/-! ## Samples, attachment and detachment (R5 to R11, R32) -/

theorem State.keepsTables_answers {β : Type} (s : State) (xs : List β) (dest : β → ReplyTo) (st : Status) :
    s.KeepsTables (xs.foldl (fun t x => t.answer (dest x) st []) s) :=
  State.keepsTables_foldl (fun t x => t.keepsTables_answer (dest x) st []) xs s

theorem State.keepsTables_answerModes (s : State) (p : Port) (st : Status) : s.KeepsTables (s.answerModes p st) :=
  (s.keepsTables_answers _ ModeWait.dest st).modPort p fun _ h => h

theorem State.keepsTables_answerWrites (s : State) (p : Port) (st : Status) : s.KeepsTables (s.answerWrites p st) :=
  (s.keepsTables_answers _ WriteReq.dest st).modPort p fun _ ⟨run, faults, _, rest⟩ => ⟨run, faults, Nat.zero_le 4, rest⟩

theorem State.keepsTables_applySample (s : State) (p : Port) (mode : Nat) (raw scaled : List Int) :
    s.KeepsTables (s.applySample p mode raw scaled) := by
  unfold State.applySample
  exact s.keepsTables_modPort p fun _ h => h

theorem State.keepsTables_offerSample (s : State) (p : Port) : s.KeepsTables (s.offerSample p) := by
  unfold State.offerSample
  split
  · exact (s.keepsTables_offerUpdates _).trans (State.motionWork_testConditions _ p _).keepsTables
  · exact .refl s

theorem State.keepsTables_touchSample (s : State) (p : Port) (rxLow : Bool) : s.KeepsTables (s.touchSample p rxLow) :=
  (s.keepsTables_applySample p 0 _ _).trans (State.keepsTables_offerSample _ p)

theorem State.unitWork_attach (s : State) (p : Port) : s.UnitWork p (s.modUnit p MotionUnit.attach) :=
  s.unitWork_modUnit p fun _ => ⟨Nat.zero_le 4, by simp [MotionUnit.attach]⟩

theorem State.keepsTables_attachPassive (s : State) (p : Port) (level : Level) (rxLow : Bool) :
    s.KeepsTables (s.attachPassive p level rxLow) := by
  unfold State.attachPassive
  extract_lets kind touch t u w
  have attached : s.KeepsTables u :=
    (t.unitWork_attach p).motionWork.keepsTables.after (s.keepsTables_modPort p fun _ h => h)
  have sampled : s.KeepsTables w := by
    simp only [w]
    split
    · exact attached.trans (u.keepsTables_touchSample p rxLow)
    · exact attached
  exact sampled.notifyAll _

theorem State.keepsTables_attachSerial (s : State) (p : Port) : s.KeepsTables (s.attachSerial p) :=
  (s.keepsTables_modPort p (f := fun u =>
      ({ u with kind := .serial, typeId := none, desc := none, mode := none, sample := none }).describe) fun _ h => h).trans
    (State.unitWork_attach _ p).motionWork.keepsTables

theorem PortUnit.cleared_inv {u : PortUnit} (h : u.inv) : u.cleared.inv := by
  obtain ⟨run, faults, writes, -, -⟩ := h
  exact ⟨run, faults, writes, Nat.zero_le 8, Nat.le_add_left 1 4, Nat.le_refl 5⟩

theorem State.keepsTables_detach (s : State) (p : Port) (last : Notice) : s.KeepsTables (s.detach p last) := by
  unfold State.detach
  extract_lets t u
  have answered : s.KeepsTables t :=
    ((s.keepsTables_answerModes p _).trans (State.keepsTables_answerWrites _ p _)).modPort p fun _ h => h
  have gone : t.KeepsTables u := ((t.motionWork_detachMotion p).keepsTables.trans
    (State.motionWork_sourceLost _ p none).keepsTables).trans (State.keepsTables_removeStreams _ p)
  exact (((answered.trans gone).setClaim p .free).modPort p fun _ h => PortUnit.cleared_inv h).notifyAll last

theorem State.keepsTables_faultPort (s : State) (p : Port) (state : PortState) (retry : Option Nat) (n : Notice) :
    s.KeepsTables (s.faultPort p state retry n) := by
  unfold State.faultPort
  extract_lets attached t
  have faulted : s.KeepsTables t := s.keepsTables_modPort p fun _ h => h
  split
  · exact faulted.trans (t.keepsTables_detach p n)
  · exact faulted.notifyAll n

theorem State.keepsTables_failAttempt (s : State) (p : Port) : s.KeepsTables (s.failAttempt p) := by
  unfold State.failAttempt
  split
  · split
    · exact s.keepsTables_faultPort p _ _ _
    · exact s.keepsTables_modPort p fun _ h => h
  · exact .refl s

theorem State.keepsTables_lossOf (s : State) (p : Port) : s.KeepsTables (s.lossOf p) := by
  unfold State.lossOf
  extract_lets t u
  have dropped : s.KeepsTables u :=
    ((t.keepsTables_answerModes p _).after (s.keepsTables_modPort p fun _ h => h)).modPort p fun _ h => h
  exact (dropped.trans (u.keepsTables_answerWrites p _)).modPort p fun _ h => h

/-! ## Chapter 1: power, probing, faults -/

theorem State.keepsTables_classify (s : State) (p : Port) (level : Level) (rxLow : Bool) :
    s.KeepsTables (s.classify p level rxLow) := by
  unfold State.classify
  extract_lets t
  have classified : s.KeepsTables t := s.keepsTables_modPort p fun _ h => h
  have empty (u : State) : u.KeepsTables (u.emptyPort p) := u.keepsTables_modPort p fun _ h => h
  have attach (u : State) : u.KeepsTables (u.attachAt p level rxLow) := by
    unfold State.attachAt
    split
    · exact u.keepsTables_attachSerial p
    · exact u.keepsTables_attachPassive p level rxLow
  have detach : s.KeepsTables (t.detachPort p) := classified.trans (t.keepsTables_detach p _)
  split
  · split
    · exact classified.trans (empty t)
    · exact classified.trans (attach t)
  · split
    · exact classified
    · exact classified.trans (attach t)
  · split
    · exact detach.trans (empty _)
    · exact detach.trans (attach _)
  iterate 2
    split
    · exact detach.trans (empty _)
    · split
      · exact classified
      · exact detach.trans (attach _)
  iterate 2 exact classified

theorem PortUnit.reading_inv {u : PortUnit} (h : u.inv) (level : Level) : (u.reading level).inv := by
  obtain ⟨-, rest⟩ := h
  refine ⟨?_, rest⟩
  simp only [PortUnit.reading]
  split <;> omega

theorem State.keepsTables_probeStep (s : State) (p : Port) (level : Level) (rxLow : Bool) :
    s.KeepsTables (s.probeStep p level rxLow) := by
  unfold State.probeStep
  split
  · extract_lets t
    have read : s.KeepsTables t := s.keepsTables_modPort p fun _ h => PortUnit.reading_inv h level
    split
    · exact read.trans (t.keepsTables_classify p level rxLow)
    · split
      · exact read.trans (t.keepsTables_touchSample p rxLow)
      · exact read
  · exact .refl s

theorem State.keepsTables_tripStep (s : State) (p : Port) : s.KeepsTables (s.tripStep p) := by
  unfold State.tripStep
  split
  · extract_lets kept
    have few : (s.port p).faults.length ≤ 2 → kept.length ≤ 2 := (List.length_filter_le _ _).trans
    split
    · exact (State.keepsTables_faultPort _ p _ _ _).after
        (s.keepsTables_setPort p fun ⟨run, faults, rest⟩ => ⟨run, few faults, rest⟩)
    · rename_i below
      refine (State.keepsTables_faultPort _ p _ _ _).after (s.keepsTables_setPort p fun ⟨run, _, rest⟩ => ⟨run, ?_, rest⟩)
      simp only [List.length_append, List.length_singleton]
      omega
  · exact .refl s

theorem PortUnit.probe_inv {u : PortUnit} (h : u.inv) : u.probe.inv := ⟨Nat.zero_le 3, h.2⟩

theorem State.keepsTables_portResetBody (s : State) (r : ReplyTo) (ps : List Byte) :
    s.KeepsTables (s.portResetBody r ps) := by
  unfold State.portResetBody
  split
  · exact s.keepsTables_answer _ _ _
  · refine State.KeepsTables.answer ?_ _ _ _
    split
    · exact s.keepsTables_modPort _ fun _ ⟨_, _, rest⟩ => ⟨Nat.zero_le 3, Nat.zero_le 2, rest⟩
    · exact .refl s

theorem State.tables_portInfoBody (s : State) (r : ReplyTo) (ps : List Byte) :
    (s.portInfoBody r ps).tables = s.tables := by
  unfold State.portInfoBody
  repeat' split
  all_goals simp

/-! ## Chapter 2: messages, handshakes, modes and writes -/

theorem length_appendLog (log : List LogRec) (r : LogRec) (h : log.length ≤ 8) : (appendLog log r).length ≤ 8 := by
  unfold appendLog
  split
  · simp; omega
  · simp; omega

theorem State.keepsTables_logAndTap (s : State) (p : Port) (o : MsgOutcome) (bs : List Byte) :
    s.KeepsTables (s.logAndTap p o bs) := by
  unfold State.logAndTap
  extract_lets u t
  have logged : s.KeepsTables t := s.keepsTables_setPort p fun ⟨run, faults, writes, log, rest⟩ =>
    ⟨run, faults, writes, length_appendLog _ _ log, rest⟩
  split
  · split
    · exact logged.notify _ _
    · exact logged
  · exact logged

theorem PortUnit.sendWrite_inv {u : PortUnit} (h : u.inv) : u.sendWrite.inv := by
  unfold PortUnit.sendWrite
  split <;> exact h

theorem PortUnit.sendMode_inv {u : PortUnit} (h : u.inv) : u.sendMode.inv := by
  unfold PortUnit.sendMode
  split <;> exact h

theorem State.keepsTables_endWrite (s : State) (p : Port) (st : Status) : s.KeepsTables (s.endWrite p st) := by
  unfold State.endWrite
  split
  · rename_i w rest queue
    refine (s.keepsTables_answer w.dest st []).trans (State.keepsTables_setPort _ p fun h => PortUnit.sendWrite_inv ?_)
    obtain ⟨run, faults, writes, bounds⟩ := h
    have same : (s.answer w.dest st []).port p = s.port p := by rw [State.port, State.answer_ports]; rfl
    rw [same, queue, List.length_cons] at writes
    exact ⟨run, faults, Nat.le_of_succ_le writes, bounds⟩
  · exact .refl s

theorem State.keepsTables_modeChanged (s : State) (p : Port) (old : Option Nat) (new : Nat) :
    s.KeepsTables (s.modeChanged p old new) := by
  unfold State.modeChanged
  extract_lets t
  have changed : s.KeepsTables t :=
    ((State.KeepsTables.refl s).notifyAll _).trans (State.keepsTables_streamModeChange _ p new)
  split
  · exact changed.trans (t.motionWork_sourceLost p _).keepsTables
  · exact changed

theorem State.keepsTables_confirmMode (s : State) (p : Port) (mode : Nat) (m : ModeDesc) (payload : List Byte) :
    s.KeepsTables (s.confirmMode p mode m payload) := by
  unfold State.confirmMode
  extract_lets old t u w
  have applied : s.KeepsTables u := (State.keepsTables_answerModes _ p .ok).after
    ((t.keepsTables_applySample p mode _ _).after (s.keepsTables_modPort p fun _ h => h))
  refine State.KeepsTables.trans ?_ (w.keepsTables_offerSample p)
  simp only [w]
  split
  · exact applied
  · exact applied.trans (u.keepsTables_modeChanged p old mode)

theorem State.keepsTables_takeData (s : State) (p : Port) (payload : List Byte) :
    s.KeepsTables (s.takeData p payload) := by
  unfold State.takeData
  extract_lets u expected
  split
  · split
    · exact s.keepsTables_confirmMode p _ _ payload
    · exact (s.keepsTables_applySample p _ _ _).trans (State.keepsTables_offerSample _ p)
  · exact .refl s

theorem PortUnit.bookkeep_inv {u : PortUnit} (h : u.inv) (o : MsgOutcome) : (u.bookkeep o).inv := by
  unfold PortUnit.bookkeep
  split
  · exact h
  · split <;> exact h
  · exact h

theorem PortUnit.loweredCap_inv {u : PortUnit} (h : u.inv) : ({ u with rateCap := u.loweredCap } : PortUnit).inv := by
  obtain ⟨run, faults, writes, log, low, high⟩ := h
  refine ⟨run, faults, writes, log, ?_, ?_⟩ <;> simp only [PortUnit.loweredCap] <;> omega

theorem State.keepsTables_actActive (s : State) (p : Port) (o : MsgOutcome) (bs : List Byte) :
    s.KeepsTables (s.actActive p o bs) := by
  unfold State.actActive
  extract_lets t
  have kept : s.KeepsTables t := s.keepsTables_modPort p fun _ h => PortUnit.bookkeep_inv h o
  split
  · exact kept.trans ((t.keepsTables_modPort p fun _ => PortUnit.loweredCap_inv).trans (State.keepsTables_lossOf _ p))
  · split
    · exact kept.trans (t.keepsTables_takeData p _)
    · exact kept.trans (t.keepsTables_endWrite p _)
    · exact kept

theorem PortUnit.stageDesc_inv {u : PortUnit} (h : u.inv) (k : Handshake) : (u.stageDesc k).inv := by
  unfold PortUnit.stageDesc
  split <;> exact h

theorem State.keepsTables_actDescribing (s : State) (p : Port) (o : MsgOutcome) (bs : List Byte) :
    s.KeepsTables (s.actDescribing p o bs) := by
  unfold State.actDescribing
  split
  · exact .refl s
  · repeat' split
    · exact .refl s
    · exact s.keepsTables_failAttempt p
    · exact s.keepsTables_modPort p fun _ h => PortUnit.stageDesc_inv h _
    · exact s.keepsTables_failAttempt p
    · exact .refl s

theorem State.keepsTables_messageEnds (s : State) (p : Port) (o : MsgOutcome) (bs : List Byte) :
    s.KeepsTables (s.messageEnds p o bs) := by
  unfold State.messageEnds
  extract_lets t
  have logged : s.KeepsTables t := s.keepsTables_logAndTap p o bs
  split
  · exact logged.trans (t.keepsTables_actActive p o bs)
  · exact logged.trans (t.keepsTables_actDescribing p o bs)
  · exact logged

theorem State.keepsTables_messageStep (s : State) (p : Port) (bs : List Byte) (framing : Bool) :
    s.KeepsTables (s.messageStep p bs framing) := by
  unfold State.messageStep
  repeat' split
  · exact (State.keepsTables_messageEnds _ p _ bs).after (s.keepsTables_modPort p fun _ h => h)
  · exact .refl s
  · exact s.keepsTables_messageEnds p _ bs
  · exact .refl s
  · exact .refl s

theorem State.keepsTables_gapStep (s : State) (p : Port) (bs : List Byte) : s.KeepsTables (s.gapStep p bs) := by
  unfold State.gapStep
  split
  · exact s.keepsTables_messageEnds p _ bs
  · exact .refl s

theorem PortUnit.leadByte_inv {u : PortUnit} (h : u.inv) : u.leadByte.inv := by
  unfold PortUnit.leadByte
  split
  · split <;> exact h
  · exact h

theorem State.keepsTables_attachDescribed (s : State) (p : Port) (typeId : BitVec 16) (head : Head)
    (modes : List ModeDesc) : s.KeepsTables (s.attachDescribed p typeId head modes) := by
  unfold State.attachDescribed
  extract_lets t u
  have recorded : s.KeepsTables t :=
    (State.keepsTables_of_tables s.tables_bumpFree).modPort p fun _ h => h
  have set : t.KeepsTables u := (t.unitWork_modUnit p fun i => i).motionWork.keepsTables
  exact (recorded.trans set).notifyAll _

theorem PortUnit.settleMode_inv {u : PortUnit} (h : u.inv) : u.settleMode.inv := by
  unfold PortUnit.settleMode
  split
  · exact PortUnit.sendMode_inv h
  · split
    · exact h
    · exact PortUnit.sendMode_inv h
  · exact h

theorem State.keepsTables_redescribe (s : State) (p : Port) : s.KeepsTables (s.redescribe p) :=
  ((State.KeepsTables.refl s).notifyAll _).modPort p fun _ => PortUnit.settleMode_inv

theorem State.keepsTables_ackStep (s : State) (p : Port) : s.KeepsTables (s.ackStep p) := by
  unfold State.ackStep
  extract_lets u
  split
  · split
    · split
      · exact (State.keepsTables_redescribe _ p).after (s.keepsTables_modPort p fun _ h => h)
      · refine (State.keepsTables_attachDescribed _ p _ _ _).after
          ((State.unitWork_attach _ p).motionWork.keepsTables.after ?_)
        exact (s.keepsTables_detach p _).modPort p fun _ h => h
    · exact (State.keepsTables_attachDescribed _ p _ _ _).after (s.keepsTables_modPort p fun _ h => h)
  · exact .refl s

theorem PortUnit.keepAliveEvent_inv {u : PortUnit} (h : u.inv) : u.keepAliveEvent.inv := by
  unfold PortUnit.keepAliveEvent
  split
  · exact PortUnit.sendMode_inv h
  · exact h

theorem State.keepsTables_takeMode (s : State) (p : Port) (r : ReplyTo) (mode : Nat) :
    s.KeepsTables (s.takeMode p r mode) := by
  unfold State.takeMode
  extract_lets u
  split
  · exact s.keepsTables_answer _ _ _
  · split
    · exact s.keepsTables_answer _ _ _
    · split
      · exact s.keepsTables_modPort p fun _ h => h
      · exact (s.keepsTables_answerModes p _).modPort p fun _ h => PortUnit.sendMode_inv h

theorem State.keepsTables_setModeBody (s : State) (r : ReplyTo) (p : Port) (e : Option Settlement) (ps : List Byte) :
    s.KeepsTables (s.setModeBody r p e ps) := by
  unfold State.setModeBody
  split
  · exact (s.keepsTables_settleClaim p e).answer _ _ _
  · exact (s.keepsTables_settleClaim p e).trans (State.keepsTables_takeMode _ p r _)

theorem State.keepsTables_modeTimerStep (s : State) (p : Port) : s.KeepsTables (s.modeTimerStep p) := by
  unfold State.modeTimerStep
  extract_lets u
  split
  · split
    · exact (State.keepsTables_modeChanged _ p _ 0).after (s.keepsTables_modPort p fun _ h => h)
    · exact (State.keepsTables_answerModes _ p _).after (s.keepsTables_modPort p fun _ h => h)
  · exact .refl s

theorem PortUnit.queueWrite_inv {u : PortUnit} (h : u.inv) (room : u.writes.length < 4) (w : WriteReq) :
    (u.queueWrite w).inv := by
  obtain ⟨run, faults, -, rest⟩ := h
  have longer : ({ u with writes := u.writes ++ [w] } : PortUnit).inv :=
    ⟨run, faults, by simp only [List.length_append, List.length_singleton]; omega, rest⟩
  unfold PortUnit.queueWrite
  extract_lets v
  split
  · exact PortUnit.sendWrite_inv longer
  · exact longer

theorem State.settleClaim_port (s : State) (p : Port) (e : Option Settlement) (x : Port) :
    (s.settleClaim p e).port x = s.port x := by
  unfold State.settleClaim
  split <;> rfl

theorem State.keepsTables_portWriteBody (s : State) (r : ReplyTo) (p : Port) (e : Option Settlement) (ps : List Byte) :
    s.KeepsTables (s.portWriteBody r p e ps) := by
  unfold State.portWriteBody
  extract_lets u n t
  have settled : s.KeepsTables t := s.keepsTables_settleClaim p e
  repeat' split
  iterate 4 exact settled.answer _ _ _
  rename_i room _
  refine settled.trans (t.keepsTables_setPort p fun h => PortUnit.queueWrite_inv h ?_ _)
  rw [s.settleClaim_port p e p]
  exact Nat.lt_of_not_le room

/-! ## The supply monitor (R90, R120) -/

theorem State.keepsTables_changeSupplyState (s : State) (new : SupplyState) : s.KeepsTables (s.changeSupplyState new) := by
  unfold State.changeSupplyState
  extract_lets old _ t u w
  have changed : s.KeepsTables u := by
    have set : s.KeepsTables t := State.keepsTables_of_tables (s.tables_setSupply _)
    simp only [u]
    split
    · exact set.trans ((t.motionWork_stopAll .brownout (state := .coasting) (by decide)).keepsTables.same
        (by simp [State.brownoutEntry]))
    · exact set
  refine State.KeepsTables.notifyAll (changed.same ?_) _
  simp only [w]
  split
  · exact u.tables_startWarning
  · rfl

theorem State.keepsTables_supplySampleStep (s : State) (vbat : Nat) (isense : Int) :
    s.KeepsTables (s.supplySampleStep vbat isense) := by
  unfold State.supplySampleStep
  extract_lets m t u
  have reduced : s.KeepsTables t := by
    refine (State.keepsTables_of_tables (s.tables_setSupply m)).trans ?_
    exact State.keepsTables_foldl (fun t p =>
      (t.unitWork_modUnit p fun i => MotionUnit.reduceDuty_inv i _).motionWork.keepsTables) Port.all _
  have changed : s.KeepsTables u := by
    simp only [u]
    split
    · exact reduced
    · exact reduced.trans (t.keepsTables_changeSupplyState _)
  exact changed.trans (u.keepsTables_offerUpdates _)

/-! ## Resets and the passing of a millisecond -/

theorem PortUnit.afterReset_inv : PortUnit.afterReset.inv := by decide

/-- A unit after a reset is COASTING and empty. -/
theorem MotionUnit.afterReset_inv (stop a b : Bool) : (MotionUnit.afterReset stop a b).inv :=
  ⟨Nat.zero_le 4, by simp [MotionUnit.afterReset]⟩

theorem State.keepsTables_restart (s : State) (stop : Bool) (vbat : Nat) (isense : Int) :
    s.KeepsTables (s.restart stop vbat isense) := by
  refine ⟨fun _ p => ?_, fun _ => State.motionInv_iff.mpr ⟨fun p => ?_, fun q r e => ?_⟩, fun _ => ?_⟩
  · simp only [State.port, State.restart, Six.get_each]; exact PortUnit.afterReset_inv
  · simp only [State.unit, State.restart, Six.get_map]; exact MotionUnit.afterReset_inv _ _ _
  · simp [State.pairAt, State.restart] at e
  · exact ⟨.nil, fun e he => by cases he⟩

theorem State.keepsTables_tick (s : State) : s.KeepsTables s.tick := by
  refine ⟨fun h p => ?_, id, id⟩
  simp only [State.port, State.tick, Six.get_map]
  exact h p

/-! ## Commands -/

/-- A request keeps the tables where its block's part does. -/
theorem State.keepsTables_serve (s : State) (l : LinkId) (tag : Byte) (code : Nat) (ps : List Byte)
    {body : ReplyTo → State → State} (h : ∀ r (t : State), t.KeepsTables (body r t)) :
    s.KeepsTables (s.serve l tag code ps body) := by
  unfold State.serve
  split
  · exact .refl s
  · rename_i t take
    have taken := State.keepsTables_of_tables (State.tables_take take)
    extract_lets r
    split
    · exact taken.trans (h r t)
    · exact taken.answer _ _ _

/-- The same for a request whose part leaves the tables as they are. -/
theorem State.keepsTables_serve_same (s : State) (l : LinkId) (tag : Byte) (code : Nat) (ps : List Byte)
    {body : ReplyTo → State → State} (h : ∀ r (t : State), (body r t).tables = t.tables) :
    s.KeepsTables (s.serve l tag code ps body) :=
  s.keepsTables_serve l tag code ps fun r t => State.keepsTables_of_tables (h r t)

theorem exec_keepsTables (i : Instr) (s : State) : ∃ t, exec i s = .next t ∧ s.KeepsTables t := by
  have same {t : State} (h : t.tables = s.tables) : s.KeepsTables t := State.keepsTables_of_tables h
  cases i with
  | powerOnReset stop vbat isense => exact ⟨_, rfl, s.keepsTables_restart stop vbat isense⟩
  | portPowerRestore p =>
    refine ⟨_, rfl, ?_⟩
    split
    · exact s.keepsTables_modPort p fun _ h => h
    · exact .refl s
  | scanComplete => exact ⟨_, rfl, same (by unfold State.scanCompleteStep; split <;> rfl)⟩
  | selFall l => exact ⟨_, rfl, same (by simp)⟩
  | selRise l clocked midByte => exact ⟨_, rfl, same rfl⟩
  | ageTick l => exact ⟨_, rfl, s.keepsTables_ageTickStep l⟩
  | unknownRequest l tag code ps => exact ⟨_, rfl, same (by simp)⟩
  | requestWithoutCode l tag => exact ⟨_, rfl, same (by simp)⟩
  | identify l tag ps => exact ⟨_, rfl, s.keepsTables_serve_same l tag _ ps fun r t => by simp⟩
  | setLink l tag ps => exact ⟨_, rfl, s.keepsTables_serve_same l tag _ ps fun r t => by simp⟩
  | clearFlags l tag ps => exact ⟨_, rfl, s.keepsTables_serve_same l tag _ ps fun r t => by simp⟩
  | resetArm l tag ps => exact ⟨_, rfl, s.keepsTables_serve_same l tag _ ps fun r t => by simp⟩
  | leave l tag ps => exact ⟨_, rfl, s.keepsTables_serve l tag _ ps fun r t => t.keepsTables_leaveStep r⟩
  | reset l tag ps stop vbat isense =>
    refine ⟨_, rfl, s.keepsTables_serve l tag _ ps fun r t => ?_⟩
    unfold State.resetStep
    split
    · exact t.keepsTables_restart stop vbat isense
    · exact t.keepsTables_answer _ _ _
  | portInfo l tag ps => exact ⟨_, rfl, s.keepsTables_serve_same l tag _ ps fun r t => t.tables_portInfoBody r ps⟩
  | readValue l tag ps =>
    refine ⟨_, rfl, s.keepsTables_serve_same l tag _ ps fun r t => ?_⟩
    repeat' split
    all_goals simp
  | setMode l tag ps =>
    exact ⟨_, rfl, s.keepsTables_serve l tag _ ps fun r t => t.keepsTables_claiming r ps fun u p e =>
      u.keepsTables_setModeBody r p e ps⟩
  | portWrite l tag ps =>
    exact ⟨_, rfl, s.keepsTables_serve l tag _ ps fun r t => t.keepsTables_claiming r ps fun u p e =>
      u.keepsTables_portWriteBody r p e ps⟩
  | setTap l tag ps =>
    refine ⟨_, rfl, s.keepsTables_serve l tag _ ps fun r t => ?_⟩
    split
    · refine State.KeepsTables.answer ?_ _ _ _
      exact t.keepsTables_modPort _ fun _ h => h
    · exact t.keepsTables_answer _ _ _
  | readLog l tag ps =>
    refine ⟨_, rfl, s.keepsTables_serve l tag _ ps fun r t => ?_⟩
    split
    · exact t.keepsTables_answer _ _ _
    · refine State.KeepsTables.answer ?_ _ _ _
      exact t.keepsTables_modPort _ fun _ ⟨run, faults, writes, _, rest⟩ => ⟨run, faults, writes, Nat.zero_le 8, rest⟩
  | portReset l tag ps => exact ⟨_, rfl, s.keepsTables_serve l tag _ ps fun r t => t.keepsTables_portResetBody r ps⟩
  | lock l tag ps => exact ⟨_, rfl, s.keepsTables_serve l tag _ ps fun r t => t.keepsTables_lockBody r ps⟩
  | unlock l tag ps => exact ⟨_, rfl, s.keepsTables_serve l tag _ ps fun r t => t.keepsTables_unlockBody r ps⟩
  | release l tag ps => exact ⟨_, rfl, s.keepsTables_serve l tag _ ps fun r t => t.keepsTables_releaseBody r ps⟩
  | move l tag ps =>
    exact ⟨_, rfl, s.keepsTables_serve l tag _ ps fun r t => t.keepsTables_claiming r ps fun u p e =>
      u.keepsTables_moveBody r p e ps⟩
  | stop l tag ps =>
    exact ⟨_, rfl, s.keepsTables_serve l tag _ ps fun r t => t.keepsTables_claiming r ps fun u p e =>
      u.keepsTables_stopBody r p e ps⟩
  | setRegulator l tag ps =>
    exact ⟨_, rfl, s.keepsTables_serve l tag _ ps fun r t => t.keepsTables_claiming r ps fun u p e =>
      u.keepsTables_setRegulatorBody r p e ps⟩
  | setPosition l tag ps =>
    exact ⟨_, rfl, s.keepsTables_serve l tag _ ps fun r t => t.keepsTables_claiming r ps fun u p e =>
      u.keepsTables_setPositionBody r p e ps⟩
  | resume l tag ps => exact ⟨_, rfl, s.keepsTables_serve l tag _ ps fun r t => t.keepsTables_resumeBody r⟩
  | pair l tag ps => exact ⟨_, rfl, s.keepsTables_serve l tag _ ps fun r t => t.keepsTables_pairBody r ps⟩
  | unpair l tag ps =>
    exact ⟨_, rfl, s.keepsTables_serve l tag _ ps fun r t => t.keepsTables_claimingPair r _ fun u q _ _ _ =>
      (u.pairWork_dissolvePair q _).motionWork.keepsTables.answer _ _ _⟩
  | movePair l tag ps =>
    refine ⟨_, rfl, s.keepsTables_serve l tag _ ps fun r t => t.keepsTables_claimingPair r _
      fun u q x e ⟨x', record, _⟩ => ?_⟩
    rw [record]
    exact u.keepsTables_movePairBody r record e ps
  | motionStatus l tag ps =>
    refine ⟨_, rfl, s.keepsTables_serve_same l tag _ ps fun r t => ?_⟩
    split <;> simp
  | supplyStatus l tag ps => exact ⟨_, rfl, s.keepsTables_serve_same l tag _ ps fun r t => by simp⟩
  | setSupply l tag ps => exact ⟨_, rfl, s.keepsTables_serve_same l tag _ ps fun r t => by simp⟩
  | subscribe l tag ps => exact ⟨_, rfl, s.keepsTables_serve l tag _ ps fun r t => t.keepsTables_subscribeBody r ps⟩
  | unsubscribe l tag ps => exact ⟨_, rfl, s.keepsTables_serve l tag _ ps fun r t => t.keepsTables_unsubscribeBody r ps⟩
  | listStreams l tag ps => exact ⟨_, rfl, s.keepsTables_serve_same l tag _ ps fun r t => t.tables_listStreamsBody r ps⟩
  | clipBegin l tag ps => exact ⟨_, rfl, s.keepsTables_serve_same l tag _ ps fun r t => by simp⟩
  | clipData l tag ps => exact ⟨_, rfl, s.keepsTables_serve_same l tag _ ps fun r t => by simp⟩
  | clipEnd l tag ps => exact ⟨_, rfl, s.keepsTables_serve_same l tag _ ps fun r t => by simp⟩
  | clipDelete l tag ps => exact ⟨_, rfl, s.keepsTables_serve_same l tag _ ps fun r t => by simp⟩
  | clipInfo l tag ps guardHigh => exact ⟨_, rfl, s.keepsTables_serve_same l tag _ ps fun r t => by simp⟩
  | clipRead l tag ps => exact ⟨_, rfl, s.keepsTables_serve_same l tag _ ps fun r t => by simp⟩
  | setProtect l tag ps guardHigh => exact ⟨_, rfl, s.keepsTables_serve_same l tag _ ps fun r t => by simp⟩
  | play l tag ps => exact ⟨_, rfl, s.keepsTables_serve_same l tag _ ps fun r t => by simp⟩
  | stopVoice l tag ps => exact ⟨_, rfl, s.keepsTables_serve_same l tag _ ps fun r t => by simp⟩
  | setVolume l tag ps => exact ⟨_, rfl, s.keepsTables_serve_same l tag _ ps fun r t => by simp⟩
  | voiceStatus l tag ps => exact ⟨_, rfl, s.keepsTables_serve_same l tag _ ps fun r t => by simp⟩
  | probeEvent p level rxLow => exact ⟨_, rfl, s.keepsTables_probeStep p level rxLow⟩
  | overcurrentTrip p => exact ⟨_, rfl, s.keepsTables_tripStep p⟩
  | retryTimerExpiry p =>
    refine ⟨_, rfl, ?_⟩
    split
    · exact s.keepsTables_modPort p fun _ => PortUnit.probe_inv
    · exact .refl s
  | messageOutcome p bs framing => exact ⟨_, rfl, s.keepsTables_messageStep p bs framing⟩
  | gapTimeout p bs => exact ⟨_, rfl, s.keepsTables_gapStep p bs⟩
  | ackSent p => exact ⟨_, rfl, s.keepsTables_ackStep p⟩
  | attemptTimerExpiry p =>
    refine ⟨_, rfl, ?_⟩
    repeat' split
    · exact s.keepsTables_failAttempt p
    · exact .refl s
    · exact .refl s
  | keepAliveExpiry p => exact ⟨_, rfl, s.keepsTables_modPort p fun _ => PortUnit.keepAliveEvent_inv⟩
  | silenceLoss p =>
    refine ⟨_, rfl, ?_⟩
    split
    · exact s.keepsTables_lossOf p
    · exact .refl s
  | modeTimerExpiry p => exact ⟨_, rfl, s.keepsTables_modeTimerStep p⟩
  | writeTimerExpiry p =>
    refine ⟨_, rfl, ?_⟩
    split
    · exact s.keepsTables_endWrite p _
    · exact .refl s
  | encoderTransition p a b => exact ⟨_, rfl, (s.unitWork_modUnit p fun i => i).motionWork.keepsTables⟩
  | regulationEvent p => exact ⟨_, rfl, s.keepsTables_regulationStep p⟩
  | stopLineAssert => exact ⟨_, rfl, s.keepsTables_stopLineStep⟩
  | stopLineRelease => exact ⟨_, rfl, same rfl⟩
  | supplySample vbat isense => exact ⟨_, rfl, s.keepsTables_supplySampleStep vbat isense⟩
  | warningTimerExpiry => exact ⟨_, rfl, same (by simp)⟩
  | jobStart => exact ⟨_, rfl, same (by unfold State.jobStartStep; split <;> simp)⟩
  | cleanupStart => exact ⟨_, rfl, same (by simp)⟩
  | programComplete => exact ⟨_, rfl, same (by unfold State.programCompleteStep; split <;> simp)⟩
  | eraseComplete => exact ⟨_, rfl, same (by unfold State.eraseCompleteStep; split <;> simp)⟩
  | eraseSuspend => exact ⟨_, rfl, same (by unfold State.eraseSuspendStep; split <;> rfl)⟩
  | suspendComplete => exact ⟨_, rfl, same (by unfold State.suspendCompleteStep; split <;> simp)⟩
  | arrayReadComplete => exact ⟨_, rfl, same (by simp)⟩
  | outputSample => exact ⟨_, rfl, same (by simp)⟩
  | firstDescLeadByte p => exact ⟨_, rfl, s.keepsTables_modPort p fun _ => PortUnit.leadByte_inv⟩
  | idleGapAfterFramingError p => exact ⟨_, rfl, s.keepsTables_modPort p fun _ h => h⟩

theorem step_keepsTables {s t : State} (h : step s = .next t) : s.KeepsTables t := by
  unfold step at h
  split at h
  · cases h; exact s.keepsTables_tick
  · rename_i i rest _
    obtain ⟨u, e, keeps⟩ := exec_keepsTables i { s with pending := rest }
    obtain rfl : u = t := by rw [e] at h; cases h; rfl
    exact keeps.after (State.keepsTables_of_tables rfl)

/-- Settles O59: every step keeps the three tables, command by command (`exec_keepsTables`). -/
theorem everyStepKeepsTables : Obligations.EveryStepKeepsTables :=
  ⟨fun _ _ h e => (step_keepsTables e).ports h, fun _ _ h e => (step_keepsTables e).motion h,
    fun _ _ h e => (step_keepsTables e).streams h⟩

end Sys2Proof.Machine
end

section
/-! The resets (O6, O60), port power and probing (O15), and the port requests that report or set one record (O19). -/

namespace Sys2Proof.Machine

/-! ## Resets -/

/-- Settles O60: the values of `State.reset`, block by block. -/
theorem resetMeetsInvariants : Obligations.ResetMeetsInvariants := by
  refine ⟨by decide, by decide, by decide, by decide, ?_, ?_, fun l => by cases l <;> decide, fun p => ?_⟩
  · refine State.motionInv_iff.mpr ⟨fun p => ?_, fun q r e => ?_⟩
    · simp only [State.unit, State.reset, Six.get_each]; exact MotionUnit.afterReset_inv _ _ _
    · simp [State.pairAt, State.reset] at e
  · exact ⟨.nil, fun e he => by cases he⟩
  · simp only [State.port, State.reset, Six.get_each]; exact PortUnit.afterReset_inv

theorem clamp_eq_max_min {lo hi x : Int} (h : lo ≤ hi) : clamp lo hi x = max lo (min hi x) := by
  unfold clamp
  split
  · omega
  · split <;> omega

/-- The supply monitor's first sample after a reset (R113 to R118). -/
theorem Supply.firstSample_afterReset (vbat : Nat) (isense : Int) :
    let m := Supply.afterReset.firstSample vbat isense
    m.v = min 16000 (vbat : Int) ∧ m.i = max 0 (min 16000 isense) ∧ m.vf = m.v ∧ m.iflt = 0
      ∧ m.cv = (if 6400 ≤ m.vf then 1000 else if m.vf ≤ 5600 then 400 else 400 + truncDiv (600 * (m.vf - 5600)) 800)
      ∧ m.ci = 1000 ∧ m.s = min m.cv m.ci ∧ m.volCeil = truncDiv (m.s * 256) 1000
      ∧ m.state = (if 6400 ≤ m.vf then .normal else .low) ∧ m.lowRun = (if m.vf < 5600 then 1 else 0)
      ∧ m.warning = (if 6400 ≤ m.vf then none else some 60000)
      ∧ m.vnom = 7200 ∧ m.vsoft = 6400 ∧ m.vhard = 5600 ∧ m.ilim = 4000 ∧ m.warnClip = some 0 := by
  have current : clamp 0 16000 isense = max 0 (min 16000 isense) := clamp_eq_max_min (by decide)
  intro m
  simp only [m, Supply.firstSample]
  split
  · rename_i h
    have normal : 6400 ≤ min 16000 (vbat : Int) := h
    exact ⟨rfl, current, rfl, rfl, rfl, rfl, rfl, rfl, (if_pos normal).symm, rfl, (if_pos normal).symm, rfl, rfl, rfl,
      rfl, rfl⟩
  · rename_i h
    have low : ¬ 6400 ≤ min 16000 (vbat : Int) := h
    exact ⟨rfl, current, rfl, rfl, rfl, rfl, rfl, rfl, (if_neg low).symm, rfl, (if_neg low).symm, rfl, rfl, rfl,
      rfl, rfl⟩

/-- A RESET command with the mark set restarts the machine that has taken it. -/
theorem execReset_armed {s : State} {l : LinkId} {tag : Byte} (stop : Bool) (vbat : Nat) (isense : Int)
    (asked : s.asked l tag 0x06 []) (armed : (s.link l).armed = true) :
    exec (.reset l tag [] stop vbat isense) s = .next ((s.accepted l tag 0x06).restart stop vbat isense) := by
  change Host.Outcome.next (s.serve l tag 0x06 [] _) = _
  rw [State.serve_asked asked rfl]
  simp [State.resetStep, armed]

/-- Settles O6: both resets run `State.restart`, which leaves each block as it does whatever the links hold. -/
theorem resetSetsEachBlock : Obligations.ResetSetsEachBlock := by
  intro s stop vbat isense i reset
  obtain ⟨u, e, motion, store, pending⟩ : ∃ u : State, exec i s = .next (u.restart stop vbat isense)
      ∧ u.motion = s.motion ∧ u.store = s.store ∧ u.pending = s.pending := by
    obtain rfl | ⟨l, tag, rfl, asked, armed⟩ := reset
    · exact ⟨s, rfl, rfl, rfl, rfl⟩
    · exact ⟨_, execReset_armed stop vbat isense asked armed, rfl, rfl, rfl⟩
  have supply := Supply.firstSample_afterReset vbat isense
  refine ⟨_, e, rfl, rfl, rfl, rfl, rfl, rfl, rfl, fun p => ?_, by rw [← store]; rfl, by rw [← store]; rfl,
    by rw [← store]; rfl, rfl, rfl, rfl, rfl, rfl, rfl, rfl, rfl, fun v => ?_, rfl, rfl, rfl, rfl, rfl, rfl,
    fun b lock h => ?_, fun h => ?_, ?_⟩
  · simp only [State.unit, State.restart, Six.get_map, motion]
    rfl
  · exact Four.get_each none v
  · rw [← store] at h
    simp [State.restart, Store.afterReset, h]
  · rw [← store] at h
    simp [State.restart, Store.afterReset, h]
  · obtain ⟨v, i, vf, iflt, cv, ci, c, volCeil, state, lowRun, warning, vnom, vsoft, vhard, ilim, warnClip⟩ := supply
    exact ⟨v, i, vf, iflt, cv, ci, c, volCeil, state, lowRun, warning, vnom, vsoft, vhard, ilim, warnClip, pending⟩

/-! ## Requests that name one port -/

@[simp] theorem State.setPort_setPort (s : State) (p : Port) (u v : PortUnit) :
    (s.setPort p u).setPort p v = s.setPort p v := by
  simp [State.setPort]

theorem State.modPort_eq_setPort (s : State) (p : Port) (f : PortUnit → PortUnit) :
    s.modPort p f = s.setPort p (f (s.port p)) := rfl

/-- The number of a port names it. -/
@[simp] theorem portAt_num (p : Port) (rest : List Byte) : portAt (BitVec.ofNat 8 p.num :: rest) 0 = some p := by
  cases p <;> rfl

/-- A request that answers at once after a change of one port's record. -/
theorem State.accepted_setPort_answer (s : State) (l : LinkId) (tag : Byte) (code : Nat) (p : Port) (u : PortUnit)
    (st : Status) (payload : List Byte) :
    ((s.accepted l tag code).setPort p u).answer ⟨l, (s.link l).activation, tag, BitVec.ofNat 8 code⟩ st payload
      = (s.setPort p u).replied l tag code st payload :=
  (s.setPort p u).accepted_answer l tag code st payload

/-! ## Power and probing (R1, R2, R3, R13, R15) -/

/-- A third equal reading or a later one. -/
theorem PortUnit.reading_of_run {u : PortUnit} {level : Level} (last : u.lastReading = some level) (run : 2 ≤ u.run) :
    u.reading level = { u with run := 3 } := by
  have three : min 3 (u.run + 1) = 3 := by omega
  simp [PortUnit.reading, last, three]

/-- A probe event with a new classification due. -/
theorem State.probeStep_classifies {s : State} {p : Port} {level : Level} (rxLow : Bool) (power : (s.port p).power = true)
    (last : (s.port p).lastReading = some level) (run : 2 ≤ (s.port p).run) (new : (s.port p).level ≠ some level) :
    s.probeStep p level rxLow = (s.setPort p { s.port p with run := 3 }).classify p level rxLow := by
  have due : PortUnit.classifies { s.port p with run := 3 } = true := by simp [PortUnit.classifies, last, new]
  unfold State.probeStep
  rw [if_pos power]
  simp only [State.modPort_eq_setPort, PortUnit.reading_of_run last run, State.setPort_port_same, due, if_true]

/-- A probe event with no new classification due. -/
theorem State.probeStep_same {s : State} {p : Port} {level : Level} (rxLow : Bool) (power : (s.port p).power = true)
    (same : ((s.port p).reading level).classifies = false) :
    s.probeStep p level rxLow = if (s.port p).kind = .touch
      then (s.setPort p ((s.port p).reading level)).touchSample p rxLow else s.setPort p ((s.port p).reading level) := by
  have kind : ((s.port p).reading level).kind = (s.port p).kind := rfl
  unfold State.probeStep
  rw [if_pos power]
  simp only [State.modPort_eq_setPort, State.setPort_port_same, same, kind]
  rfl

theorem State.portResetBody_num (s : State) (r : ReplyTo) (p : Port) :
    s.portResetBody r [BitVec.ofNat 8 p.num]
      = (if (s.port p).state = .faultLatched then s.modPort p fun u => { u.probe with faults := [] } else s).answer r
        .ok [] := by
  unfold State.portResetBody
  rw [portAt_num]

/-- Settles O15: the branches of the four commands, one after the other. -/
theorem portPowerAndProbing : Obligations.PortPowerAndProbing := by
  refine ⟨⟨fun p s timer => ?_, fun p level rxLow s run power hrun none touch => ?_,
    fun p rxLow s power state level last run => ?_⟩, fun p s state => ?_, fun l tag p s asked => ?_⟩
  · obtain ⟨n, h⟩ := Option.isSome_iff_exists.mp timer
    simp only [exec, execPortPowerRestore, h]
    rfl
  · have reading : (s.port p).reading level = { s.port p with lastReading := some level, run := run } := by
      rw [hrun]; rfl
    have same : ((s.port p).reading level).classifies = false := by
      rw [reading]
      obtain h | h := none <;> simp [PortUnit.classifies, h]
    simp only [exec, execProbeEvent, State.probeStep_same rxLow power same, touch, if_false, reading]
  · have classified : (s.setPort p { s.port p with run := 3 }).classify p 0 rxLow
        = s.setPort p { s.port p with state := .empty, level := some 0, run := 3 } := by
      simp [State.classify, State.emptyPort, State.modPort_eq_setPort, state]
    simp only [exec, execProbeEvent, State.probeStep_classifies rxLow power last run (by simp [level]), classified]
  · simp only [exec, execRetryTimerExpiry, state, if_true]
    rfl
  · change Host.Outcome.next (s.serve l tag 0x16 _ _) = _
    rw [State.serve_asked asked rfl, State.portResetBody_num]
    have port : (s.accepted l tag 0x16).port p = s.port p := rfl
    rw [port]
    split
    · rw [State.modPort_eq_setPort, State.accepted_setPort_answer, port]
      rfl
    · rw [State.accepted_answer]

/-! ## Reports (R16, R34, R41, R42) -/

theorem optByte_eq (o : Option Nat) : optByte o = [(o.map (BitVec.ofNat 8)).getD 0xFF] := by cases o <;> rfl

theorem optWord_eq (o : Option Nat) :
    optWord o = [BitVec.ofNat 8 o.isSome.toNat, BitVec.ofNat 8 (o.getD 0), BitVec.ofNat 8 (o.getD 0 / 256)] := by
  cases o <;> rfl

/-- The port summary, byte by byte (R16). -/
theorem State.summaryBytes_eq {s : State} {p : Port} {u : PortUnit} (hu : s.port p = u) : s.summaryBytes p =
    [Config.portStateCode u.state, BitVec.ofNat 8 u.kind.code,
      ((u.level.map BitVec.toNat).map (BitVec.ofNat 8)).getD 0xFF,
      BitVec.ofNat 8 (u.typeId.map BitVec.toNat).isSome.toNat,
      BitVec.ofNat 8 ((u.typeId.map BitVec.toNat).getD 0),
      BitVec.ofNat 8 ((u.typeId.map BitVec.toNat).getD 0 / 256), BitVec.ofNat 8 u.modeCount,
      (u.mode.map (BitVec.ofNat 8)).getD 0xFF, (u.pendingMode.map (BitVec.ofNat 8)).getD 0xFF,
      ((u.head.map fun h => h.hasEncoder.toNat).map (BitVec.ofNat 8)).getD 0xFF,
      BitVec.ofNat 8 (u.head.bind Head.countsPerRev).isSome.toNat,
      BitVec.ofNat 8 ((u.head.bind Head.countsPerRev).getD 0),
      BitVec.ofNat 8 ((u.head.bind Head.countsPerRev).getD 0 / 256),
      BitVec.ofNat 8 (u.head.bind Head.maxSpeed).isSome.toNat,
      BitVec.ofNat 8 ((u.head.bind Head.maxSpeed).getD 0),
      BitVec.ofNat 8 ((u.head.bind Head.maxSpeed).getD 0 / 256),
      (u.agreed.map (BitVec.ofNat 8)).getD 0xFF, BitVec.ofNat 8 u.rateCap,
      Config.sampleShownCode u.sampleShown,
      BitVec.ofNat 8 ((s.tripsWithin p).length + (u.state == .faultLatched).toNat),
      BitVec.ofNat 8 (u.state == .faultLatched).toNat, BitVec.ofNat 8 (holderCode (s.claim p).holder),
      BitVec.ofNat 8 (s.claim p).locked.toNat, (((s.pairOf p).map PairId.num).map (BitVec.ofNat 8)).getD 0xFF,
      BitVec.ofNat 8 (tapTargetCode u.tapTarget),
      ((u.tapSel.map TapSel.code).map (BitVec.ofNat 8)).getD 0xFF] := by
  subst hu
  unfold State.summaryBytes
  extract_lets u latched
  simp only [optWord_eq, optByte_eq]
  simp only [byteOf, flagByte, List.cons_append, List.nil_append]
  rfl

/-- A presence byte and two bytes, in the words of the statements. -/
theorem optWord_bytes (o : Option Nat) :
    [BitVec.ofNat 8 o.isSome.toNat, BitVec.ofNat 8 (o.getD 0), BitVec.ofNat 8 (o.getD 0 / 256)]
      = match o with
        | some n => 1 :: le2 n
        | none => [0, 0, 0] := by
  cases o <;> rfl

theorem byteAt_one_num (p : Port) (sel : Byte) : byteAt [BitVec.ofNat 8 p.num, sel] 1 = sel.toNat := rfl

theorem State.accepted_summaryBytes (s : State) (l : LinkId) (tag : Byte) (code : Nat) (p : Port) :
    (s.accepted l tag code).summaryBytes p = s.summaryBytes p := rfl

/-- PORT_INFO of the summary alone. -/
theorem exec_portInfo_summary {l : LinkId} {tag : Byte} {p : Port} {s : State}
    (asked : s.asked l tag 0x10 [BitVec.ofNat 8 p.num, 0xFF]) :
    exec (.portInfo l tag [BitVec.ofNat 8 p.num, 0xFF]) s = .next (s.replied l tag 0x10 .ok (s.summaryBytes p)) := by
  change Host.Outcome.next (s.serve l tag 0x10 _ _) = _
  rw [State.serve_asked asked rfl, State.portInfoBody, portAt_num]
  simp only [byteAt_one_num, State.accepted_summaryBytes, State.accepted_answer]
  rfl

/-- PORT_INFO with a mode selector. -/
theorem exec_portInfo_mode {l : LinkId} {tag sel : Byte} {p : Port} {s : State}
    (asked : s.asked l tag 0x10 [BitVec.ofNat 8 p.num, sel]) (mode : sel ≠ 0xFF) :
    exec (.portInfo l tag [BitVec.ofNat 8 p.num, sel]) s = .next (match (s.port p).modeDesc sel.toNat with
      | some m => s.replied l tag 0x10 .ok (s.summaryBytes p ++ m.bytes)
      | none => s.replied l tag 0x10 .badParam []) := by
  have other : sel.toNat ≠ 255 := fun e => mode (BitVec.eq_of_toNat_eq e)
  have port : (s.accepted l tag 0x10).port p = s.port p := rfl
  change Host.Outcome.next (s.serve l tag 0x10 _ _) = _
  rw [State.serve_asked asked rfl, State.portInfoBody, portAt_num]
  simp only [byteAt_one_num, State.accepted_summaryBytes, other, if_false, port]
  cases (s.port p).modeDesc sel.toNat <;> simp only [State.accepted_answer]

theorem exec_readValue {l : LinkId} {tag : Byte} {p : Port} {s : State} (asked : s.asked l tag 0x11 [BitVec.ofNat 8 p.num]) :
    exec (.readValue l tag [BitVec.ofNat 8 p.num]) s = .next (match (s.port p).sample with
      | some r => s.replied l tag 0x11 .ok (r.bytes p ((((s.port p).modeDesc r.valuesMode).map ModeDesc.format).getD 0))
      | none => s.replied l tag 0x11 .noDevice []) := by
  have port : (s.accepted l tag 0x11).port p = s.port p := rfl
  change Host.Outcome.next (s.serve l tag 0x11 _ _) = _
  rw [State.serve_asked asked rfl]
  simp only [portAt_num, port]
  cases (s.port p).sample <;> simp only [State.accepted_answer]

theorem exec_readLog {l : LinkId} {tag : Byte} {p : Port} {s : State} (asked : s.asked l tag 0x15 [BitVec.ofNat 8 p.num]) :
    exec (.readLog l tag [BitVec.ofNat 8 p.num]) s = .next ((s.setPort p { s.port p with log := [] }).replied l tag 0x15 .ok
      (byteOf (s.port p).log.length ++ ((s.port p).log.map LogRec.bytes).flatten)) := by
  have port : (s.accepted l tag 0x15).port p = s.port p := rfl
  change Host.Outcome.next (s.serve l tag 0x15 _ _) = _
  rw [State.serve_asked asked rfl]
  simp only [portAt_num, State.modPort_eq_setPort, State.accepted_setPort_answer, port]

/-- The target and the selection of a tap, as SET_TAP codes them. -/
theorem exec_setTap {l : LinkId} {tag : Byte} {p : Port} {target : Option LinkId} {sel : TapSel} {s : State} {b c : Byte}
    (asked : s.asked l tag 0x14 [BitVec.ofNat 8 p.num, b, c]) (hb : tapTargetOf b.toNat = some target)
    (hc : TapSel.ofCode c.toNat = some sel) :
    exec (.setTap l tag [BitVec.ofNat 8 p.num, b, c]) s
      = .next ((s.setPort p { s.port p with tapTarget := target, tapSel := some sel }).replied l tag 0x14 .ok []) := by
  have port : (s.accepted l tag 0x14).port p = s.port p := rfl
  have eb : byteAt [BitVec.ofNat 8 p.num, b, c] 1 = b.toNat := rfl
  have ec : byteAt [BitVec.ofNat 8 p.num, b, c] 2 = c.toNat := rfl
  change Host.Outcome.next (s.serve l tag 0x14 _ _) = _
  rw [State.serve_asked asked rfl]
  simp only [portAt_num, eb, ec, hb, hc, State.modPort_eq_setPort, State.accepted_setPort_answer, port]

/-- A record of the log, byte by byte (R41). -/
theorem LogRec.bytes_eq (r : LogRec) : r.bytes = [BitVec.ofNat 8 r.outcome.code,
    (r.cls.map fun c => BitVec.ofNat 8 c.code).getD 0xFF, (r.len.map fun n => BitVec.ofNat 8 n).getD 0xFF,
    BitVec.ofNat 8 r.time.toNat, BitVec.ofNat 8 (r.time.toNat / 256)] := by
  unfold LogRec.bytes
  cases r.cls <;> cases r.len <;> rfl

/-- Settles O19: the byte lists of the reports, and the record each request sets. -/
theorem portReports : Obligations.PortReports := by
  refine ⟨fun l tag p s u asked hu => ?_, fun l tag sel p s asked mode => ?_, fun l tag p s asked => ?_,
    fun l tag p s asked => ?_, fun l tag p target sel s ps hps asked => ?_⟩
  · refine ⟨_, exec_portInfo_summary asked, ?_⟩
    rw [State.summaryBytes_eq hu.symm]
    refine ⟨rfl, rfl, ?_, ?_, rfl, rfl, ?_, ?_, rfl, rfl, ?_, ?_, ?_, ?_, ?_, ?_, ?_⟩
    · cases u.level <;> rfl
    · cases u.typeId <;> rfl
    · intro h ms desc
      have head : u.head = some h := by simp [PortUnit.head, desc]
      have count : u.modeCount = h.modeCount := by simp [PortUnit.modeCount, desc]
      simp only [head, count]
      refine ⟨rfl, ?_, ?_⟩
      · cases e : h.hasEncoder <;> simp [e]
      · exact congrArg₂ (· ++ ·) (optWord_bytes h.countsPerRev) (optWord_bytes h.maxSpeed)
    · intro desc
      have head : u.head = none := by simp [PortUnit.head, desc]
      have count : u.modeCount = 0 := by simp [PortUnit.modeCount, desc]
      simp only [head, count]
      exact ⟨rfl, rfl, rfl⟩
    · have trips : s.tripsWithin p = u.faults.filter (fun x => decide (s.now - x ≤ 10000)) := by rw [hu]; rfl
      simp only [trips]
      cases u.state <;> rfl
    · cases u.state <;> rfl
    · cases (s.claim p).holder with
      | none => rfl
      | some i => cases i <;> rfl
    · cases h : (s.claim p).locked <;> simp
    · cases s.pairOf p <;> rfl
    · cases u.tapTarget with
      | none => rfl
      | some i => cases i <;> rfl
    · cases u.tapSel <;> rfl
  · rw [exec_portInfo_mode asked mode]
    cases (s.port p).modeDesc sel.toNat with
    | none => rfl
    | some m => simp [ModeDesc.bytes, byteOf]
  · rw [exec_readValue asked]
    cases (s.port p).sample with
    | none => rfl
    | some r =>
      simp only [SampleRec.bytes, byteOf, le4w, flagByte, List.flatMap]
      cases r.seq <;> cases r.stale <;> simp [optWord] <;> rfl
  · rw [exec_readLog asked]
    rw [funext LogRec.bytes_eq]
    rfl
  · subst hps
    refine exec_setTap asked ?_ ?_
    · cases target with
      | none => rfl
      | some i => cases i <;> rfl
    · cases sel <;> rfl

end Sys2Proof.Machine
end

section
/-! What the ends of queues tell the issuers, and what a lost source ends (R9 to R11, R69, R73). -/

namespace Sys2Proof.Machine

/-! ## Notices that reach their issuer (R73) -/

theorem State.LinksGrow.sendsEnd_after {s t u : State} (a : s.LinksGrow t) {p : Port} {q : Option PairId} {g : Segment}
    {o : SegOutcome} (h : t.sendsEnd u p q g o) : s.sendsEnd u p q g o := by
  obtain ⟨e, port, pair, tag, kind, outcome, sent⟩ := h
  exact ⟨e, port, pair, tag, kind, outcome, a.sends_after sent⟩

theorem State.LinksGrow.sendsEnd_before {s t u : State} (a : s.LinksGrow t) (b : t.LinksGrow u) {p : Port}
    {q : Option PairId} {g : Segment} {o : SegOutcome} (h : s.sendsEnd t p q g o) : s.sendsEnd u p q g o := by
  obtain ⟨e, port, pair, tag, kind, outcome, sent⟩ := h
  exact ⟨e, port, pair, tag, kind, outcome, a.sends_before b rfl sent⟩

theorem State.sendsEnd_endNotice (s : State) (p : Port) (q : Option PairId) {g : Segment} {o : SegOutcome}
    (reported : g.reports o = true) (n : Nat) : s.sendsEnd (s.endNotice p q g o n) p q g o := by
  unfold State.endNotice
  rw [if_pos reported]
  exact ⟨_, rfl, rfl, rfl, rfl, rfl, s.sends_notify _ _⟩

/-- Each step of a fold whose steps make the links grow is taken on a state whose links grew from the first, and the links
go on growing after it. -/
theorem State.foldl_reaches {β : Type} {f : State → β → State} (grows : ∀ (t : State) x, t.LinksGrow (f t x))
    {xs : List β} {x : β} (h : x ∈ xs) (s : State) : ∃ t, s.LinksGrow t ∧ (f t x).LinksGrow (xs.foldl f s) := by
  obtain ⟨as, bs, rfl⟩ := List.append_of_mem h
  rw [List.foldl_append, List.foldl_cons]
  exact ⟨_, foldl_induct .refl .trans as (fun t y _ => grows t y) s, foldl_induct .refl .trans bs (fun t y _ => grows t y) _⟩

/-- Each segment of a list whose SEGMENT_ENDs are sent one after the other is reported. -/
theorem State.sendsEnd_foldl {β : Type} {p : β → Port} {q : Option PairId} {g : β → Segment} {o : SegOutcome} {xs : List β}
    {x : β} (h : x ∈ xs) (reported : (g x).reports o = true) (s : State) :
    s.sendsEnd (xs.foldl (fun t y => t.endNotice (p y) q (g y) o 0) s) (p x) q (g x) o := by
  obtain ⟨t, before, after⟩ := State.foldl_reaches (f := fun t y => t.endNotice (p y) q (g y) o 0)
    (fun t y => (t.linkWork_endNotice (p y) q (g y) o 0).links) h s
  exact before.sendsEnd_after
    ((t.linkWork_endNotice (p x) q (g x) o 0).links.sendsEnd_before after (t.sendsEnd_endNotice _ _ reported 0))

/-- The end of a unit's queue tells the issuer of its active segment. -/
theorem State.sendsEnd_endQueue_active {s : State} {p : Port} {g : Segment} {rest : List Segment}
    (h : (s.unit p).queue = g :: rest) {o w : SegOutcome} (reported : g.reports o = true) :
    s.sendsEnd (s.endQueue p o w) p none g o := by
  rw [State.endQueue_of_cons h]
  exact (s.linkWork_endNotice _ _ _ _ _).links.sendsEnd_before
    ((State.linkWork_waitingNotices _ _ _ _ _).links.trans (.of_links rfl)) (s.sendsEnd_endNotice _ _ reported _)

/-- The end of a unit's queue tells the issuers of its waiting segments. -/
theorem State.sendsEnd_endQueue_waiting {s : State} {p : Port} {g k : Segment} {rest : List Segment}
    (h : (s.unit p).queue = g :: rest) {o w : SegOutcome} (mem : k ∈ rest) (reported : k.reports w = true) :
    s.sendsEnd (s.endQueue p o w) p none k w := by
  rw [State.endQueue_of_cons h]
  exact (s.linkWork_endNotice p none g o (s.elapsed p)).links.sendsEnd_after
    ((State.linkWork_waitingNotices _ p none rest w).links.sendsEnd_before (.of_links rfl)
      (State.sendsEnd_foldl (p := fun _ => p) (g := fun g => g) mem reported _))

/-- Where every segment of a queue ends with one outcome, each issuer is told. -/
theorem State.sendsEnd_endQueue {s : State} {p : Port} {k : Segment} (mem : k ∈ (s.unit p).queue) {o : SegOutcome}
    (reported : k.reports o = true) : s.sendsEnd (s.endQueue p o o) p none k o := by
  cases h : (s.unit p).queue with
  | nil => rw [h] at mem; cases mem
  | cons g rest =>
    rw [h] at mem
    obtain rfl | mem := List.mem_cons.mp mem
    · exact State.sendsEnd_endQueue_active h reported
    · exact State.sendsEnd_endQueue_waiting h mem reported

/-- The end of a pair's queue tells the issuer of its active segment. -/
theorem State.sendsEnd_endPairQueue_active {s : State} {q : PairId} {r : PairRec} {g : PairSegment} {rest : List PairSegment}
    (e : s.pairAt q = some r) (h : r.queue = g :: rest) {o w : SegOutcome} (reported : g.seg.reports o = true) :
    s.sendsEnd (s.endPairQueue q o w) (r.leadPort g) (some q) g.seg o := by
  rw [State.endPairQueue_of_cons e h]
  exact (s.linkWork_pairNotice _ _ _ _ _).links.sendsEnd_before
    ((State.linkWork_pairNotices _ _ _ _ _).links.trans (.of_links rfl)) (s.sendsEnd_endNotice _ _ reported _)

/-- The end of a pair's queue tells the issuers of its waiting segments. -/
theorem State.sendsEnd_endPairQueue_waiting {s : State} {q : PairId} {r : PairRec} {g k : PairSegment}
    {rest : List PairSegment} (e : s.pairAt q = some r) (h : r.queue = g :: rest) {o w : SegOutcome} (mem : k ∈ rest)
    (reported : k.seg.reports w = true) : s.sendsEnd (s.endPairQueue q o w) (r.leadPort k) (some q) k.seg w := by
  rw [State.endPairQueue_of_cons e h]
  exact (s.linkWork_pairNotice q r g o (s.pairElapsed r)).links.sendsEnd_after
    ((State.linkWork_pairNotices _ q r rest w).links.sendsEnd_before (.of_links rfl)
      (State.sendsEnd_foldl (p := r.leadPort) (g := PairSegment.seg) mem reported _))

/-- Where every segment of a pair's queue ends with one outcome, each issuer is told. -/
theorem State.sendsEnd_endPairQueue {s : State} {q : PairId} {r : PairRec} {k : PairSegment} (e : s.pairAt q = some r)
    (mem : k ∈ r.queue) {o : SegOutcome} (reported : k.seg.reports o = true) :
    s.sendsEnd (s.endPairQueue q o o) (r.leadPort k) (some q) k.seg o := by
  cases h : r.queue with
  | nil => rw [h] at mem; cases mem
  | cons g rest =>
    rw [h] at mem
    obtain rfl | mem := List.mem_cons.mp mem
    · exact State.sendsEnd_endPairQueue_active e h reported
    · exact State.sendsEnd_endPairQueue_waiting e h mem reported

theorem PairRec.leadPort_eq (r : PairRec) (g : PairSegment) :
    r.leadPort g = if 0 ≤ g.steer then r.portA else r.portB := by
  unfold PairRec.leadPort PairSegment.lead
  split <;> rfl

/-! ## Pairs and their ports -/

theorem State.pairOf_eq_none_iff {s : State} {x : Port} :
    s.pairOf x = none ↔ ∀ q r, s.pairAt q = some r → r.portA ≠ x ∧ r.portB ≠ x := by
  unfold State.pairOf
  rw [List.find?_eq_none]
  constructor
  · intro h q r e
    have := h q (PairId.mem_all q)
    simpa [e] using this
  · intro h q _
    cases e : s.pairAt q with
    | none => simp
    | some r =>
      obtain ⟨a, b⟩ := h q r e
      simp [a, b]

/-- Work on any pairs: the units' queues, activations and positions stay, units that no pair names stay as they are, and
every pair with a record had one of the same ports. -/
structure State.PairsWork (s t : State) : Prop where
  frame : t = { s with motion := t.motion, pairs := t.pairs, links := t.links }
  links : s.LinksGrow t
  others : ∀ x, (∀ q r, s.pairAt q = some r → r.portA ≠ x ∧ r.portB ≠ x) → t.unit x = s.unit x
  kept : ∀ x, t.unit x = { s.unit x with motor := (t.unit x).motor, hold := (t.unit x).hold, reg := (t.unit x).reg }
  ports : ∀ q r, t.pairAt q = some r → ∃ r', s.pairAt q = some r' ∧ r.portA = r'.portA ∧ r.portB = r'.portB

theorem State.PairsWork.refl (s : State) : s.PairsWork s :=
  ⟨rfl, .refl s, fun _ _ => rfl, fun _ => rfl, fun _ r e => ⟨r, e, rfl, rfl⟩⟩

theorem State.PairsWork.trans {s t u : State} (a : s.PairsWork t) (b : t.PairsWork u) : s.PairsWork u where
  frame := by
    conv_lhs => rw [b.frame, a.frame]
  links := a.links.trans b.links
  others x h := by
    refine (b.others x fun q r e => ?_).trans (a.others x h)
    obtain ⟨r', e', ea, eb⟩ := a.ports q r e
    exact ea ▸ eb ▸ h q r' e'
  kept x := by
    conv_lhs => rw [b.kept x, a.kept x]
  ports q r h := by
    obtain ⟨r', e, ea, eb⟩ := b.ports q r h
    obtain ⟨r'', e', ea', eb'⟩ := a.ports q r' e
    exact ⟨r'', e', ea.trans ea', eb.trans eb'⟩

theorem State.PairWork.pairsWork {q : PairId} {s t : State} (h : s.PairWork q t) : s.PairsWork t where
  frame := h.motionWork.frame
  links := h.links
  others x k := h.others x (k q)
  kept := h.kept
  ports y r e := by
    by_cases j : y = q
    · subst j; exact h.ports r e
    · rw [h.pairAt_ne j] at e; exact ⟨r, e, rfl, rfl⟩

theorem State.PairsWork.queue {s t : State} (h : s.PairsWork t) (x : Port) : (t.unit x).queue = (s.unit x).queue := by
  rw [h.kept x]

theorem State.PairsWork.pairAt_none {s t : State} (h : s.PairsWork t) {q : PairId} (e : s.pairAt q = none) :
    t.pairAt q = none := by
  cases k : t.pairAt q with
  | none => rfl
  | some r =>
    obtain ⟨r', e', -⟩ := h.ports q r k
    rw [e] at e'; cases e'

/-! ## Folds over the units and over the pairs -/

/-- What the work of a fold on the other units leaves: unit `x` and the pairs. -/
structure State.OffUnit (x : Port) (s t : State) : Prop where
  work : s.MotionWork t
  unit : t.unit x = s.unit x
  pairs : t.pairs = s.pairs

/-- A fold of work on every unit, seen from unit `x`: its own step comes once, with nothing done to the unit before it or
after it. -/
theorem State.foldl_units {f : State → Port → State} (work : ∀ (t : State) y, t.UnitWork y (f t y)) (x : Port) (s : State) :
    ∃ t, s.OffUnit x t ∧ (f t x).OffUnit x (Port.all.foldl f s) := by
  have others : ∀ ys : List Port, x ∉ ys → ∀ s : State, s.OffUnit x (ys.foldl f s) := fun ys no =>
    foldl_induct (R := State.OffUnit x) (fun t => ⟨.refl t, rfl, rfl⟩)
      (fun a b => ⟨a.work.trans b.work, b.unit.trans a.unit, b.pairs.trans a.pairs⟩) ys
      fun t y mem => ⟨(work t y).motionWork, (work t y).unit_ne fun e => no (e ▸ mem), by rw [(work t y).frame]⟩
  obtain ⟨as, bs, split, before, after⟩ : ∃ as bs, Port.all = as ++ x :: bs ∧ x ∉ as ∧ x ∉ bs := by
    cases x
    · exact ⟨[], _, rfl, by decide, by decide⟩
    · exact ⟨[.p1], _, rfl, by decide, by decide⟩
    · exact ⟨[.p1, .p2], _, rfl, by decide, by decide⟩
    · exact ⟨[.p1, .p2, .p3], _, rfl, by decide, by decide⟩
    · exact ⟨[.p1, .p2, .p3, .p4], _, rfl, by decide, by decide⟩
    · exact ⟨[.p1, .p2, .p3, .p4, .p5], _, rfl, by decide, by decide⟩
  rw [split, List.foldl_append, List.foldl_cons]
  exact ⟨_, others as before s, others bs after _⟩

/-- A fold of work on every pair is work on the pairs. -/
theorem State.pairsWork_foldl {f : State → PairId → State} (work : ∀ (t : State) y, t.PairWork y (f t y)) (ys : List PairId)
    (s : State) : s.PairsWork (ys.foldl f s) :=
  foldl_induct .refl .trans ys (fun t y _ => (work t y).pairsWork) s

/-- A fold of work on every pair, seen from the record of pair `q`: its own step comes once. -/
theorem State.foldl_pairs {f : State → PairId → State} (work : ∀ (t : State) y, t.PairWork y (f t y)) (q : PairId) (s : State) :
    ∃ t, s.PairsWork t ∧ t.pairAt q = s.pairAt q ∧ (f t q).PairsWork (PairId.all.foldl f s)
      ∧ (PairId.all.foldl f s).pairAt q = (f t q).pairAt q := by
  have others : ∀ ys : List PairId, q ∉ ys → ∀ s : State, (ys.foldl f s).pairAt q = s.pairAt q := fun ys no =>
    foldl_induct (R := fun s t : State => t.pairAt q = s.pairAt q) (fun _ => rfl) (fun a b => b.trans a) ys
      fun t y mem => (work t y).pairAt_ne fun e => no (e ▸ mem)
  obtain ⟨as, bs, split, before, after⟩ : ∃ as bs, PairId.all = as ++ q :: bs ∧ q ∉ as ∧ q ∉ bs := by
    cases q
    · exact ⟨[], _, rfl, by decide, by decide⟩
    · exact ⟨[.q0], _, rfl, by decide, by decide⟩
    · exact ⟨[.q0, .q1], _, rfl, by decide, by decide⟩
  rw [split, List.foldl_append, List.foldl_cons]
  exact ⟨_, State.pairsWork_foldl work as s, others as before s, State.pairsWork_foldl work bs _, others bs after _⟩

/-! ## A source is lost (R69) -/

/-- What a lost source does to one unit. -/
def State.unitLoses (p : Port) (mode : Option Nat) (s : State) (x : Port) : State :=
  match (s.unit x).queue with
  | g :: _ => if g.names p mode then s.abortSegment x .sourceLost else s
  | [] => s

/-- What a lost source does to one pair. -/
def State.pairLoses (p : Port) (mode : Option Nat) (s : State) (q : PairId) : State :=
  match s.pairAt q with
  | some r =>
    match r.queue with
    | g :: _ => if g.seg.names p mode then s.abortPair q .sourceLost else s
    | [] => s
  | none => s

theorem State.sourceLost_eq (s : State) (p : Port) (mode : Option Nat) : s.sourceLost p mode
    = PairId.all.foldl (State.pairLoses p mode) (Port.all.foldl (State.unitLoses p mode) s) := rfl

theorem State.unitLoses_of_cons {s : State} {x : Port} {g : Segment} {rest : List Segment}
    (h : (s.unit x).queue = g :: rest) (p : Port) (mode : Option Nat) :
    s.unitLoses p mode x = if g.names p mode then s.abortSegment x .sourceLost else s := by
  unfold State.unitLoses; rw [h]

theorem State.unitLoses_of_nil {s : State} {x : Port} (h : (s.unit x).queue = []) (p : Port) (mode : Option Nat) :
    s.unitLoses p mode x = s := by
  unfold State.unitLoses; rw [h]

theorem State.pairLoses_of_cons {s : State} {q : PairId} {r : PairRec} {g : PairSegment} {rest : List PairSegment}
    (e : s.pairAt q = some r) (h : r.queue = g :: rest) (p : Port) (mode : Option Nat) :
    s.pairLoses p mode q = if g.seg.names p mode then s.abortPair q .sourceLost else s := by
  unfold State.pairLoses; rw [e]; simp only [h]

theorem State.unitWork_unitLoses (p : Port) (mode : Option Nat) (s : State) (x : Port) :
    s.UnitWork x (s.unitLoses p mode x) := by
  unfold State.unitLoses
  split
  · split
    · exact s.unitWork_abortSegment x _
    · exact .refl x s
  · exact .refl x s

theorem State.pairWork_pairLoses (p : Port) (mode : Option Nat) (s : State) (q : PairId) :
    s.PairWork q (s.pairLoses p mode q) := by
  unfold State.pairLoses
  split
  · split
    · split
      · exact s.pairWork_abortPair q _
      · exact .refl q s
    · exact .refl q s
  · exact .refl q s

/-- An aborted pair has an empty queue and no correction (R110). -/
theorem State.abortPair_pairAt {s : State} {q : PairId} {r : PairRec} {g : PairSegment} {rest : List PairSegment}
    (e : s.pairAt q = some r) (h : r.queue = g :: rest) (o : SegOutcome) : (s.abortPair q o).pairAt q = some r.emptied := by
  rw [State.abortPair_of_cons e h]
  change (s.endPairQueue q o .flushed).pairAt q = _
  rw [State.endPairQueue_pairAt e, h]
  rfl

/-- A unit and a source port, seen through the three stages of a lost source: its own step, and what comes before and after
it on the other units and on the pairs. -/
theorem State.sourceLost_units (s : State) (p : Port) (mode : Option Nat) (x : Port) :
    ∃ t u, s.OffUnit x t ∧ (t.unitLoses p mode x).OffUnit x u ∧ u.PairsWork (s.sourceLost p mode) := by
  obtain ⟨t, before, after⟩ := State.foldl_units (State.unitWork_unitLoses p mode) x s
  rw [State.sourceLost_eq]
  exact ⟨t, _, before, after, State.pairsWork_foldl (State.pairWork_pairLoses p mode) _ _⟩

/-- The same for a pair. -/
theorem State.sourceLost_pairs (s : State) (p : Port) (mode : Option Nat) (q : PairId) :
    ∃ t, s.LinksGrow t ∧ t.pairAt q = s.pairAt q ∧ (t.pairLoses p mode q).PairsWork (s.sourceLost p mode)
      ∧ (s.sourceLost p mode).pairAt q = (t.pairLoses p mode q).pairAt q := by
  have units : s.LinksGrow (Port.all.foldl (State.unitLoses p mode) s)
      ∧ (Port.all.foldl (State.unitLoses p mode) s).pairs = s.pairs :=
    foldl_induct (R := fun s t : State => s.LinksGrow t ∧ t.pairs = s.pairs) (fun t => ⟨.refl t, rfl⟩)
      (fun a b => ⟨a.1.trans b.1, b.2.trans a.2⟩) Port.all (fun t x _ =>
        have work := State.unitWork_unitLoses p mode t x
        ⟨work.links, by rw [work.frame]⟩) s
  obtain ⟨t, before, same, after, last⟩ := State.foldl_pairs (State.pairWork_pairLoses p mode) q
    (Port.all.foldl (State.unitLoses p mode) s)
  rw [State.sourceLost_eq]
  exact ⟨t, units.1.trans before.links, same.trans (congrArg (Three.get · q) units.2), after, last⟩

/-- No unit's active segment names a lost source any more. -/
theorem State.sourceLost_head {s : State} {p x : Port} {mode : Option Nat} {g : Segment} {rest : List Segment}
    (h : ((s.sourceLost p mode).unit x).queue = g :: rest) : g.names p mode = false := by
  obtain ⟨t, u, -, after, pairs⟩ := s.sourceLost_units p mode x
  rw [pairs.queue, after.unit] at h
  cases k : (t.unit x).queue with
  | nil => rw [State.unitLoses_of_nil k, k] at h; cases h
  | cons g' rest' =>
    rw [State.unitLoses_of_cons k] at h
    split at h
    · rw [State.abortSegment_queue] at h; cases h
    · rename_i no
      rw [k] at h
      obtain ⟨rfl, -⟩ := List.cons.inj h
      exact Bool.eq_false_iff.mpr no

/-- No pair's active segment names a lost source any more. -/
theorem State.sourceLost_pair_head {s : State} {p : Port} {mode : Option Nat} {q : PairId} {r : PairRec} {g : PairSegment}
    {rest : List PairSegment} (e : (s.sourceLost p mode).pairAt q = some r) (h : r.queue = g :: rest) :
    g.seg.names p mode = false := by
  obtain ⟨t, -, -, -, last⟩ := s.sourceLost_pairs p mode q
  rw [last] at e
  cases k : t.pairAt q with
  | none =>
    obtain ⟨r', e', -⟩ := (State.pairWork_pairLoses p mode t q).ports r e
    rw [k] at e'; cases e'
  | some r' =>
    cases k' : r'.queue with
    | nil =>
      have same : t.pairLoses p mode q = t := by unfold State.pairLoses; rw [k]; simp only [k']
      rw [same, k] at e
      obtain rfl := Option.some.inj e
      rw [k'] at h; cases h
    | cons g' rest' =>
      rw [State.pairLoses_of_cons k k'] at e
      split at e
      · rw [State.abortPair_pairAt k k'] at e
        obtain rfl := Option.some.inj e
        cases h
      · rename_i no
        rw [k] at e
        obtain rfl := Option.some.inj e
        rw [k'] at h
        obtain ⟨rfl, -⟩ := List.cons.inj h
        exact Bool.eq_false_iff.mpr no

/-- A unit with an empty queue that no pair names keeps everything. -/
theorem State.sourceLost_idle {s : State} {x : Port} (p : Port) (mode : Option Nat) (empty : (s.unit x).queue = [])
    (alone : ∀ q r, s.pairAt q = some r → r.portA ≠ x ∧ r.portB ≠ x) : (s.sourceLost p mode).unit x = s.unit x := by
  obtain ⟨t, u, before, after, pairs⟩ := s.sourceLost_units p mode x
  have same : t.unitLoses p mode x = t := State.unitLoses_of_nil (by rw [before.unit, empty]) p mode
  rw [same] at after
  have records : u.pairs = s.pairs := after.pairs.trans before.pairs
  rw [pairs.others x fun q r e => alone q r ?_, after.unit, before.unit]
  rwa [State.pairAt, records] at e

/-- A unit whose active segment names a lost source: its queue ends, its issuers are told, and where no pair names the unit,
its motor takes the segment's end action. -/
theorem State.sourceLost_named {s : State} {p x : Port} {mode : Option Nat} {g : Segment} {rest : List Segment}
    (h : (s.unit x).queue = g :: rest) (named : g.names p mode = true) :
    ((s.sourceLost p mode).unit x).queue = [] ∧ s.sendsEnd (s.sourceLost p mode) x none g .sourceLost
      ∧ (∀ k ∈ rest, s.sendsEnd (s.sourceLost p mode) x none k .flushed)
      ∧ ((∀ q r, s.pairAt q = some r → r.portA ≠ x ∧ r.portB ≠ x) →
        ((s.sourceLost p mode).unit x).endedBy g.endAction (s.unit x).holdPosition) := by
  obtain ⟨t, u, before, after, pairs⟩ := s.sourceLost_units p mode x
  have queue : (t.unit x).queue = g :: rest := by rw [before.unit, h]
  have aborts : t.unitLoses p mode x = t.abortSegment x .sourceLost := by
    rw [State.unitLoses_of_cons queue, if_pos named]
  rw [aborts] at after
  have later : (t.endQueue x .sourceLost .flushed).LinksGrow (s.sourceLost p mode) := by
    refine State.LinksGrow.trans (.of_links ?_) (after.work.links.trans pairs.links)
    rw [State.abortSegment_of_cons queue]; rfl
  have ends := (t.unitWork_endQueue x .sourceLost .flushed).links
  refine ⟨?_, ?_, fun k mem => ?_, fun alone => ?_⟩
  · rw [pairs.queue, after.unit, State.abortSegment_queue]
  · exact before.work.links.sendsEnd_after (ends.sendsEnd_before later (State.sendsEnd_endQueue_active queue rfl))
  · exact before.work.links.sendsEnd_after (ends.sendsEnd_before later (State.sendsEnd_endQueue_waiting queue mem rfl))
  · have records : u.pairs = s.pairs := by
      rw [after.pairs, (t.unitWork_abortSegment x .sourceLost).frame]; exact before.pairs
    rw [pairs.others x fun q r e => alone q r (by rwa [State.pairAt, records] at e), after.unit,
      State.abortSegment_unit queue, before.unit]
    exact MotionUnit.endAction_endedBy _ _ _ _

/-- A pair whose active segment names a lost source: its queue ends and its issuers are told. -/
theorem State.sourceLost_pair_named {s : State} {p : Port} {mode : Option Nat} {q : PairId} {r : PairRec} {g : PairSegment}
    {rest : List PairSegment} (e : s.pairAt q = some r) (h : r.queue = g :: rest) (named : g.seg.names p mode = true) :
    (s.sourceLost p mode).pairAt q = some r.emptied
      ∧ s.sendsEnd (s.sourceLost p mode) (r.leadPort g) (some q) g.seg .sourceLost
      ∧ ∀ k ∈ rest, s.sendsEnd (s.sourceLost p mode) (r.leadPort k) (some q) k.seg .flushed := by
  obtain ⟨t, before, same, after, last⟩ := s.sourceLost_pairs p mode q
  have record : t.pairAt q = some r := same.trans e
  have aborts : t.pairLoses p mode q = t.abortPair q .sourceLost := by
    rw [State.pairLoses_of_cons record h, if_pos named]
  rw [aborts] at after last
  have later : (t.endPairQueue q .sourceLost .flushed).LinksGrow (s.sourceLost p mode) := by
    refine State.LinksGrow.trans (.of_links ?_) after.links
    rw [State.abortPair_of_cons record h]; rfl
  have ends := (t.pairWork_endPairQueue q .sourceLost .flushed).links
  refine ⟨?_, ?_, fun k mem => ?_⟩
  · rw [last, State.abortPair_pairAt record h]
  · exact before.sendsEnd_after (ends.sendsEnd_before later (State.sendsEnd_endPairQueue_active record h rfl))
  · exact before.sendsEnd_after (ends.sendsEnd_before later (State.sendsEnd_endPairQueue_waiting record h mem rfl))

theorem Segment.names_any {g : Segment} {p : Port} : g.names p none = true ↔ g.cond.map StopCond.source = some p := by
  unfold Segment.names
  cases g.cond with
  | none => simp
  | some c => simp

end Sys2Proof.Machine
end

section
/-! What a detach leaves (R8 to R11), and the statements whose step is a detach: O17 and O18. -/

namespace Sys2Proof.Machine

/-! ## Answered work (R8) -/

theorem State.LinkWork.modPort {s t : State} (h : s.LinkWork t) (p : Port) (f : PortUnit → PortUnit) :
    (s.modPort p f).LinkWork (t.modPort p f) := by
  refine ⟨?_, h.links⟩
  conv_lhs => rw [h.frame]
  rfl

theorem State.LinkWork.port {s t : State} (h : s.LinkWork t) (x : Port) : t.port x = s.port x := by
  rw [h.frame]; rfl

theorem State.linkWork_answers {β : Type} (s : State) (xs : List β) (dest : β → ReplyTo) (st : Status) :
    s.LinkWork (xs.foldl (fun t x => t.answer (dest x) st []) s) :=
  foldl_induct .refl .trans xs (fun t x _ => t.linkWork_answer (dest x) st []) s

/-- A reply to the link's present stay in ACTIVE stands in its queue. -/
theorem State.answer_reply {s : State} {r : ReplyTo} (a : r.activation = (s.link r.link).activation) (st : Status)
    (payload : List Byte) : ⟨r.tag, r.code, st, payload⟩ ∈ ((s.answer r st payload).link r.link).replies := by
  unfold State.answer
  rw [if_pos a.symm, State.modLink_link_same]
  simp

/-- Each answer of a list stands in its link's reply queue. -/
theorem State.answers_reply {β : Type} {xs : List β} {x : β} (mem : x ∈ xs) {dest : β → ReplyTo} {s : State}
    (a : (dest x).activation = (s.link (dest x).link).activation) (st : Status) :
    ⟨(dest x).tag, (dest x).code, st, []⟩
      ∈ ((xs.foldl (fun t y => t.answer (dest y) st []) s).link (dest x).link).replies := by
  obtain ⟨t, before, after⟩ := State.foldl_reaches (f := fun t y => t.answer (dest y) st [])
    (fun t y => t.linksGrow_answer (dest y) st []) mem s
  exact (after _).replies _ (State.answer_reply (a.trans (before _).activation.symm) st [])

/-- The port record with its waiting SET_MODEs and writes gone, and with no pending mode. -/
def PortUnit.workless (u : PortUnit) : PortUnit := { u.dropMode with waiting := [], writes := [], writeTimer := none }

/-- The first part of a detach: the work that waits is answered NO_DEVICE (R8). -/
def State.workDropped (s : State) (p : Port) : State :=
  ((s.answerModes p .noDevice).answerWrites p .noDevice).modPort p PortUnit.dropMode

theorem State.linkWork_answerModes (s : State) (p : Port) (st : Status) :
    (s.modPort p fun u => { u with waiting := [] }).LinkWork (s.answerModes p st) :=
  (s.linkWork_answers _ ModeWait.dest st).modPort p _

theorem State.linkWork_answerWrites (s : State) (p : Port) (st : Status) :
    (s.modPort p fun u => { u with writes := [], writeTimer := none }).LinkWork (s.answerWrites p st) :=
  (s.linkWork_answers _ WriteReq.dest st).modPort p _

theorem State.linkWork_workDropped (s : State) (p : Port) :
    (s.setPort p (s.port p).workless).LinkWork (s.workDropped p) := by
  have e : s.setPort p (s.port p).workless = ((s.modPort p fun u => { u with waiting := [] }).modPort p
      fun u => { u with writes := [], writeTimer := none }).modPort p PortUnit.dropMode := by
    simp [State.modPort_eq_setPort, PortUnit.workless, PortUnit.dropMode]
  rw [e]
  exact (((s.linkWork_answerModes p .noDevice).modPort p _).trans (State.linkWork_answerWrites _ p .noDevice)).modPort p _

theorem State.workDropped_links (s : State) (p : Port) : s.LinksGrow (s.workDropped p) :=
  (s.linkWork_workDropped p).links

theorem State.workDropped_unit (s : State) (p x : Port) : (s.workDropped p).unit x = s.unit x :=
  (s.linkWork_workDropped p).unit x

theorem State.workDropped_pairAt (s : State) (p : Port) (q : PairId) : (s.workDropped p).pairAt q = s.pairAt q :=
  (s.linkWork_workDropped p).pairAt q

theorem State.pairOf_congr {s t : State} (h : t.pairs = s.pairs) (p : Port) : t.pairOf p = s.pairOf p := by
  unfold State.pairOf State.pairAt
  rw [h]

theorem State.workDropped_pairOf (s : State) (p : Port) : (s.workDropped p).pairOf p = s.pairOf p :=
  State.pairOf_congr (s.linkWork_workDropped p).pairs p

/-! ## The port's own motion (R9, R10) -/

theorem State.detachMotion_single {s : State} {p : Port} (h : s.pairOf p = none) :
    s.detachMotion p = (s.endQueue p .detached .detached).modUnit p (·.settle .coasting) := by
  unfold State.detachMotion; rw [h]

theorem State.detachMotion_paired {s : State} {p : Port} {q : PairId} (h : s.pairOf p = some q) :
    s.detachMotion p = s.dissolvePair q .detached := by
  unfold State.detachMotion; rw [h]

theorem State.unitWork_detachMotion {s : State} {p : Port} (h : s.pairOf p = none) : s.UnitWork p (s.detachMotion p) := by
  rw [State.detachMotion_single h]
  exact (s.unitWork_endQueue p _ _).trans (State.unitWork_modUnit _ p (MotionUnit.settle_inv (by decide)))

theorem State.pairWork_detachMotion {s : State} {p : Port} {q : PairId} (h : s.pairOf p = some q) :
    s.PairWork q (s.detachMotion p) := by
  rw [State.detachMotion_paired h]
  exact s.pairWork_dissolvePair q _

/-- A single port's unit after the end of its motion: empty and coasting. -/
theorem State.detachMotion_unit {s : State} {p : Port} (h : s.pairOf p = none) :
    ((s.detachMotion p).unit p).queue = [] ∧ ((s.detachMotion p).unit p).motor = .coasting
      ∧ ((s.detachMotion p).unit p).reg.duty = 0 := by
  rw [State.detachMotion_single h, State.modUnit_unit_same, State.endQueue_unit]
  exact ⟨rfl, rfl, rfl⟩

/-- A unit of a dissolved pair has settled, with its queue as it was. -/
theorem State.dissolvePair_unit {s : State} {q : PairId} {r : PairRec} (e : s.pairAt q = some r) (o : SegOutcome) {x : Port}
    (h : x = r.portA ∨ x = r.portB) : (s.dissolvePair q o).unit x = (s.unit x).settle .coasting := by
  have units : ∀ y, (s.endPairQueue q o o).unit y = s.unit y := fun y =>
    congrArg (Six.get · y) (s.endPairQueue_motion q o o)
  rw [State.dissolvePair_of_some e]
  simp only [State.setPair_unit, State.settlePair, State.modUnit_unit, units]
  by_cases same : r.portA = r.portB
  · have named : x = r.portB := h.elim (fun k => k.trans same) id
    rw [if_pos named, if_pos same.symm, same, named]
    rfl
  · obtain rfl | rfl := h
    · rw [if_neg same, if_pos rfl]
    · rw [if_pos rfl, if_neg fun k => same k.symm]

/-- A pair is free after it is dissolved. -/
theorem State.dissolvePair_pairAt (s : State) (q : PairId) (o : SegOutcome) : (s.dissolvePair q o).pairAt q = none := by
  cases e : s.pairAt q with
  | none => unfold State.dissolvePair; rw [e]; exact e
  | some r => rw [State.dissolvePair_of_some e, State.setPair_pairAt_same]

/-- A dissolved pair's issuers are told. -/
theorem State.sendsEnd_dissolvePair {s : State} {q : PairId} {r : PairRec} {g : PairSegment} (e : s.pairAt q = some r)
    (mem : g ∈ r.queue) {o : SegOutcome} (reported : g.seg.reports o = true) :
    s.sendsEnd (s.dissolvePair q o) (r.leadPort g) (some q) g.seg o := by
  rw [State.dissolvePair_of_some e]
  exact (s.pairWork_endPairQueue q o o).links.sendsEnd_before (.of_links rfl) (State.sendsEnd_endPairQueue e mem reported)

/-- A unit that is not the port's own, and that no pair names, keeps its motion. -/
theorem State.detachMotion_other {s : State} {p x : Port} (other : x ≠ p) (alone : s.pairOf x = none) :
    (s.detachMotion p).unit x = s.unit x := by
  cases h : s.pairOf p with
  | none => exact (State.unitWork_detachMotion h).unit_ne other
  | some q => exact (State.pairWork_detachMotion h).others x (State.pairOf_eq_none_iff.mp alone q)

/-- A pair that is not the port's keeps its record. -/
theorem State.detachMotion_pairAt {s : State} {p : Port} {q : PairId} (other : s.pairOf p ≠ some q) :
    (s.detachMotion p).pairAt q = s.pairAt q := by
  cases h : s.pairOf p with
  | none => rw [(State.unitWork_detachMotion h).frame]; rfl
  | some y => exact (State.pairWork_detachMotion h).pairAt_ne fun e => other (h.trans (congrArg some e.symm))

/-- A detach gives no pair a record or another port. -/
theorem State.detachMotion_records {s : State} {p : Port} {q : PairId} {r : PairRec}
    (e : (s.detachMotion p).pairAt q = some r) :
    ∃ r', s.pairAt q = some r' ∧ r.portA = r'.portA ∧ r.portB = r'.portB := by
  cases h : s.pairOf p with
  | none =>
    refine ⟨r, ?_, rfl, rfl⟩
    rwa [State.detachMotion_pairAt (by rw [h]; simp)] at e
  | some y => exact (State.pairWork_detachMotion h).pairsWork.ports q r e

/-! ## The streams of a port (R138) -/

theorem State.linkWork_endStreamFor (s : State) (e : StreamEntry) (l : LinkId) : s.LinkWork (s.endStreamFor e l) := by
  refine ⟨?_, s.linksGrow_endStreamFor e l⟩
  unfold State.endStreamFor
  split <;> rfl

theorem State.removeStreams_links (s : State) (p : Port) : s.LinksGrow (s.removeStreams p) :=
  (foldl_induct (R := State.LinksGrow) .refl .trans _ (fun t e _ =>
    foldl_induct (R := State.LinksGrow) .refl .trans _ (fun u l _ => u.linksGrow_endStreamFor e l) t) s).trans (.of_links rfl)

theorem State.removeStreams_frame (s : State) (p : Port) : s.removeStreams p = { s with
    streams := s.streams.filter fun e => e.key.port != some p, links := (s.removeStreams p).links } := by
  have told : s.LinkWork ((s.streams.filter fun e => e.key.port == some p).foldl
      (fun t e => LinkId.all.foldl (fun u l => u.endStreamFor e l) t) s) :=
    foldl_induct .refl .trans _ (fun t e _ => foldl_induct .refl .trans _ (fun u l _ => u.linkWork_endStreamFor e l) t) s
  have removed : s.removeStreams p = ((s.streams.filter fun e => e.key.port == some p).foldl
      (fun t e => LinkId.all.foldl (fun u l => u.endStreamFor e l) t) s).setStreams
      (s.streams.filter fun e => e.key.port != some p) := rfl
  conv_lhs => rw [removed, told.frame]
  rw [removed]
  rfl

/-! ## The whole detach (R8 to R11) -/

/-- A detach up to the ends of the segments that rested on the port. -/
def State.detachWork (s : State) (p : Port) : State := ((s.workDropped p).detachMotion p).sourceLost p none

theorem State.detach_eq (s : State) (p : Port) (last : Notice) : s.detach p last
    = ((((s.detachWork p).removeStreams p).setClaim p .free).modPort p PortUnit.cleared).notifyAll last := rfl

/-- The port record a detach leaves. -/
def PortUnit.gone (u : PortUnit) : PortUnit := u.workless.cleared

theorem State.motionWork_detachWork (s : State) (p : Port) : (s.workDropped p).MotionWork (s.detachWork p) :=
  ((s.workDropped p).motionWork_detachMotion p).trans (State.motionWork_sourceLost _ p none)

theorem State.detachWork_links (s : State) (p : Port) : s.LinksGrow (s.detachWork p) :=
  (s.workDropped_links p).trans (s.motionWork_detachWork p).links

section
variable (s : State) (p : Port) {last : Notice}

theorem State.detach_unit (x : Port) : (s.detach p last).unit x = (s.detachWork p).unit x := by
  rw [State.detach_eq, State.removeStreams_frame]
  rfl

theorem State.detach_pairAt (q : PairId) : (s.detach p last).pairAt q = (s.detachWork p).pairAt q := by
  rw [State.detach_eq, State.removeStreams_frame]
  rfl

/-- The last steps of a detach: the claim, the record and the notice. -/
theorem State.forget_frame (n : Notice) : ((s.setClaim p .free).modPort p PortUnit.cleared).notifyAll n = { s with
    ports := s.ports.set p (s.port p).cleared, claims := s.claims.set p .free
    links := (((s.setClaim p .free).modPort p PortUnit.cleared).notifyAll n).links } := rfl

theorem State.forget_links : s.LinksGrow ((s.setClaim p .free).modPort p PortUnit.cleared) := .of_links rfl

/-- What a detach changes: the port's record and claim, the units, the pairs, the port's streams and the links. -/
theorem State.detach_frame : s.detach p last = { s with
    ports := s.ports.set p (s.port p).gone, claims := s.claims.set p .free
    motion := (s.detach p last).motion, pairs := (s.detach p last).pairs
    streams := s.streams.filter fun e => e.key.port != some p, links := (s.detach p last).links } := by
  have work : s.detachWork p = { s with
      ports := s.ports.set p (s.port p).workless, motion := (s.detachWork p).motion
      pairs := (s.detachWork p).pairs, links := (s.detachWork p).links } := by
    conv_lhs => rw [(s.motionWork_detachWork p).frame, (s.linkWork_workDropped p).frame]
    rfl
  have cleared : s.detach p last = { (s.detachWork p) with
      ports := (s.detachWork p).ports.set p ((s.detachWork p).port p).cleared
      claims := (s.detachWork p).claims.set p .free
      streams := (s.detachWork p).streams.filter fun e => e.key.port != some p
      links := (s.detach p last).links } := by
    have last_steps := ((s.detachWork p).removeStreams p).forget_frame p last
    rw [← State.detach_eq] at last_steps
    conv_lhs => rw [last_steps, (s.detachWork p).removeStreams_frame p]
    rfl
  have port : (s.detachWork p).port p = (s.port p).workless := by
    rw [work]; exact Six.get_set_same _ _ _
  have motion : (s.detach p last).motion = (s.detachWork p).motion := (congrArg State.motion cleared).trans rfl
  have pairs : (s.detach p last).pairs = (s.detachWork p).pairs := (congrArg State.pairs cleared).trans rfl
  rw [motion, pairs]
  conv_lhs => rw [cleared, port, work]
  simp only [Six.set_set]
  rfl

theorem State.detach_before (event : last.dataEntry = none) : (s.detachWork p).LinksGrow (s.detach p last) := by
  rw [State.detach_eq]
  exact ((State.removeStreams_links _ p).trans (State.forget_links _ p)).trans (State.linksGrow_notifyAll _ event)

theorem State.detach_links (event : last.dataEntry = none) : s.LinksGrow (s.detach p last) :=
  (s.detachWork_links p).trans (s.detach_before p event)

/-- The last step of a detach tells every ACTIVE link (R8). -/
theorem State.detach_arrives {l : LinkId} (a : (s.link l).state = .active) :
    32 ≤ ((s.detach p last).link l).notices.length ∨ ((s.detach p last).link l).notices.getLast? = some last := by
  have before := ((s.detachWork_links p).trans (State.removeStreams_links _ p)).trans (State.forget_links _ p)
  rw [State.detach_eq]
  exact (State.notifyAll_arrives _ last ((before l).state.trans a)).elim .inr fun h => .inl h.2

end

section
variable {s : State} {p : Port} {last : Notice}

theorem State.detach_port : (s.detach p last).port p = (s.port p).gone := by
  rw [s.detach_frame p]; exact Six.get_set_same _ _ _

theorem State.detach_port_ne {q : Port} (h : q ≠ p) : (s.detach p last).port q = s.port q := by
  rw [s.detach_frame p]; exact Six.get_set_ne _ _ h

theorem State.detach_claim : (s.detach p last).claim p = .free := by
  rw [s.detach_frame p]; exact Six.get_set_same _ _ _

theorem State.detach_claim_ne {q : Port} (h : q ≠ p) : (s.detach p last).claim q = s.claim q := by
  rw [s.detach_frame p]; exact Six.get_set_ne _ _ h

theorem State.mem_detach_streams {e : StreamEntry} :
    e ∈ (s.detach p last).streams ↔ e ∈ s.streams ∧ e.key.port ≠ some p := by
  rw [s.detach_frame p]; simp

/-- The waiting SET_MODEs are answered NO_DEVICE (R8). -/
theorem State.detach_answers_modes (event : last.dataEntry = none) {w : ModeWait} (mem : w ∈ (s.port p).waiting)
    (a : w.dest.activation = (s.link w.dest.link).activation) :
    ⟨w.dest.tag, w.dest.code, .noDevice, []⟩ ∈ ((s.detach p last).link w.dest.link).replies := by
  have writes : (s.answerModes p .noDevice).LinksGrow (s.workDropped p) :=
    (State.linkWork_answerWrites (s.answerModes p .noDevice) p .noDevice).links
  have answered := writes.trans ((s.motionWork_detachWork p).links.trans (s.detach_before p event))
  exact (answered _).replies _ (State.answers_reply (dest := ModeWait.dest) mem a .noDevice)

/-- The queued writes are answered NO_DEVICE (R8). -/
theorem State.detach_answers_writes (event : last.dataEntry = none) {w : WriteReq} (mem : w ∈ (s.port p).writes)
    (a : w.dest.activation = (s.link w.dest.link).activation) :
    ⟨w.dest.tag, w.dest.code, .noDevice, []⟩ ∈ ((s.detach p last).link w.dest.link).replies := by
  have modes := s.linkWork_answerModes p .noDevice
  have queue : ((s.answerModes p .noDevice).port p).writes = (s.port p).writes := by
    rw [modes.port, State.modPort_port_same]
  have dropped : ((s.answerModes p .noDevice).answerWrites p .noDevice).LinksGrow (s.workDropped p) := .of_links rfl
  have answered := dropped.trans ((s.motionWork_detachWork p).links.trans (s.detach_before p event))
  refine (answered _).replies _ (State.answers_reply (dest := WriteReq.dest) (by rwa [queue]) ?_ .noDevice)
  exact a.trans (modes.links _).activation.symm

/-- A single port's own segments end DETACHED and its motor coasts (R9). -/
theorem State.detach_single (event : last.dataEntry = none) (single : s.pairOf p = none) :
    ((s.detach p last).unit p).queue = [] ∧ ((s.detach p last).unit p).motor = .coasting
      ∧ ((s.detach p last).unit p).reg.duty = 0
      ∧ ∀ g ∈ (s.unit p).queue, s.sendsEnd (s.detach p last) p none g .detached := by
  have alone : (s.workDropped p).pairOf p = none := (s.workDropped_pairOf p).trans single
  have own := State.detachMotion_unit alone
  have pairs : ((s.workDropped p).detachMotion p).pairOf p = none :=
    (State.pairOf_congr (by rw [(State.unitWork_detachMotion alone).frame]) p).trans alone
  rw [State.detach_unit, State.detachWork, State.sourceLost_idle p none own.1 (State.pairOf_eq_none_iff.mp pairs)]
  refine ⟨own.1, own.2.1, own.2.2, fun g mem => ?_⟩
  have told : (s.workDropped p).sendsEnd ((s.workDropped p).endQueue p .detached .detached) p none g .detached :=
    State.sendsEnd_endQueue (by rwa [s.workDropped_unit p]) rfl
  have later : ((s.workDropped p).endQueue p .detached .detached).LinksGrow (s.detach p last) := by
    refine State.LinksGrow.trans (.of_links ?_) ((State.motionWork_sourceLost _ p none).links.trans (s.detach_before p event))
    rw [State.detachMotion_single alone]; rfl
  exact (s.workDropped_links p).sendsEnd_after
    (((s.workDropped p).unitWork_endQueue p _ _).links.sendsEnd_before later told)

/-- The pair of a detached port is gone (R10). -/
theorem State.detach_paired {q : PairId} (paired : s.pairOf p = some q) : (s.detach p last).pairAt q = none := by
  have own : ((s.workDropped p).detachMotion p).pairAt q = none := by
    rw [State.detachMotion_paired ((s.workDropped_pairOf p).trans paired)]
    exact State.dissolvePair_pairAt _ q _
  obtain ⟨t, -, same, -, at_end⟩ := ((s.workDropped p).detachMotion p).sourceLost_pairs p none q
  rw [State.detach_pairAt]
  exact at_end.trans ((State.pairWork_pairLoses p none t q).pairsWork.pairAt_none (same.trans own))

/-- The segments of a detached port's pair end DETACHED (R10). -/
theorem State.detach_pair_told (event : last.dataEntry = none) {q : PairId} {r : PairRec} (paired : s.pairOf p = some q)
    (e : s.pairAt q = some r) {g : PairSegment} (mem : g ∈ r.queue) :
    s.sendsEnd (s.detach p last) (r.leadPort g) (some q) g.seg .detached := by
  have told : (s.workDropped p).sendsEnd ((s.workDropped p).detachMotion p) (r.leadPort g) (some q) g.seg .detached := by
    rw [State.detachMotion_paired ((s.workDropped_pairOf p).trans paired)]
    exact State.sendsEnd_dissolvePair ((s.workDropped_pairAt p q).trans e) mem rfl
  exact (s.workDropped_links p).sendsEnd_after (((s.workDropped p).motionWork_detachMotion p).links.sendsEnd_before
    ((State.motionWork_sourceLost _ p none).links.trans (s.detach_before p event)) told)

/-- Both motors of a detached port's pair coast, where no segment of their own and no other pair moves them (R10). -/
theorem State.detach_pair_motor {q : PairId} {r : PairRec} (paired : s.pairOf p = some q) (e : s.pairAt q = some r) {x : Port}
    (h : x = r.portA ∨ x = r.portB) (empty : (s.unit x).queue = [])
    (alone : ∀ y z, y ≠ q → s.pairAt y = some z → z.portA ≠ x ∧ z.portB ≠ x) :
    (s.detach p last).unit x = (s.unit x).settle .coasting := by
  have dissolves : (s.workDropped p).detachMotion p = (s.workDropped p).dissolvePair q .detached :=
    State.detachMotion_paired ((s.workDropped_pairOf p).trans paired)
  have own : ((s.workDropped p).detachMotion p).unit x = (s.unit x).settle .coasting := by
    rw [dissolves, State.dissolvePair_unit ((s.workDropped_pairAt p q).trans e) _ h, s.workDropped_unit]
  rw [State.detach_unit, State.detachWork, State.sourceLost_idle p none (by rw [own]; exact empty) fun y z k => ?_, own]
  have other : y ≠ q := by
    rintro rfl
    rw [dissolves, State.dissolvePair_pairAt] at k; cases k
  rw [dissolves, ((s.workDropped p).pairWork_dissolvePair q _).pairAt_ne other, s.workDropped_pairAt] at k
  exact alone y z other k

/-- No active segment of a port names a detached port (R69). -/
theorem State.detach_head {x : Port} {g : Segment} {rest : List Segment} (h : ((s.detach p last).unit x).queue = g :: rest) :
    g.names p none = false :=
  State.sourceLost_head (s := (s.workDropped p).detachMotion p) (by rwa [State.detach_unit] at h)

/-- No active segment of a pair names a detached port (R69). -/
theorem State.detach_pair_head {q : PairId} {r : PairRec} {g : PairSegment} {rest : List PairSegment}
    (e : (s.detach p last).pairAt q = some r) (h : r.queue = g :: rest) : g.seg.names p none = false :=
  State.sourceLost_pair_head (s := (s.workDropped p).detachMotion p) (by rwa [State.detach_pairAt] at e) h

/-- A segment of another single port that rested on a detached one ends SOURCE_LOST (R11, R69). -/
theorem State.detach_named (event : last.dataEntry = none) {x : Port} (other : x ≠ p) (single : s.pairOf x = none)
    {g : Segment} {rest : List Segment} (h : (s.unit x).queue = g :: rest) (named : g.names p none = true) :
    ((s.detach p last).unit x).queue = [] ∧ s.sendsEnd (s.detach p last) x none g .sourceLost
      ∧ (∀ k ∈ rest, s.sendsEnd (s.detach p last) x none k .flushed)
      ∧ ((s.detach p last).unit x).endedBy g.endAction (s.unit x).holdPosition := by
  have alone : (s.workDropped p).pairOf x = none := (State.pairOf_congr (s.linkWork_workDropped p).pairs x).trans single
  have unit : ((s.workDropped p).detachMotion p).unit x = s.unit x :=
    (State.detachMotion_other other alone).trans (s.workDropped_unit p x)
  have before : s.LinksGrow ((s.workDropped p).detachMotion p) :=
    (s.workDropped_links p).trans ((s.workDropped p).motionWork_detachMotion p).links
  have after := s.detach_before p event
  obtain ⟨empty, told, flushed, ended⟩ :=
    State.sourceLost_named (s := (s.workDropped p).detachMotion p) (x := x) (by rw [unit, h]) named
  have lost := (State.motionWork_sourceLost ((s.workDropped p).detachMotion p) p none).links
  rw [unit] at ended
  rw [State.detach_unit]
  refine ⟨empty, before.sendsEnd_after (lost.sendsEnd_before after told),
    fun k mem => before.sendsEnd_after (lost.sendsEnd_before after (flushed k mem)), ended fun q r e => ?_⟩
  obtain ⟨r', e', a, b⟩ := State.detachMotion_records e
  exact a ▸ b ▸ State.pairOf_eq_none_iff.mp alone q r' e'

/-- A segment of another pair that rested on a detached port ends SOURCE_LOST (R11, R69). -/
theorem State.detach_pair_named (event : last.dataEntry = none) {q : PairId} (other : s.pairOf p ≠ some q) {r : PairRec}
    (e : s.pairAt q = some r) {g : PairSegment} {rest : List PairSegment} (h : r.queue = g :: rest)
    (named : g.seg.names p none = true) :
    (s.detach p last).pairAt q = some r.emptied
      ∧ s.sendsEnd (s.detach p last) (r.leadPort g) (some q) g.seg .sourceLost
      ∧ ∀ k ∈ rest, s.sendsEnd (s.detach p last) (r.leadPort k) (some q) k.seg .flushed := by
  have record : ((s.workDropped p).detachMotion p).pairAt q = some r :=
    (State.detachMotion_pairAt (by rwa [s.workDropped_pairOf p])).trans ((s.workDropped_pairAt p q).trans e)
  have before : s.LinksGrow ((s.workDropped p).detachMotion p) :=
    (s.workDropped_links p).trans ((s.workDropped p).motionWork_detachMotion p).links
  have after := s.detach_before p event
  obtain ⟨emptied, told, flushed⟩ := State.sourceLost_pair_named record h named
  have lost := (State.motionWork_sourceLost ((s.workDropped p).detachMotion p) p none).links
  rw [State.detach_pairAt]
  exact ⟨emptied, before.sendsEnd_after (lost.sendsEnd_before after told),
    fun k mem => before.sendsEnd_after (lost.sendsEnd_before after (flushed k mem))⟩

end

/-! ## Level 0 at a described or passive port (R3) -/

/-- The detach of a classification of level 0. -/
theorem State.classify_detaches {s : State} {p : Port} (rxLow : Bool)
    (state : (s.port p).state = .passive ∨ (s.port p).state = .describing ∨ (s.port p).state = .active) :
    s.classify p 0 rxLow
      = ((s.setPort p { s.port p with level := some 0 }).detachPort p).emptyPort p := by
  unfold State.classify
  obtain h | h | h := state <;> rw [h] <;> rfl

theorem Segment.names_source {g : Segment} {p : Port} (h : g.names p none = false) : ∀ c ∈ g.cond, c.source ≠ p := by
  intro c mem source
  have : g.names p none = true := Segment.names_any.mpr (by rw [Option.mem_def.mp mem]; simp [source])
  rw [h] at this; cases this

/-- The port record a classification of level 0 leaves, in the words of the statement (R8). -/
theorem PortUnit.gone_empty {u : PortUnit} (power : u.power = true) (reading : u.lastReading = some 0) :
    { PortUnit.gone { u with run := 3, level := some 0 } with state := .empty } = { PortUnit.afterReset with
      state := .empty, power := true, powerTimer := u.powerTimer, level := some 0, lastReading := some 0, run := 3
      faults := u.faults, retry := u.retry, tapTarget := u.tapTarget, tapSel := u.tapSel, rate := u.rate
      sent := u.sent } := by
  simp only [PortUnit.gone, PortUnit.workless, PortUnit.cleared, PortUnit.dropMode, PortUnit.afterReset, power, reading]

theorem State.detachPort_emptyPort_port (s : State) (p : Port) :
    ((s.detachPort p).emptyPort p).port p = { (s.port p).gone with state := .empty } := by
  rw [State.emptyPort, State.modPort_port_same, State.detachPort, State.detach_port]

/-- Settles O17: the parts of a detach, one lemma each. -/
theorem probeDetaches : Obligations.ProbeDetaches := by
  intro p rxLow s power state level reading run
  obtain ⟨s₀, hs₀⟩ : ∃ s₀, s₀ = s.setPort p { s.port p with run := 3, level := some 0 } := ⟨_, rfl⟩
  have step : s.probeStep p 0 rxLow = (s₀.detachPort p).emptyPort p := by
    rw [State.probeStep_classifies rxLow power reading run level, State.classify_detaches rxLow (by simpa using state)]
    simp [hs₀]
  have port : s₀.port p = { s.port p with run := 3, level := some 0 } := by rw [hs₀]; exact State.setPort_port_same _ _ _
  have ports : ∀ q, q ≠ p → s₀.port q = s.port q := fun q h => by rw [hs₀]; exact State.setPort_port_ne _ _ _ h
  have frame : s₀ = { s with ports := s₀.ports } := by rw [hs₀]; rfl
  have link : ∀ l, s.link l = s₀.link l := fun l => by rw [frame]; rfl
  have unit : ∀ x, s.unit x = s₀.unit x := fun x => by rw [frame]; rfl
  have record : ∀ q, s.pairAt q = s₀.pairAt q := fun q => by rw [frame]; rfl
  have pair : ∀ x, s.pairOf x = s₀.pairOf x := fun x => State.pairOf_congr (by rw [frame]) x
  have claim : ∀ x, s.claim x = s₀.claim x := fun x => by rw [frame]; rfl
  have streams : s.streams = s₀.streams := by rw [frame]
  have grow : s.LinksGrow s₀ := .of_links (by rw [frame])
  have event : (s₀.portEvent p .detached none).dataEntry = none := rfl
  have after : ∀ {x q g o}, s₀.sendsEnd (s₀.detachPort p) x q g o → s.sendsEnd ((s₀.detachPort p).emptyPort p) x q g o :=
    fun h => grow.sendsEnd_after ((s₀.detach_links p event).sendsEnd_before (.of_links rfl) h)
  refine ⟨(s₀.detachPort p).emptyPort p, congrArg Host.Outcome.next step, ?_, ?_⟩
  · rw [State.detachPort_emptyPort_port, port, PortUnit.gone_empty power reading]
  simp only [State.emptyPort, State.modPort_link, State.modPort_claim, State.modPort_streams, State.modPort_unit,
    State.modPort_pairAt, State.modPort_store, State.modPort_sound, State.modPort_supply, State.modPort_now,
    State.modPort_pending]
  refine ⟨fun w mem a => ?_, fun w mem a => ?_, ?_, fun e mem => ?_, fun e mem h => ?_, fun single => ?_, fun q paired => ?_,
    fun q r paired e => ⟨fun g mem => ?_, fun x h empty alone => ?_⟩, fun q g rest h => ?_, fun q r g rest e h => ?_,
    fun x g rest other single h named => ?_, fun q r g rest other e h named => ?_, fun l a => ?_, fun q h => ⟨?_, ?_⟩, ?_⟩
  · exact State.detach_answers_modes event (by rw [port]; exact mem) (by rw [← link]; exact a)
  · exact State.detach_answers_writes event (by rw [port]; exact mem) (by rw [← link]; exact a)
  · exact State.detach_claim
  · rw [streams]; exact State.mem_detach_streams.mp mem
  · rw [streams] at mem; exact State.mem_detach_streams.mpr ⟨mem, h⟩
  · rw [pair] at single
    rw [unit]
    obtain ⟨queue, motor, duty, told⟩ := State.detach_single (s := s₀) (p := p) event single
    exact ⟨queue, motor, duty, fun g mem => after (told g mem)⟩
  · rw [pair] at paired; exact State.detach_paired paired
  · rw [pair] at paired
    rw [record] at e
    rw [← PairRec.leadPort_eq]
    exact after (State.detach_pair_told event paired e mem)
  · rw [pair] at paired
    rw [record] at e
    simp only [unit, record] at empty alone
    rw [State.detachPort, State.detach_pair_motor paired e h empty alone]
    exact ⟨rfl, rfl, rfl⟩
  · exact Segment.names_source (State.detach_head h)
  · exact Segment.names_source (State.detach_pair_head e h)
  · rw [pair] at single
    simp only [unit] at h ⊢
    obtain ⟨queue, told, flushed, ended⟩ :=
      State.detach_named (s := s₀) event other single h (Segment.names_any.mpr named)
    exact ⟨queue, after told, fun k mem => after (flushed k mem), ended⟩
  · rw [pair] at other
    rw [record] at e
    simp only [← PairRec.leadPort_eq]
    obtain ⟨emptied, told, flushed⟩ := State.detach_pair_named event other e h (Segment.names_any.mpr named)
    exact ⟨⟨_, emptied, rfl, rfl, rfl, rfl⟩, after told, fun k mem => after (flushed k mem)⟩
  · rw [link] at a
    have notice : s₀.portEvent p .detached none = .portEvent ⟨.detached, p, (s.port p).kind, (s.port p).typeId, none, .none,
        false, 0⟩ := by rw [State.portEvent, port]
    rw [← notice]
    exact s₀.detach_arrives p a
  · rw [State.modPort_port_ne _ _ _ h, State.detachPort, State.detach_port_ne h, ports q h]
  · rw [claim]; exact State.detach_claim_ne h
  · rw [State.detachPort, s₀.detach_frame p, frame]
    exact ⟨rfl, rfl, rfl, rfl, rfl⟩

/-! ## Faults (R12, R14) -/

/-- What the entry to FAULT or FAULT_LATCHED leaves: the supply is off, a device that was attached is gone, and the last
notice of every ACTIVE link is the fault's. -/
structure State.Faulted (p : Port) (state : PortState) (retry : Option Nat) (faults : List Nat) (n : Notice) (s t : State) :
    Prop where
  state : (t.port p).state = state
  power : (t.port p).power = false
  retry : (t.port p).retry = retry
  faults : (t.port p).faults = faults
  device : (s.port p).kind ≠ .none → (t.port p).kind = .none ∧ (t.port p).desc = none ∧ (t.port p).sample = none
    ∧ (t.port p).rateCap = 5 ∧ (t.port p).log = [] ∧ (t.port p).hs = none ∧ t.claim p = ⟨none, false⟩
  bare : (s.port p).kind = .none → t.claims = s.claims ∧ t.motion = s.motion ∧ t.pairs = s.pairs ∧ t.streams = s.streams
  told : ∀ l, (s.link l).state = .active → 32 ≤ (t.link l).notices.length ∨ (t.link l).notices.getLast? = some n
  others : ∀ q, q ≠ p → t.port q = s.port q ∧ t.claim q = s.claim q
  blocks : t.store = s.store ∧ t.sound = s.sound ∧ t.supply = s.supply ∧ t.now = s.now ∧ t.pending = s.pending

theorem State.faultPort_faulted (s : State) (p : Port) (state : PortState) (retry : Option Nat) (n : Notice) :
    s.Faulted p state retry (s.port p).faults n (s.faultPort p state retry n) := by
  obtain ⟨s₀, hs₀⟩ : ∃ s₀, s₀ = s.setPort p { s.port p with state := state, power := false, retry := retry } := ⟨_, rfl⟩
  have port : s₀.port p = { s.port p with state := state, power := false, retry := retry } := by
    rw [hs₀]; exact State.setPort_port_same _ _ _
  have ports : ∀ q, q ≠ p → s₀.port q = s.port q := fun q h => by rw [hs₀]; exact State.setPort_port_ne _ _ _ h
  have frame : s₀ = { s with ports := s₀.ports } := by rw [hs₀]; rfl
  have link : ∀ l, s₀.link l = s.link l := fun l => by rw [frame]; rfl
  have claim : ∀ q, s₀.claim q = s.claim q := fun q => by rw [frame]; rfl
  have branches : s.faultPort p state retry n = if (s.port p).kind = .none then s₀.notifyAll n else s₀.detach p n := by
    unfold State.faultPort
    simp only [PortUnit.attached, bne_iff_ne, ne_eq, ite_not, State.modPort_eq_setPort, ← hs₀]
  rw [branches]
  by_cases bare : (s.port p).kind = .none
  · have same : (s₀.notifyAll n).port p = { s.port p with state := state, power := false, retry := retry } := port
    rw [if_pos bare]
    refine ⟨?_, ?_, ?_, ?_, fun h => absurd bare h, fun _ => ?_, fun l a => ?_, fun q h => ⟨ports q h, claim q⟩, ?_⟩
    · rw [same]
    · rw [same]
    · rw [same]
    · rw [same]
    · rw [frame]; exact ⟨rfl, rfl, rfl, rfl⟩
    · exact (s₀.notifyAll_arrives n (by rwa [link])).elim .inr fun h => .inl h.2
    · rw [frame]; exact ⟨rfl, rfl, rfl, rfl, rfl⟩
  · have gone : (s₀.detach p n).port p
        = PortUnit.gone { s.port p with state := state, power := false, retry := retry } := by
      rw [State.detach_port, port]
    rw [if_neg bare]
    refine ⟨?_, ?_, ?_, ?_, fun _ => ?_, fun h => absurd h bare, fun l a => ?_, fun q h => ⟨?_, ?_⟩, ?_⟩
    · rw [gone]; rfl
    · rw [gone]; rfl
    · rw [gone]; rfl
    · rw [gone]; rfl
    · rw [gone]; exact ⟨rfl, rfl, rfl, rfl, rfl, rfl, State.detach_claim⟩
    · exact s₀.detach_arrives p (by rwa [link])
    · rw [State.detach_port_ne h, ports q h]
    · rw [State.detach_claim_ne h, claim]
    · rw [s₀.detach_frame p, frame]; exact ⟨rfl, rfl, rfl, rfl, rfl⟩

/-- A fault of a port whose fault history was set first. -/
theorem State.Faulted.of_faults {s t : State} {p : Port} {f faults : List Nat} {state : PortState} {retry : Option Nat}
    {n : Notice} (h : (s.setPort p { s.port p with faults := f }).Faulted p state retry faults n t) :
    s.Faulted p state retry faults n t := by
  have kind : ((s.setPort p { s.port p with faults := f }).port p).kind = (s.port p).kind := by
    rw [State.setPort_port_same]
  refine ⟨h.state, h.power, h.retry, h.faults, fun k => h.device (by rwa [kind]), fun k => h.bare (by rwa [kind]), h.told,
    fun q k => ?_, h.blocks⟩
  rw [← State.setPort_port_ne s p { s.port p with faults := f } k]
  exact h.others q k

theorem State.faultPort_of_faults (s : State) (p : Port) (f : List Nat) (state : PortState) (retry : Option Nat)
    (n : Notice) :
    s.Faulted p state retry f n ((s.setPort p { s.port p with faults := f }).faultPort p state retry n) := by
  have h := (s.setPort p { s.port p with faults := f }).faultPort_faulted p state retry n
  rw [State.setPort_port_same] at h
  exact h.of_faults

/-- An overcurrent trip with two of the last 10 s left in the history (R12). -/
theorem State.tripStep_latched {s : State} {p : Port} (power : (s.port p).power = true)
    (h : 2 ≤ (s.tripsWithin p).length) :
    s.Faulted p .faultLatched none (s.tripsWithin p) (faultEvent p .overcurrent true 3) (s.tripStep p) := by
  unfold State.tripStep
  rw [if_pos power]
  simp only [if_pos h]
  exact s.faultPort_of_faults p _ _ _ _

/-- An overcurrent trip with fewer than two of the last 10 s in the history (R12). -/
theorem State.tripStep_fault {s : State} {p : Port} (power : (s.port p).power = true)
    (h : ¬ 2 ≤ (s.tripsWithin p).length) :
    s.Faulted p .fault (some 1000) (s.tripsWithin p ++ [s.now])
      (faultEvent p .overcurrent false ((s.tripsWithin p).length + 1)) (s.tripStep p) := by
  unfold State.tripStep
  rw [if_pos power]
  simp only [if_neg h]
  exact s.faultPort_of_faults p _ _ _ _

/-- Settles O18: both branches of a trip are entries to a fault state. -/
theorem overcurrentTrips : Obligations.OvercurrentTrips := by
  intro p s kept power hkept
  have trips : s.tripsWithin p = kept := hkept.symm
  refine ⟨_, rfl, ?_⟩
  by_cases h : 2 ≤ kept.length
  · have fault := State.tripStep_latched power (by rwa [trips])
    rw [trips] at fault
    simp only [if_pos h, decide_eq_true h]
    exact ⟨fault.power, fun _ => ⟨fault.state, fault.retry, fault.faults⟩, fun k => absurd h (Nat.not_le_of_lt k),
      fun k => have ⟨kind, desc, sample, cap, log, _, claim⟩ := fault.device k
        ⟨kind, desc, sample, cap, log, claim⟩, fault.bare, fault.told, fault.others, fault.blocks⟩
  · have fault := State.tripStep_fault power (by rwa [trips])
    rw [trips] at fault
    simp only [if_neg h, decide_eq_false h]
    exact ⟨fault.power, fun k => absurd k h, fun _ => ⟨fault.state, fault.retry, fault.faults⟩,
      fun k => have ⟨kind, desc, sample, cap, log, _, claim⟩ := fault.device k
        ⟨kind, desc, sample, cap, log, claim⟩, fault.bare, fault.told, fault.others, fault.blocks⟩

end Sys2Proof.Machine
end

section
/-! The handshake of a serial device (R14, R22 to R26): O24. -/

namespace Sys2Proof.Machine

/-! ## Whole messages (R17, R19) -/

theorem messagePayload_checked (b : Byte) (ps : List Byte) :
    messagePayload (b :: ps ++ [checkByte (b :: ps)]) = ps := by
  simp [messagePayload]

theorem checkGood_checked (b : Byte) (ps : List Byte) : checkGood (b :: ps ++ [checkByte (b :: ps)]) = true := by
  unfold checkGood
  rw [List.getLast?_concat, List.dropLast_concat]
  simp

theorem messageLength_checked {b : Byte} {ps : List Byte} (h : leadLength b = ps.length) :
    messageLength (b :: ps ++ [checkByte (b :: ps)]) = some (b :: ps ++ [checkByte (b :: ps)]).length := by
  simp [messageLength, h]

/-- An intact DESC is OK in DESCRIBING (R18, R19). -/
theorem Expect.outcome_desc {x : Expect} {b : Byte} (ps : List Byte) (state : x.state = .describing)
    (cls : MsgClass.ofLead b = .desc) : x.outcome (b :: ps ++ [checkByte (b :: ps)]) = .ok := by
  have kind : messageClass (b :: ps ++ [checkByte (b :: ps)]) = some .desc := by simp [messageClass, cls]
  have good := checkGood_checked b ps
  unfold Expect.outcome
  simp only [kind, good]
  simp [Expect.valid, state]

/-! ## A message of a DESCRIBING port (R20, R23 to R25) -/

section
variable {s : State} {p : Port} {u : PortUnit} {h : Handshake}

/-- A whole message of a DESCRIBING port without a tap: the log record, and what the port does with it. -/
theorem State.messageStep_describing (hu : u = s.port p) (state : u.state = .describing) (runs : u.discarding = false)
    (untapped : u.tapTarget = none) {bs : List Byte} (whole : messageLength bs = some bs.length) {o : MsgOutcome}
    (ho : o = u.expect.outcome bs) :
    s.messageStep p bs false = (s.setPort p { u with
      log := appendLog u.log ⟨o, messageClass bs, bs.head?.map leadLength, BitVec.ofNat 16 s.now⟩ }).actDescribing p o bs := by
  subst hu
  have receives : (s.port p).receives = true := by simp [PortUnit.receives, state, runs]
  unfold State.messageStep
  rw [if_pos receives]
  simp only [Bool.false_eq_true, if_false, whole, if_true, ← ho]
  unfold State.messageEnds State.logAndTap
  simp only [state, untapped]
  rfl

/-- A handshake message that is not OK fails the attempt (R24). -/
theorem State.actDescribing_bad (hs : (s.port p).hs = some h) (running : h.ended = none) {o : MsgOutcome} (bad : o ≠ .ok)
    (bs : List Byte) : s.actDescribing p o bs = s.failAttempt p := by
  unfold State.actDescribing
  simp [hs, running, bad]

/-- An OK DESC that the handshake takes (R23, R25). -/
theorem State.actDescribing_accepts (hs : (s.port p).hs = some h) (running : h.ended = none) {bs : List Byte}
    (cls : messageClass bs = some .desc) {k : Handshake} (accepts : h.accept (s.port p).rateCap (messagePayload bs) = some k) :
    s.actDescribing p .ok bs = s.setPort p ((s.port p).stageDesc k) := by
  unfold State.actDescribing
  simp [hs, running, cls, accepts, State.modPort_eq_setPort]

/-- An OK DESC that the handshake does not take fails the attempt (R24). -/
theorem State.actDescribing_refuses (hs : (s.port p).hs = some h) (running : h.ended = none) {bs : List Byte}
    (cls : messageClass bs = some .desc) (refuses : h.accept (s.port p).rateCap (messagePayload bs) = none) :
    s.actDescribing p .ok bs = s.failAttempt p := by
  unfold State.actDescribing
  simp [hs, running, cls, refuses]

/-- A failed attempt before the third opens a new one (R24). -/
theorem State.failAttempt_reopens (hs : (s.port p).hs = some h) (early : h.attempt < 2) :
    s.failAttempt p = s.setPort p ((s.port p).openAttempt (h.attempt + 1)) := by
  unfold State.failAttempt
  rw [hs]
  have more : h.attempt + 1 ≠ 3 := by omega
  simp [more, State.modPort_eq_setPort]

/-- The record of a DESCRIBING port with an OK DESC logged. -/
def PortUnit.descLogged (u : PortUnit) (length now : Nat) : PortUnit :=
  { u with log := appendLog u.log ⟨.ok, some .desc, some length, BitVec.ofNat 16 now⟩ }

/-- An intact DESC at a DESCRIBING port (R20). -/
theorem State.descStep (hu : u = s.port p) (state : u.state = .describing) (runs : u.discarding = false)
    (untapped : u.tapTarget = none) {b : Byte} {ps : List Byte} (cls : MsgClass.ofLead b = .desc)
    (length : leadLength b = ps.length) :
    s.messageStep p (b :: ps ++ [checkByte (b :: ps)]) false
      = (s.setPort p (u.descLogged ps.length s.now)).actDescribing p .ok (b :: ps ++ [checkByte (b :: ps)]) := by
  have ok : MsgOutcome.ok = u.expect.outcome (b :: ps ++ [checkByte (b :: ps)]) :=
    (Expect.outcome_desc (x := u.expect) ps state cls).symm
  rw [State.messageStep_describing hu state runs untapped (messageLength_checked length) ok]
  simp [messageClass, cls, length, PortUnit.descLogged]

/-- An intact DESC that the handshake takes. -/
theorem State.descStep_accepts (hu : u = s.port p) (state : u.state = .describing) (runs : u.discarding = false)
    (untapped : u.tapTarget = none) (hs : u.hs = some h) (running : h.ended = none) {b : Byte} {ps : List Byte}
    (cls : MsgClass.ofLead b = .desc) (length : leadLength b = ps.length) {k : Handshake}
    (accepts : h.accept u.rateCap ps = some k) :
    exec (.messageOutcome p (b :: ps ++ [checkByte (b :: ps)]) false) s
      = .next (s.setPort p ((u.descLogged ps.length s.now).stageDesc k)) := by
  have kind : messageClass (b :: ps ++ [checkByte (b :: ps)]) = some .desc := by simp [messageClass, cls]
  have logged : (s.setPort p (u.descLogged ps.length s.now)).port p = u.descLogged ps.length s.now :=
    State.setPort_port_same _ _ _
  have taken := State.actDescribing_accepts (s := s.setPort p (u.descLogged ps.length s.now)) (p := p) (h := h) (k := k)
    (by rw [logged]; exact hs) running kind (by rw [logged, messagePayload_checked]; exact accepts)
  rw [logged, State.setPort_setPort] at taken
  exact congrArg Host.Outcome.next ((State.descStep hu state runs untapped cls length).trans taken)

/-- An intact DESC that the handshake does not take, before the third attempt. -/
theorem State.descStep_refuses (hu : u = s.port p) (state : u.state = .describing) (runs : u.discarding = false)
    (untapped : u.tapTarget = none) (hs : u.hs = some h) (running : h.ended = none) {b : Byte} {ps : List Byte}
    (cls : MsgClass.ofLead b = .desc) (length : leadLength b = ps.length) (refuses : h.accept u.rateCap ps = none)
    (early : h.attempt < 2) :
    exec (.messageOutcome p (b :: ps ++ [checkByte (b :: ps)]) false) s
      = .next (s.setPort p ((u.descLogged ps.length s.now).openAttempt (h.attempt + 1))) := by
  have kind : messageClass (b :: ps ++ [checkByte (b :: ps)]) = some .desc := by simp [messageClass, cls]
  have logged : (s.setPort p (u.descLogged ps.length s.now)).port p = u.descLogged ps.length s.now :=
    State.setPort_port_same _ _ _
  have fails := State.actDescribing_refuses (s := s.setPort p (u.descLogged ps.length s.now)) (p := p) (h := h)
    (by rw [logged]; exact hs) running kind (by rw [logged, messagePayload_checked]; exact refuses)
  have reopens := State.failAttempt_reopens (s := s.setPort p (u.descLogged ps.length s.now)) (p := p) (h := h)
    (by rw [logged]; exact hs) early
  rw [logged, State.setPort_setPort] at reopens
  exact congrArg Host.Outcome.next ((State.descStep hu state runs untapped cls length).trans (fails.trans reopens))

/-- A whole message with another outcome than OK at a DESCRIBING port, before the third attempt (R24). -/
theorem State.badStep_reopens (hu : u = s.port p) (state : u.state = .describing) (runs : u.discarding = false)
    (untapped : u.tapTarget = none) (hs : u.hs = some h) (running : h.ended = none) {bs : List Byte}
    (whole : messageLength bs = some bs.length) {o : MsgOutcome} (ho : o = u.expect.outcome bs) (bad : o ≠ .ok)
    (early : h.attempt < 2) :
    exec (.messageOutcome p bs false) s = .next (s.setPort p (({ u with
      log := appendLog u.log ⟨o, messageClass bs, bs.head?.map leadLength, BitVec.ofNat 16 s.now⟩ }).openAttempt
        (h.attempt + 1))) := by
  obtain ⟨v, hv⟩ : ∃ v, v = { u with
    log := appendLog u.log ⟨o, messageClass bs, bs.head?.map leadLength, BitVec.ofNat 16 s.now⟩ } := ⟨_, rfl⟩
  have context : ((s.setPort p v).port p).hs = some h := by rw [State.setPort_port_same, hv]; exact hs
  have fails := State.actDescribing_bad context running bad bs
  have reopens := State.failAttempt_reopens context early
  have step := State.messageStep_describing hu state runs untapped whole ho
  rw [State.setPort_port_same, State.setPort_setPort] at reopens
  rw [← hv] at step ⊢
  exact congrArg Host.Outcome.next (step.trans (fails.trans reopens))

end

/-! ## What the handshake takes (R23, R25) -/

section
variable {h : Handshake} {ps : List Byte} {cap : Nat}

/-- HEAD, when none is staged. -/
theorem Handshake.accept_head (length : ps.length = 10) (kind : byteAt ps 0 = 0) (none : h.stagedHead = none)
    (few : 1 ≤ byteAt ps 3) (many : byteAt ps 3 ≤ 8) (rate : byteAt ps 4 ≤ 5)
    (encoder : (byteAt ps 5).testBit 0 = true → wordAt ps 6 ≠ 0 ∧ wordAt ps 8 ≠ 0) :
    h.accept cap ps = some { h with stagedHead := some (BitVec.ofNat 16 (wordAt ps 1),
      ⟨byteAt ps 3, byteAt ps 4, (byteAt ps 5).testBit 0,
        if (byteAt ps 5).testBit 0 then some (wordAt ps 6) else .none,
        if (byteAt ps 5).testBit 0 then some (min 32000 (wordAt ps 8)) else .none⟩) } := by
  have head : 1 ≤ byteAt ps 3 ∧ byteAt ps 3 ≤ 8 ∧ byteAt ps 4 ≤ 5
      ∧ ((byteAt ps 5).testBit 0 = true → wordAt ps 6 ≠ 0 ∧ wordAt ps 8 ≠ 0) := ⟨few, many, rate, encoder⟩
  unfold Handshake.accept
  rw [kind, length, none]
  simp only [headOf, if_pos head, Option.map_some]

/-- A second HEAD is not taken. -/
theorem Handshake.accept_head_again {x : BitVec 16 × Head} (length : ps.length = 10) (kind : byteAt ps 0 = 0)
    (staged : h.stagedHead = some x) : h.accept cap ps = none := by
  obtain ⟨typeId, head⟩ := x
  unfold Handshake.accept
  rw [kind, length, staged]
  rfl

/-- MODE, in order and within the limits. -/
theorem Handshake.accept_mode {x : BitVec 16 × Head} (length : ps.length = 23) (kind : byteAt ps 0 = 1)
    (staged : h.stagedHead = some x) (next : byteAt ps 1 = h.stagedModes.length)
    (room : h.stagedModes.length < x.2.modeCount) (few : 1 ≤ byteAt ps 2) (many : byteAt ps 2 ≤ 4)
    (format : byteAt ps 3 ∈ [1, 2, 4]) (order : signedOf 32 (longAt ps 4) < signedOf 32 (longAt ps 8))
    (interval : wordAt ps 20 ≤ 60000) :
    h.accept cap ps = some { h with stagedModes := h.stagedModes ++ [⟨byteAt ps 2, byteAt ps 3, signedOf 32 (longAt ps 4),
      signedOf 32 (longAt ps 8), signedOf 32 (longAt ps 12), signedOf 32 (longAt ps 16), max 10 (wordAt ps 20),
      ps.getD 22 0⟩] } := by
  have limits : 1 ≤ byteAt ps 2 ∧ byteAt ps 2 ≤ 4 ∧ (byteAt ps 3 = 1 ∨ byteAt ps 3 = 2 ∨ byteAt ps 3 = 4)
      ∧ signedOf 32 (longAt ps 4) < signedOf 32 (longAt ps 8) ∧ wordAt ps 20 ≤ 60000 :=
    ⟨few, many, by simpa using format, order, interval⟩
  unfold Handshake.accept
  rw [kind, length, staged]
  simp only [modeOf, if_pos limits, next, true_and, if_pos room]

/-- END, after all MODEs. -/
theorem Handshake.accept_end {x : BitVec 16 × Head} (length : ps.length = 2) (kind : byteAt ps 0 = 2)
    (staged : h.stagedHead = some x) (all : h.stagedModes.length = x.2.modeCount) (count : byteAt ps 1 = x.2.modeCount) :
    h.accept cap ps = some { h with timer := none, ended := some (min x.2.maxRate cap) } := by
  unfold Handshake.accept
  rw [kind, length, staged]
  simp only [all, count, and_self, if_true]

end

/-! ## The sent ACK (R25, R26) -/

theorem Head.kf_eq (h : Head) :
    h.kf = if h.hasEncoder then (h.maxSpeed.map fun v => clamp 0 1023 (truncDiv 256000 v)).getD 0 else 0 := by
  unfold Head.kf
  cases h.hasEncoder <;> cases h.maxSpeed <;> rfl

/-- The record of a described device in mode 0 (R6, R25). -/
def PortUnit.recorded (u : PortUnit) (typeId : BitVec 16) (head : Head) (modes : List ModeDesc) (arrival : BitVec 32) :
    PortUnit :=
  { u with
    kind := .serial, typeId := some typeId, desc := some ⟨some head, modes⟩, mode := some 0
    sample := some (emptySample arrival) }

section
variable (s : State) (p : Port) (typeId : BitVec 16) (head : Head) (modes : List ModeDesc)

/-- What the record of a described device changes. -/
theorem State.attachDescribed_frame : s.attachDescribed p typeId head modes = { s with
    ports := s.ports.set p ((s.port p).recorded typeId head modes (Config.freeWord s.freeCount))
    motion := s.motion.set p ((s.unit p).descriptorDefaults head), freeCount := s.freeCount + 1
    links := (s.attachDescribed p typeId head modes).links } := rfl

theorem State.attachDescribed_port : (s.attachDescribed p typeId head modes).port p
    = (s.port p).recorded typeId head modes (Config.freeWord s.freeCount) := Six.get_set_same _ _ _

theorem State.attachDescribed_port_ne {q : Port} (h : q ≠ p) :
    (s.attachDescribed p typeId head modes).port q = s.port q := Six.get_set_ne _ _ h

theorem State.attachDescribed_unit : (s.attachDescribed p typeId head modes).unit p
    = (s.unit p).descriptorDefaults head := Six.get_set_same _ _ _

theorem State.attachDescribed_unit_ne {q : Port} (h : q ≠ p) :
    (s.attachDescribed p typeId head modes).unit q = s.unit q := Six.get_set_ne _ _ h

/-- ATTACHED stands last in the queue of every ACTIVE link, unless the queue is full. -/
theorem State.attachDescribed_arrives {l : LinkId} (a : (s.link l).state = .active) :
    32 ≤ ((s.attachDescribed p typeId head modes).link l).notices.length
      ∨ ((s.attachDescribed p typeId head modes).link l).notices.getLast?
        = some (.portEvent ⟨.attached, p, .serial, some typeId, some 0, .none, false, 0⟩) := by
  obtain ⟨t, ht⟩ : ∃ t, t = (s.bumpFree.modPort p fun u =>
      u.recorded typeId head modes (Config.freeWord s.freeCount)).modUnit p fun m => m.descriptorDefaults head := ⟨_, rfl⟩
  have sent : s.attachDescribed p typeId head modes = t.notifyAll (t.portEvent p .attached (some 0)) := by rw [ht]; rfl
  have notice : t.portEvent p .attached (some 0)
      = .portEvent ⟨.attached, p, .serial, some typeId, some 0, .none, false, 0⟩ := by
    rw [ht, State.portEvent, State.modUnit_port, State.modPort_port_same]
    rfl
  rw [sent, notice]
  have active : (t.link l).state = .active := by rw [ht]; exact a
  exact (t.notifyAll_arrives _ active).elim .inr fun h => .inl h.2

theorem State.attachDescribed_links : s.LinksGrow (s.attachDescribed p typeId head modes) :=
  (State.LinksGrow.of_links rfl).trans (State.linksGrow_notifyAll
    ((s.bumpFree.modPort p fun u => u.recorded typeId head modes (Config.freeWord s.freeCount)).modUnit p
      fun m => m.descriptorDefaults head) rfl)

end

/-- The notice of a detach's last step reaches every ACTIVE link. -/
theorem State.detach_sends (s : State) (p : Port) (last : Notice) (l : LinkId) : s.sends (s.detach p last) l last := by
  have before := ((s.detachWork_links p).trans (State.removeStreams_links _ p)).trans (State.forget_links _ p)
  rw [State.detach_eq]
  exact before.sends_after (State.sends_notifyAll _ l last)

/-- The sent ACK of a staged device, by whether a device is described (R25, R26). -/
theorem State.ackStep_eq {s : State} {p : Port} {h : Handshake} {typeId : BitVec 16} {head : Head} {code : Nat}
    (hs : (s.port p).hs = some h) (staged : h.stagedHead = some (typeId, head)) (ended : h.ended = some code) :
    s.ackStep p = if (s.port p).described then
        if (s.port p).typeId = some typeId ∧ (s.port p).desc = some ⟨some head, h.stagedModes⟩ then
          (s.modPort p fun x => x.activate code).redescribe p
        else
          ((((s.detachPort p).modPort p fun x => { x.activate code with discarding := (s.port p).discarding }).modUnit p
            MotionUnit.attach)).attachDescribed p typeId head h.stagedModes
      else (s.modPort p fun x => x.activate code).attachDescribed p typeId head h.stagedModes := by
  obtain ⟨attempt, timer, lead, stagedHead, modes, endedCode⟩ := h
  subst staged ended
  unfold State.ackStep
  simp only [hs]

/-- A first handshake (R6, R25). -/
theorem State.ackStep_first {s : State} {p : Port} {h : Handshake} {typeId : BitVec 16} {head : Head} {code : Nat}
    (hs : (s.port p).hs = some h) (staged : h.stagedHead = some (typeId, head)) (ended : h.ended = some code)
    (bare : (s.port p).desc = none) :
    s.ackStep p = (s.setPort p ((s.port p).activate code)).attachDescribed p typeId head h.stagedModes := by
  rw [State.ackStep_eq hs staged ended]
  simp [PortUnit.described, bare, State.modPort_eq_setPort]

/-- A handshake of the device the port describes (R26). -/
theorem State.ackStep_same {s : State} {p : Port} {h : Handshake} {typeId : BitVec 16} {head : Head} {code : Nat}
    (hs : (s.port p).hs = some h) (staged : h.stagedHead = some (typeId, head)) (ended : h.ended = some code)
    (id : (s.port p).typeId = some typeId) (desc : (s.port p).desc = some ⟨some head, h.stagedModes⟩) :
    s.ackStep p = (s.setPort p ((s.port p).activate code)).redescribe p := by
  rw [State.ackStep_eq hs staged ended]
  simp [PortUnit.described, id, desc, State.modPort_eq_setPort]

/-- The port record after the ACK of another device than the one described: that one's detach, then the new one's values
(R8, R25, R26; log entry 29). -/
theorem PortUnit.replaced_eq (u : PortUnit) (typeId : BitVec 16) (head : Head) (modes : List ModeDesc) (code : Nat)
    (arrival : BitVec 32) :
    ({ u.gone.activate code with discarding := u.discarding }).recorded typeId head modes arrival
      = { PortUnit.afterReset with
        state := .active, power := u.power, powerTimer := u.powerTimer, level := u.level, lastReading := u.lastReading
        run := u.run, kind := .serial, typeId := some typeId, desc := some ⟨some head, modes⟩, mode := some 0
        sample := some (emptySample arrival), agreed := some code, faults := u.faults, retry := u.retry
        tapTarget := u.tapTarget, tapSel := u.tapSel, rate := code, discarding := u.discarding, silence := some 250
        keepAlive := some 100, sent := u.sent } := by
  simp only [PortUnit.recorded, PortUnit.activate, PortUnit.gone, PortUnit.workless, PortUnit.cleared, PortUnit.dropMode,
    PortUnit.afterReset]

/-- A detached port takes a new record, and its motion unit starts afresh (R5, R26). -/
def State.reseat (s : State) (p : Port) (u : PortUnit) : State := (s.setPort p u).modUnit p MotionUnit.attach

theorem State.reseat_frame (s : State) (p : Port) (u : PortUnit) : s.reseat p u = { s with
    ports := s.ports.set p u, motion := s.motion.set p (s.unit p).attach } := rfl

theorem State.reseat_port (s : State) (p : Port) (u : PortUnit) : (s.reseat p u).port p = u := s.setPort_port_same p u

theorem State.reseat_port_ne (s : State) {p q : Port} (u : PortUnit) (h : q ≠ p) : (s.reseat p u).port q = s.port q :=
  State.setPort_port_ne _ _ _ h

theorem State.reseat_unit (s : State) (p : Port) (u : PortUnit) : (s.reseat p u).unit p = (s.unit p).attach :=
  State.modUnit_unit_same _ _ _

theorem State.reseat_links (s : State) (p : Port) (u : PortUnit) : s.LinksGrow (s.reseat p u) := .of_links rfl

theorem State.detachPort_links (s : State) (p : Port) : s.LinksGrow (s.detachPort p) := s.detach_links p rfl

theorem State.detachPort_port (s : State) (p : Port) : (s.detachPort p).port p = (s.port p).gone := by
  rw [State.detachPort, State.detach_port]

/-- A handshake of another device than the port describes (R26). -/
theorem State.ackStep_other {s : State} {p : Port} {h : Handshake} {typeId : BitVec 16} {head : Head} {code : Nat}
    (hs : (s.port p).hs = some h) (staged : h.stagedHead = some (typeId, head)) (ended : h.ended = some code)
    {d : Descriptor} (desc : (s.port p).desc = some d)
    (other : (s.port p).typeId ≠ some typeId ∨ d ≠ ⟨some head, h.stagedModes⟩) :
    s.ackStep p = ((s.detachPort p).reseat p
        { (s.port p).gone.activate code with discarding := (s.port p).discarding }).attachDescribed p typeId head
          h.stagedModes := by
  have differs : ¬ ((s.port p).typeId = some typeId ∧ (s.port p).desc = some ⟨some head, h.stagedModes⟩) := by
    rw [desc]
    rintro ⟨id, same⟩
    exact other.elim (fun k => k id) fun k => k (Option.some.inj same)
  have described : (s.port p).described = true := by simp [PortUnit.described, desc]
  rw [State.ackStep_eq hs staged ended, if_pos described, if_neg differs, State.modPort_eq_setPort,
    State.detachPort_port, State.reseat]

/-- A re-handshake with the same identity: REDESCRIBED, and the mode is settled (R26). -/
theorem State.redescribe_frame (s : State) (p : Port) : s.redescribe p = { s with
    ports := s.ports.set p (s.port p).settleMode, links := (s.redescribe p).links } := rfl

theorem State.redescribe_port (s : State) (p : Port) : (s.redescribe p).port p = (s.port p).settleMode :=
  Six.get_set_same _ _ _

theorem State.redescribe_port_ne (s : State) {p q : Port} (h : q ≠ p) : (s.redescribe p).port q = s.port q :=
  Six.get_set_ne _ _ h

theorem State.redescribe_arrives (s : State) (p : Port) {l : LinkId} (a : (s.link l).state = .active) :
    32 ≤ ((s.redescribe p).link l).notices.length
      ∨ ((s.redescribe p).link l).notices.getLast? = some (s.portEvent p .redescribed (s.port p).mode) :=
  (s.notifyAll_arrives (s.portEvent p .redescribed (s.port p).mode) a).elim .inr fun h => .inl h.2

theorem PortUnit.settleMode_pending {u : PortUnit} {m : Nat} (state : u.state = .active) (pending : u.pendingMode = some m) :
    u.settleMode = { u with sent := u.sent ++ [.mode m] } := by
  simp [PortUnit.settleMode, PortUnit.sendMode, state, pending]

theorem PortUnit.settleMode_restore {u : PortUnit} {m : Nat} (state : u.state = .active) (none : u.pendingMode = none)
    (mode : u.mode = some m) (other : m ≠ 0) : u.settleMode = { u with
      pendingMode := some m, restore := true, modeTimer := some 1000, sent := u.sent ++ [.mode m] } := by
  simp [PortUnit.settleMode, PortUnit.sendMode, state, none, mode, other]

theorem PortUnit.settleMode_rest {u : PortUnit} (none : u.pendingMode = none) (mode : u.mode = some 0) :
    u.settleMode = u := by
  simp [PortUnit.settleMode, none, mode]

/-! ## The attempt timer (R22, R24, R14) -/

theorem State.attemptTimer_fails {s : State} {p : Port} {h : Handshake} (hs : (s.port p).hs = some h)
    (timer : h.timer.isSome = true) : exec (.attemptTimerExpiry p) s = .next (s.failAttempt p) := by
  simp only [exec, execAttemptTimerExpiry, hs, timer, if_true]

theorem State.failAttempt_third {s : State} {p : Port} {h : Handshake} (hs : (s.port p).hs = some h)
    (third : h.attempt = 2) : s.failAttempt p = s.handshakeFault p := by
  unfold State.failAttempt
  rw [hs]
  simp [third]

/-- Settles O24: one lemma for each message, each branch of the sent ACK and each end of an attempt. -/
theorem handshakeEnds : Obligations.HandshakeEnds := by
  refine ⟨⟨fun p s h hs receives lead running => ?_, fun p bs ps s u h hu state runs untapped hs running =>
    ⟨fun v hv => ⟨fun hbs length kind none few many rate encoder => ?_,
      fun x hbs length kind staged next room few many format order interval => ?_,
      fun x hbs length kind staged all count => ?_, fun x hbs length kind staged early => ?_⟩,
    fun o whole ho bad early => ?_⟩⟩,
    fun p s u act h typeId head code hu hs staged ended hact => ⟨fun bare => ?_, fun id desc => ?_, fun d desc other => ?_⟩,
    fun p s h hs timer => ⟨fun early => ?_, fun third device => ?_⟩⟩
  · have leads : (s.port p).leadByte = { s.port p with hs := some { h with timer := some 1500, leadSeen := true } } := by
      simp [PortUnit.leadByte, hs, receives, lead, running]
    simp only [exec, execFirstDescLeadByte, State.modPort_eq_setPort, leads]
  · rw [hbs, State.descStep_accepts hu state runs untapped hs running (b := 0x0A) rfl length.symm
      (Handshake.accept_head length kind none few many rate encoder), hv]
    simp [PortUnit.stageDesc, PortUnit.descLogged, running]
  · rw [hbs, State.descStep_accepts hu state runs untapped hs running (b := 0x17) rfl length.symm
      (Handshake.accept_mode length kind staged next room few many format order interval), hv]
    simp [PortUnit.stageDesc, PortUnit.descLogged, running]
  · rw [hbs, State.descStep_accepts hu state runs untapped hs running (b := 0x02) rfl length.symm
      (Handshake.accept_end length kind staged all count), hv]
    rfl
  · rw [hbs, State.descStep_refuses hu state runs untapped hs running (b := 0x0A) rfl length.symm
      (Handshake.accept_head_again length kind staged) early, hv]
    rfl
  · exact State.badStep_reopens hu state runs untapped hs running (by simpa [wholeMessage] using whole) ho bad early
  · subst hu
    obtain ⟨s₀, hs₀⟩ : ∃ s₀, s₀ = s.setPort p act := ⟨_, rfl⟩
    have own : s₀.port p = act := by rw [hs₀]; exact State.setPort_port_same _ _ _
    have frame : s₀ = { s with ports := s₀.ports } := by rw [hs₀]; rfl
    have step : s.ackStep p = s₀.attachDescribed p typeId head h.stagedModes := by
      rw [State.ackStep_first hs staged ended bare, hs₀, hact]; rfl
    have port := s₀.attachDescribed_port p typeId head h.stagedModes
    rw [own] at port
    refine ⟨_, congrArg Host.Outcome.next step, by rw [port]; rfl, by rw [port]; exact ⟨_, rfl, rfl, rfl, rfl, rfl⟩, ?_,
      fun l a => s₀.attachDescribed_arrives p typeId head h.stagedModes ?_, fun q k => ⟨?_, ?_⟩, ?_⟩
    · rw [State.attachDescribed_unit, MotionUnit.descriptorDefaults, Head.kf_eq, frame]; rfl
    · rw [frame]; exact a
    · rw [State.attachDescribed_port_ne _ _ _ _ _ k, hs₀, State.setPort_port_ne _ _ _ k]
    · rw [State.attachDescribed_unit_ne _ _ _ _ _ k, frame]; rfl
    · rw [s₀.attachDescribed_frame, frame]; exact ⟨rfl, rfl, rfl, rfl, rfl, rfl, rfl⟩
  · subst hu
    obtain ⟨s₀, hs₀⟩ : ∃ s₀, s₀ = s.setPort p act := ⟨_, rfl⟩
    have own : s₀.port p = act := by rw [hs₀]; exact State.setPort_port_same _ _ _
    have frame : s₀ = { s with ports := s₀.ports } := by rw [hs₀]; rfl
    have step : s.ackStep p = s₀.redescribe p := by
      rw [State.ackStep_same hs staged ended id desc, hs₀, hact]; rfl
    have port := s₀.redescribe_port p
    rw [own] at port
    have state : act.state = .active := by rw [hact]
    have pending : act.pendingMode = (s.port p).pendingMode := by rw [hact]
    have mode : act.mode = (s.port p).mode := by rw [hact]
    have sent : act.sent = (s.port p).sent := by rw [hact]
    refine ⟨_, congrArg Host.Outcome.next step, fun m k => ?_, fun m none k other => ?_, fun none k => ?_, fun l a => ?_,
      fun q k => ?_, ?_⟩
    · rw [port, PortUnit.settleMode_pending state (pending.trans k), sent]
    · rw [port, PortUnit.settleMode_restore state (pending.trans none) (mode.trans k) other, sent]
    · rw [port, PortUnit.settleMode_rest (pending.trans none) (mode.trans k)]
    · have notice : s₀.portEvent p .redescribed (s₀.port p).mode
          = .portEvent ⟨.redescribed, p, (s.port p).kind, some typeId, (s.port p).mode, .none, false, 0⟩ := by
        rw [State.portEvent, own, hact, ← id]
      rw [← notice]
      exact s₀.redescribe_arrives p (by rw [frame]; exact a)
    · rw [State.redescribe_port_ne _ k, hs₀, State.setPort_port_ne _ _ _ k]
    · rw [s₀.redescribe_frame, frame]
  · subst hu
    obtain ⟨D, hD⟩ : ∃ D, D = s.detachPort p := ⟨_, rfl⟩
    obtain ⟨v, hv⟩ : ∃ v, v = { (s.port p).gone.activate code with discarding := (s.port p).discarding } := ⟨_, rfl⟩
    have step : s.ackStep p = (D.reseat p v).attachDescribed p typeId head h.stagedModes := by
      rw [State.ackStep_other hs staged ended desc other, hD, hv]
    have grows : s.LinksGrow D := by rw [hD]; exact s.detachPort_links p
    have port := (D.reseat p v).attachDescribed_port p typeId head h.stagedModes
    have unit := (D.reseat p v).attachDescribed_unit p typeId head h.stagedModes
    rw [State.reseat_port, hv, PortUnit.replaced_eq, ← hv] at port
    rw [State.reseat_unit] at unit
    have later : D.LinksGrow ((D.reseat p v).attachDescribed p typeId head h.stagedModes) :=
      (D.reseat_links p v).trans ((D.reseat p v).attachDescribed_links p typeId head h.stagedModes)
    have claim : D.claim p = .free := by rw [hD]; exact State.detach_claim
    have claims : ∀ q, q ≠ p → D.claim q = s.claim q := fun q k => by rw [hD]; exact State.detach_claim_ne k
    have streams : ∀ e ∈ D.streams, e ∈ s.streams ∧ e.key.port ≠ some p := fun e mem => by
      rw [hD] at mem; exact State.mem_detach_streams.mp mem
    have pairs : ∀ q, s.pairOf p = some q → D.pairAt q = none := fun q paired => by
      rw [hD]; exact State.detach_paired paired
    have told : ∀ l, s.sends D l (.portEvent ⟨.detached, p, (s.port p).kind, (s.port p).typeId, none, .none, false, 0⟩) :=
      fun l => by rw [hD]; exact s.detach_sends p _ l
    refine ⟨_, congrArg Host.Outcome.next step, ?_, ?_, ?_, fun e mem => ?_, ?_, ?_,
      fun q paired => ?_, ?_, fun l => ?_, fun l a => ?_, fun q k => ⟨?_, ?_⟩, ?_⟩
    · rw [port]
    · rw [port]; exact ⟨_, rfl, rfl, rfl, rfl, rfl⟩
    · exact claim
    · exact streams e mem
    · rw [unit]; rfl
    · rw [unit]; rfl
    · exact pairs q paired
    · rw [unit, MotionUnit.descriptorDefaults, Head.kf_eq]; rfl
    · exact grows.sends_before later rfl (told l)
    · exact (D.reseat p v).attachDescribed_arrives p typeId head h.stagedModes ((grows l).state.trans a)
    · rw [State.attachDescribed_port_ne _ _ _ _ _ k, State.reseat_port_ne _ _ k, hD, State.detachPort, State.detach_port_ne k]
    · exact claims q k
    · rw [(D.reseat p v).attachDescribed_frame, D.reseat_frame, hD, State.detachPort, s.detach_frame p]
      exact ⟨rfl, rfl, rfl, rfl⟩
  · rw [State.attemptTimer_fails hs timer, State.failAttempt_reopens hs early]
    rfl
  · have fault := s.faultPort_faulted p .fault (some 1000) (faultEvent p .handshake false (s.tripsWithin p).length)
    obtain ⟨kind, -, -, -, -, context, claim⟩ := fault.device device
    refine ⟨_, (State.attemptTimer_fails hs timer).trans (congrArg Host.Outcome.next (State.failAttempt_third hs third)),
      fault.state, fault.power, fault.retry, kind, context, fault.faults, claim, fault.told, fault.others, fault.blocks.1,
      fault.blocks.2.2.1⟩

end Sys2Proof.Machine
end

section
/-! Attachment at a level of 1 to 7, and the touch switch's samples (R3, R5 to R7, R32, R67): O16. -/

namespace Sys2Proof.Machine

/-! ## A sample update is offered (R32, R67) -/

theorem State.linkWork_offerData (s : State) (e : StreamEntry) (u : Update) : s.LinkWork (s.offerData e u) := by
  refine foldl_induct .refl .trans _ (fun t l _ => ?_) s
  split
  · exact ⟨rfl, t.linksGrow_modLink l (Link.grows_pushData _ _)⟩
  · exact .refl t

/-- An offer of source updates changes the stream entries and the links alone. -/
theorem State.offerUpdates_frame (s : State) (us : List Update) : s.offerUpdates us = { s with
    streams := s.streams.map fun e => e.sent us s.deviceTime, links := (s.offerUpdates us).links } := by
  have work : (s.setStreams (s.streams.map fun e => e.sent us s.deviceTime)).LinkWork (s.offerUpdates us) := by
    refine foldl_induct .refl .trans _ (fun t e _ => ?_) _
    split
    · exact t.linkWork_offerData e _
    · exact .refl t
  conv_lhs => rw [work.frame]
  rfl

/-- What a sample update does to one unit. -/
def State.unitMeets (p : Port) (r : SampleRec) (s : State) (x : Port) : State :=
  match (s.unit x).queue, (s.unit x).act with
  | g :: _, some a => if g.metBy a.baseline p r then s.finishSegment x .condition else s
  | _, _ => s

/-- What a sample update does to one pair. -/
def State.pairMeets (p : Port) (r : SampleRec) (s : State) (q : PairId) : State :=
  match s.pairAt q with
  | some ⟨_, _, _, g :: _, some a, _, _⟩ => if g.seg.metBy a.baseline p r then s.finishPair q .condition else s
  | _ => s

theorem State.testConditions_eq (s : State) (p : Port) (r : SampleRec) : s.testConditions p r
    = PairId.all.foldl (State.pairMeets p r) (Port.all.foldl (State.unitMeets p r) s) := rfl

theorem State.unitWork_unitMeets (p : Port) (r : SampleRec) (s : State) (x : Port) : s.UnitWork x (s.unitMeets p r x) := by
  unfold State.unitMeets
  split
  · split
    · exact s.unitWork_finishSegment x _
    · exact .refl x s
  · exact .refl x s

theorem State.pairWork_pairMeets (p : Port) (r : SampleRec) (s : State) (q : PairId) : s.PairWork q (s.pairMeets p r q) := by
  unfold State.pairMeets
  split
  · split
    · exact s.pairWork_finishPair q _
    · exact .refl q s
  · exact .refl q s

theorem Segment.metBy_of_source_ne {g : Segment} {p : Port} (h : ∀ c ∈ g.cond, c.source ≠ p) (b : Option (BitVec 16))
    (r : SampleRec) : g.metBy b p r = false := by
  unfold Segment.metBy
  cases e : g.cond with
  | none => rfl
  | some c => simp [h c e]

/-- A new sample in the condition's mode that meets it (R67). -/
theorem Segment.metBy_of_met {g : Segment} {c : StopCond} {p : Port} {r : SampleRec} {b : Option (BitVec 16)}
    (cond : g.cond = some c) (source : c.source = p) (mode : c.mode = r.valuesMode) (fresh : b ≠ r.seq)
    (met : c.met (r.scaled.getD c.index 0) = true) : g.metBy b p r = true := by
  unfold Segment.metBy
  simp only [cond, met, Bool.and_true]
  simp [source, mode, fresh]

/-- Pairs whose conditions do not name the port are not touched by its samples. -/
theorem State.foldl_pairMeets_idle {s : State} {p : Port} (r : SampleRec)
    (h : ∀ q z, s.pairAt q = some z → ∀ k ∈ z.queue, ∀ d ∈ k.seg.cond, d.source ≠ p) :
    PairId.all.foldl (State.pairMeets p r) s = s := by
  have idle : ∀ q, s.pairMeets p r q = s := by
    intro q
    unfold State.pairMeets
    split
    · rename_i g rest a corrA corrB e
      have unmet := Segment.metBy_of_source_ne (h q _ e g (by simp)) a.baseline r
      rw [unmet]
      rfl
    · rfl
  simp [PairId.all, idle]

/-- A single segment whose condition a sample meets ends CONDITION (R67, R72): the unit is empty, its issuer is told where the
segment asks for it, and where no pair's condition names the port, the motor takes the end action. -/
theorem State.testConditions_meets {s : State} {p x : Port} {r : SampleRec} {g : Segment} {a : Activation}
    (queue : (s.unit x).queue = [g]) (act : (s.unit x).act = some a) (met : g.metBy a.baseline p r = true) :
    ((s.testConditions p r).unit x).queue = [] ∧ ((s.testConditions p r).unit x).act = none
      ∧ ((s.testConditions p r).unit x).position = (s.unit x).position
      ∧ ((∀ q z, s.pairAt q = some z → ∀ k ∈ z.queue, ∀ d ∈ k.seg.cond, d.source ≠ p) →
        ((s.testConditions p r).unit x).endedBy g.endAction (a.target.getD (s.unit x).position))
      ∧ (g.notify = true → s.sendsEnd (s.testConditions p r) x none g .condition) := by
  obtain ⟨t, before, after⟩ := State.foldl_units (State.unitWork_unitMeets p r) x s
  obtain ⟨u, hu⟩ : ∃ u, u = Port.all.foldl (State.unitMeets p r) s := ⟨_, rfl⟩
  have single : (t.unit x).queue = [g] := by rw [before.unit, queue]
  have aborts : t.unitMeets p r x = t.abortSegment x .condition := by
    unfold State.unitMeets
    rw [single, before.unit, act]
    simp only [met, if_true, State.finishSegment_of_single single]
  rw [aborts, ← hu] at after
  have pairs : u.PairsWork (s.testConditions p r) := by
    rw [State.testConditions_eq, hu]
    exact State.pairsWork_foldl (State.pairWork_pairMeets p r) _ _
  have unit : u.unit x = ({ s.unit x with queue := [], act := none }).endAction g.endAction (s.unit x).holdPosition
      ((t.port x).holdCreep (some g)) := by
    rw [after.unit, State.abortSegment_unit single, before.unit]
  have kept := (pairs.kept x).trans (by rw [unit, MotionUnit.endAction_kept])
  refine ⟨by rw [kept], by rw [kept], by rw [kept], fun unnamed => ?_, fun notify => ?_⟩
  · have records : u.pairs = s.pairs := by
      rw [after.pairs, (t.unitWork_abortSegment x .condition).frame]; exact before.pairs
    have idle : s.testConditions p r = u := by
      rw [State.testConditions_eq, ← hu]
      refine State.foldl_pairMeets_idle r fun q z e => unnamed q z ?_
      rwa [State.pairAt, records] at e
    have hold : (s.unit x).holdPosition = a.target.getD (s.unit x).position := by
      rw [MotionUnit.holdPosition, act]; rfl
    rw [idle, unit, hold]
    exact MotionUnit.endAction_endedBy _ _ _ _
  · have reported : g.reports .condition = true := notify
    have later : (t.endQueue x .condition .flushed).LinksGrow (s.testConditions p r) := by
      refine State.LinksGrow.trans (.of_links ?_) (after.work.links.trans pairs.links)
      rw [State.abortSegment_of_cons single]; rfl
    exact before.work.links.sendsEnd_after ((t.unitWork_endQueue x _ _).links.sendsEnd_before later
      (State.sendsEnd_endQueue_active single reported))

/-! ## A touch sample (R7) -/

/-- The record a touch sample writes. -/
def State.touchRecord (s : State) (p : Port) (rxLow : Bool) : SampleRec :=
  ⟨0, [if rxLow then 1 else 0], [if rxLow then 1 else 0], some (nextSeq ((s.port p).sample.bind SampleRec.seq)),
    s.deviceTime, false⟩

/-- The state in which a touch sample is offered to the motion units. -/
def State.touchOffered (s : State) (p : Port) (rxLow : Bool) : State :=
  (s.setPort p { s.port p with sample := some (s.touchRecord p rxLow) }).offerUpdates
    [(s.touchRecord p rxLow).update p]

theorem State.touchSample_eq (s : State) (p : Port) (rxLow : Bool) : s.touchSample p rxLow
    = (s.touchOffered p rxLow).testConditions p (s.touchRecord p rxLow) := by
  have record : ((s.applySample p 0 [if rxLow then 1 else 0] [if rxLow then 1 else 0]).port p).sample
      = some (s.touchRecord p rxLow) := by
    rw [State.applySample, State.modPort_port_same]
    rfl
  unfold State.touchSample State.offerSample
  simp only [record]
  rfl

theorem State.touchOffered_frame (s : State) (p : Port) (rxLow : Bool) : s.touchOffered p rxLow = { s with
    ports := s.ports.set p { s.port p with sample := some (s.touchRecord p rxLow) }
    streams := (s.touchOffered p rxLow).streams, links := (s.touchOffered p rxLow).links } := by
  conv_lhs => rw [State.touchOffered, State.offerUpdates_frame]
  rw [State.touchOffered, State.offerUpdates_frame]
  rfl

theorem State.touchOffered_links (s : State) (p : Port) (rxLow : Bool) : s.LinksGrow (s.touchOffered p rxLow) :=
  (State.LinksGrow.of_links rfl).trans
    ((s.setPort p { s.port p with sample := some (s.touchRecord p rxLow) }).linksGrow_offerUpdates _)

theorem State.touchSample_frame (s : State) (p : Port) (rxLow : Bool) : s.touchSample p rxLow = { s with
    ports := s.ports.set p { s.port p with sample := some (s.touchRecord p rxLow) }
    motion := (s.touchSample p rxLow).motion, pairs := (s.touchSample p rxLow).pairs
    streams := (s.touchSample p rxLow).streams, links := (s.touchSample p rxLow).links } := by
  have work := (s.touchOffered p rxLow).motionWork_testConditions p (s.touchRecord p rxLow)
  rw [← State.touchSample_eq] at work
  have streams : (s.touchSample p rxLow).streams = (s.touchOffered p rxLow).streams := by rw [work.frame]
  rw [streams]
  conv_lhs => rw [work.frame, s.touchOffered_frame p rxLow]

theorem State.touchSample_links (s : State) (p : Port) (rxLow : Bool) : s.LinksGrow (s.touchSample p rxLow) := by
  rw [State.touchSample_eq]
  exact (s.touchOffered_links p rxLow).trans (State.motionWork_testConditions _ _ _).links

theorem State.touchSample_port (s : State) (p : Port) (rxLow : Bool) :
    (s.touchSample p rxLow).port p = { s.port p with sample := some (s.touchRecord p rxLow) } := by
  rw [s.touchSample_frame]; exact Six.get_set_same _ _ _

theorem State.touchSample_port_ne (s : State) {p q : Port} (rxLow : Bool) (h : q ≠ p) :
    (s.touchSample p rxLow).port q = s.port q := by
  rw [s.touchSample_frame]; exact Six.get_set_ne _ _ h

theorem State.touchOffered_unit (s : State) (p : Port) (rxLow : Bool) (x : Port) :
    (s.touchOffered p rxLow).unit x = s.unit x := by
  rw [s.touchOffered_frame]; rfl

theorem State.touchOffered_pairAt (s : State) (p : Port) (rxLow : Bool) (q : PairId) :
    (s.touchOffered p rxLow).pairAt q = s.pairAt q := by
  rw [s.touchOffered_frame]; rfl

/-! ## Attachment (R5, R6) -/

theorem passiveKind_eq (level : Level) : passiveKind level = if level = 2 then .plainMotor else if level = 3 then .light
    else if level = 4 then .touch else .unknown := by
  revert level
  decide

theorem passiveKind_touch (level : Level) : (passiveKind level == .touch) = decide (level = 4) := by
  revert level
  decide

/-- The port record of a passive device (R5, R7). -/
def PortUnit.passive (u : PortUnit) (level : Level) : PortUnit :=
  { u with
    state := .passive, kind := passiveKind level, desc := if level = 4 then some touchDescriptor else none
    mode := if level = 4 then some 0 else none }

/-- The port record of a device that begins its handshake (R6). -/
def PortUnit.serial (u : PortUnit) : PortUnit :=
  ({ u with kind := .serial, typeId := none, desc := none, mode := none, sample := none }).describe

theorem State.attachSerial_eq (s : State) (p : Port) : s.attachSerial p = s.reseat p (s.port p).serial := rfl

theorem State.attachPassive_eq (s : State) (p : Port) {level : Level} (rxLow : Bool) (other : level ≠ 4) :
    s.attachPassive p level rxLow = (s.reseat p ((s.port p).passive level)).notifyAll
      ((s.reseat p ((s.port p).passive level)).portEvent p .attached none) := by
  unfold State.attachPassive PortUnit.passive
  simp only [passiveKind_touch, decide_eq_false other, Bool.false_eq_true, if_false, if_neg other]
  rfl

theorem State.attachPassive_touch (s : State) (p : Port) (rxLow : Bool) :
    s.attachPassive p 4 rxLow = ((s.reseat p ((s.port p).passive 4)).touchSample p rxLow).notifyAll
      (((s.reseat p ((s.port p).passive 4)).touchSample p rxLow).portEvent p .attached (some 0)) := by
  unfold State.attachPassive
  simp only [passiveKind_touch, decide_true, if_true]
  rfl

theorem State.notifyAll_port (s : State) (n : Notice) (q : Port) : (s.notifyAll n).port q = s.port q := rfl

theorem State.notifyAll_told (s : State) (n : Notice) {l : LinkId} (a : (s.link l).state = .active) :
    32 ≤ ((s.notifyAll n).link l).notices.length ∨ ((s.notifyAll n).link l).notices.getLast? = some n :=
  (s.notifyAll_arrives n a).elim .inr fun h => .inl h.2

/-- An attach at a new level of 1 to 7 (R3). -/
theorem State.classify_attaches {s : State} {p : Port} {level : Level} (rxLow : Bool)
    (state : (s.port p).state = .probing ∨ (s.port p).state = .empty) (present : level ≠ 0) :
    s.classify p level rxLow = (s.setPort p { s.port p with level := some level }).attachAt p level rxLow := by
  unfold State.classify
  obtain h | h := state <;> rw [h] <;> exact if_neg present

/-- Settles O16: an attach by its level (1, 4 or another), and the touch sample that meets a condition. -/
theorem probeAttaches : Obligations.ProbeAttaches := by
  refine ⟨fun p level rxLow s power state present new reading run => ?_,
    fun p x rxLow s r m g a c v n power kind level record hv hn hm queue act cond source mode index fresh met => ?_⟩
  · obtain ⟨s₀, hs₀⟩ : ∃ s₀, s₀ = s.setPort p { s.port p with run := 3, level := some level } := ⟨_, rfl⟩
    have port : s₀.port p = { s.port p with run := 3, level := some level } := by
      rw [hs₀]; exact State.setPort_port_same _ _ _
    have ports : ∀ q, q ≠ p → s₀.port q = s.port q := fun q h => by rw [hs₀]; exact State.setPort_port_ne _ _ _ h
    have frame : s₀ = { s with ports := s₀.ports } := by rw [hs₀]; rfl
    have step : s.probeStep p level rxLow = s₀.attachAt p level rxLow := by
      rw [State.probeStep_classifies rxLow power reading run new, State.classify_attaches rxLow (by simpa using state) present]
      simp [hs₀]
    have unit : (s₀.unit p).attach = { s.unit p with
        motor := .coasting, queue := [], hold := none, act := none
        reg := ⟨0, 0, 0, false, ⟨(s.unit p).position, (s.unit p).position, (s.unit p).position, (s.unit p).position⟩, 4, 0,
          none⟩
        settings := ⟨200, 40, 0, 64, 2000, 2000, 1000, 400, 0⟩ } := by rw [frame]; rfl
    by_cases serial : level = 1
    · have same : s₀.attachAt p level rxLow = s₀.reseat p (s₀.port p).serial := by
        rw [State.attachAt, if_pos serial, State.attachSerial_eq]
      have own := s₀.reseat_port p (s₀.port p).serial
      have motion := s₀.reseat_unit p (s₀.port p).serial
      rw [port] at own
      rw [unit] at motion
      rw [same] at step
      refine ⟨_, congrArg Host.Outcome.next step, ?_, fun _ => ?_, fun k => absurd serial k,
        fun k => absurd (serial.symm.trans k) (by decide), fun _ => motion, fun _ => ?_, fun q k => ?_, ?_⟩
      · rw [port, own]; rfl
      · rw [port, own, s₀.reseat_frame, frame]; exact ⟨rfl, rfl, rfl, rfl, rfl, rfl, rfl, rfl, rfl⟩
      · rw [s₀.reseat_frame, frame]
        exact ⟨rfl, fun q k => Six.get_set_ne _ _ k⟩
      · rw [State.reseat_port_ne _ _ k, ports q k]
      · rw [s₀.reseat_frame, frame]; exact ⟨rfl, rfl, rfl, rfl, rfl, rfl⟩
    have link : ∀ l, s₀.link l = s.link l := fun l => by rw [frame]; rfl
    by_cases touch : level = 4
    · subst touch
      obtain ⟨R, hR⟩ : ∃ R, R = s₀.reseat p ((s₀.port p).passive 4) := ⟨_, rfl⟩
      obtain ⟨Y, hY⟩ : ∃ Y, Y = R.touchSample p rxLow := ⟨_, rfl⟩
      have same : s₀.attachAt p 4 rxLow = Y.notifyAll (Y.portEvent p .attached (some 0)) := by
        rw [State.attachAt, if_neg serial, State.attachPassive_touch, hY, hR]
      have seated : R.port p = (s₀.port p).passive 4 := by rw [hR, State.reseat_port]
      have sampled : Y.port p = { (s₀.port p).passive 4 with sample := some (R.touchRecord p rxLow) } := by
        rw [← seated, ← R.touchSample_port p rxLow, hY]
      have own : (Y.notifyAll (Y.portEvent p .attached (some 0))).port p
          = { (s₀.port p).passive 4 with sample := some (R.touchRecord p rxLow) } := sampled
      have grows : s₀.LinksGrow Y := by
        rw [hY, hR]; exact (s₀.reseat_links p _).trans (State.touchSample_links _ p rxLow)
      have time : R.deviceTime = s.deviceTime := by rw [hR, s₀.reseat_frame, frame]; rfl
      rw [same] at step
      refine ⟨_, congrArg Host.Outcome.next step, ?_, fun k => absurd k serial, fun _ => ⟨?_, ?_, fun l a => ?_⟩,
        fun _ => ⟨?_, ?_, fun none => ?_⟩, fun k => absurd rfl k, fun k => absurd rfl k, fun q k => ?_, ?_⟩
      · rw [own, port]; rfl
      · rw [own]; rfl
      · rw [own]; rfl
      · have notice : Y.portEvent p .attached (some 0) = .portEvent ⟨.attached, p, .touch, (s.port p).typeId, some 0, .none,
            false, 0⟩ := by rw [State.portEvent, sampled, port]; rfl
        have kind : ((Y.notifyAll (Y.portEvent p .attached (some 0))).port p).kind = .touch := by rw [own]; rfl
        rw [kind, if_pos rfl, ← notice]
        exact Y.notifyAll_told _ ((grows l).state.trans ((congrArg Link.state (link l)).trans a))
      · rw [own]; rfl
      · rw [own]; rfl
      · rw [own, State.touchRecord, time, seated, port]
        simp [PortUnit.passive, none, nextSeq]
      · rw [State.notifyAll_port, hY, State.touchSample_port_ne _ _ k, hR, State.reseat_port_ne _ _ k, ports q k]
      · have kept : Y = { s with
            ports := Y.ports, motion := Y.motion, pairs := Y.pairs, streams := Y.streams, links := Y.links } := by
          rw [hY, R.touchSample_frame, hR, s₀.reseat_frame, frame]
        rw [kept]
        exact ⟨rfl, rfl, rfl, rfl, rfl, rfl⟩
    · obtain ⟨R, hR⟩ : ∃ R, R = s₀.reseat p ((s₀.port p).passive level) := ⟨_, rfl⟩
      have same : s₀.attachAt p level rxLow = R.notifyAll (R.portEvent p .attached none) := by
        rw [State.attachAt, if_neg serial, State.attachPassive_eq _ _ _ touch, hR]
      have seated : R.port p = (s₀.port p).passive level := by rw [hR, State.reseat_port]
      have own : (R.notifyAll (R.portEvent p .attached none)).port p = (s₀.port p).passive level := seated
      have kept : R = { s with
          ports := R.ports, motion := s.motion.set p (s₀.unit p).attach } := by
        rw [hR, s₀.reseat_frame, frame]
      have motion : R.unit p = (s₀.unit p).attach := by rw [hR, State.reseat_unit]
      rw [same] at step
      refine ⟨_, congrArg Host.Outcome.next step, ?_, fun k => absurd k serial, fun _ => ⟨?_, ?_, fun l a => ?_⟩,
        fun k => absurd k touch, fun _ => ?_, fun _ => ⟨?_, fun q k => ?_⟩, fun q k => ?_, ?_⟩
      · rw [own, port]; rfl
      · rw [own]; rfl
      · rw [own]; exact passiveKind_eq level
      · have notice : R.portEvent p .attached none = .portEvent ⟨.attached, p, passiveKind level, (s.port p).typeId, none,
            .none, false, 0⟩ := by rw [State.portEvent, seated, port]; rfl
        have kind : ((R.notifyAll (R.portEvent p .attached none)).port p).kind = passiveKind level := by rw [own]; rfl
        have active : (R.link l).state = .active := by rw [hR]; exact (congrArg Link.state (link l)).trans a
        rw [kind, if_neg touch, ← notice]
        exact R.notifyAll_told _ active
      · exact motion.trans unit
      · rw [State.notifyAll_pairs, kept]
      · exact (congrArg (Six.get · q) (congrArg State.motion kept)).trans (Six.get_set_ne _ _ k)
      · rw [State.notifyAll_port, hR, State.reseat_port_ne _ _ k, ports q k]
      · rw [kept]; exact ⟨rfl, rfl, rfl, rfl, rfl, rfl⟩
  · obtain ⟨s₀, hs₀⟩ : ∃ s₀, s₀ = s.setPort p ((s.port p).reading 4) := ⟨_, rfl⟩
    have port : s₀.port p = (s.port p).reading 4 := by rw [hs₀]; exact State.setPort_port_same _ _ _
    have frame : s₀ = { s with ports := s₀.ports } := by rw [hs₀]; rfl
    have unit : s₀.unit x = s.unit x := by rw [frame]; rfl
    have records : ∀ q, s₀.pairAt q = s.pairAt q := fun q => by rw [frame]; rfl
    have same : ((s.port p).reading 4).classifies = false := by simp [PortUnit.classifies, PortUnit.reading, level]
    have step : s.probeStep p 4 rxLow = s₀.touchSample p rxLow := by
      rw [State.probeStep_same rxLow power same, if_pos kind, hs₀]
    obtain ⟨T, hT⟩ : ∃ T, T = s₀.touchOffered p rxLow := ⟨_, rfl⟩
    have written : s₀.touchRecord p rxLow = ⟨0, [v], [v], some n, s.deviceTime, false⟩ := by
      have sample : (s₀.port p).sample = some r := by rw [port]; exact record
      have time : s₀.deviceTime = s.deviceTime := by rw [frame]; rfl
      rw [State.touchRecord, sample, time, hv, hn]
      cases e : r.seq <;> simp [nextSeq, e]
    have meets : g.metBy a.baseline p (s₀.touchRecord p rxLow) = true := by
      have reached : c.met v = true := by
        unfold StopCond.met
        cases e : c.relation <;> rw [e] at met <;> exact decide_eq_true met
      rw [written]
      exact Segment.metBy_of_met cond source mode fresh (by rw [index]; exact reached)
    have ends := (s₀.touchOffered p rxLow).testConditions_meets (p := p) (x := x) (g := g) (a := a)
      (by rw [State.touchOffered_unit, unit, ← hm, queue]) (by rw [State.touchOffered_unit, unit, ← hm, act]) meets
    rw [← State.touchSample_eq, State.touchOffered_unit, unit, ← hm] at ends
    obtain ⟨emptied, idle, position, ended, told⟩ := ends
    have grows : s.LinksGrow (s₀.touchOffered p rxLow) :=
      (State.LinksGrow.of_links (by rw [frame])).trans (s₀.touchOffered_links p rxLow)
    refine ⟨_, congrArg Host.Outcome.next step, ?_, emptied, idle, position, fun unnamed => ended fun q z e => unnamed q z ?_,
      fun notify => grows.sendsEnd_after (told notify), fun q k => ?_, ?_⟩
    · rw [State.touchSample_port, written]
    · rwa [State.touchOffered_pairAt, records] at e
    · rw [State.touchSample_port_ne _ _ k, hs₀, State.setPort_port_ne _ _ _ k]
    · rw [s₀.touchSample_frame, frame]; exact ⟨rfl, rfl, rfl, rfl, rfl, rfl⟩

end Sys2Proof.Machine
end

section
/-! The passing of a millisecond (O2) and the scaling of samples (R33): O20. -/

namespace Sys2Proof.Machine

/-! ## A step without a command (R31) -/

theorem State.tick_deviceTime (s : State) : s.tick.deviceTime = s.deviceTime + 1 :=
  BitVec.ofNat_add s.now 1

theorem State.tick_port (s : State) (p : Port) : s.tick.port p = (s.port p).tick := Six.get_map _ _ _

theorem State.tick_link (s : State) (l : LinkId) :
    s.tick.link l = { s.link l with ageTimer := countDown (s.link l).ageTimer } := Two.get_map _ _ _

theorem State.tick_store (s : State) : s.tick.store = { s.store with
    eraseRun := s.store.eraseRun + (if s.store.activity = .erasing ∧ s.store.suspending = false then 1 else 0) } := by
  simp only [State.tick]
  split <;> rfl

theorem step_of_idle {s : State} (h : s.pending = []) : step s = .next s.tick := by
  unfold step
  rw [h]

/-- Settles O2: the step is `State.tick`, read block by block. -/
theorem idleStepPassesMillisecond : Obligations.IdleStepPassesMillisecond :=
  fun s h => ⟨s.tick, step_of_idle h, s.tick_deviceTime, s.tick_port, s.tick_link, rfl, s.tick_store, rfl⟩

/-! ## Nearest division -/

section
variable {d : Int} (positive : 0 < d) {n k : Int}
include positive

/-- A truncated quotient of `2 * n + d` by `2 * d` is within half a unit of `n / d`. -/
theorem half_up_near (n : Int) :
    -d ≤ 2 * ((2 * n + d) / (2 * d) * d - n) ∧ 2 * ((2 * n + d) / (2 * d) * d - n) ≤ d := by
  have low := Int.mul_ediv_self_le (x := 2 * n + d) (k := 2 * d) (by omega)
  have high := Int.lt_mul_ediv_self_add (x := 2 * n + d) (k := 2 * d) (by omega)
  constructor <;> linarith

/-- The nearest quotient is at most half a unit away. -/
theorem nearestDiv_near (n : Int) : -d ≤ 2 * (nearestDiv n d * d - n) ∧ 2 * (nearestDiv n d * d - n) ≤ d := by
  unfold nearestDiv
  split
  · exact half_up_near positive n
  · obtain ⟨low, high⟩ := half_up_near positive (-n)
    constructor <;> linarith

theorem nearestDiv_le (h : n ≤ k * d) : nearestDiv n d ≤ k := by
  have near := (nearestDiv_near positive n).2
  by_contra above
  have : (k + 1) * d ≤ nearestDiv n d * d := Int.mul_le_mul_of_nonneg_right (by omega) positive.le
  linarith

theorem le_nearestDiv (h : k * d ≤ n) : k ≤ nearestDiv n d := by
  have near := (nearestDiv_near positive n).1
  by_contra below
  have : nearestDiv n d * d ≤ (k - 1) * d := Int.mul_le_mul_of_nonneg_right (by omega) positive.le
  linarith

/-- A whole quotient is its own nearest integer. -/
theorem nearestDiv_mul (k : Int) : nearestDiv (k * d) d = k :=
  (nearestDiv_le positive le_rfl).antisymm (le_nearestDiv positive le_rfl)

end

/-! ## Scaling (R33) -/

section
variable {m : ModeDesc} (range : m.rawLow < m.rawHigh) {r : Int}
include range

/-- Within the raw range, the clamp leaves the value. -/
theorem scale_of_mem (low : m.rawLow ≤ r) (high : r ≤ m.rawHigh) : scale m r
    = m.outLow + nearestDiv ((r - m.rawLow) * (m.outHigh - m.outLow)) (m.rawHigh - m.rawLow) := by
  have inside : clamp m.rawLow m.rawHigh r = r := by rw [clamp_eq_max_min range.le]; omega
  simp only [scale, inside]

/-- A value is scaled as the value of the range next to it. -/
theorem scale_clamp (r : Int) : scale m r = scale m (max m.rawLow (min m.rawHigh r)) := by
  have idem : clamp m.rawLow m.rawHigh (max m.rawLow (min m.rawHigh r)) = clamp m.rawLow m.rawHigh r := by
    simp only [clamp_eq_max_min range.le]; omega
  simp only [scale, idem]

theorem scale_rawLow : scale m m.rawLow = m.outLow := by
  have zero := nearestDiv_mul (d := m.rawHigh - m.rawLow) (by omega) 0
  rw [scale_of_mem range le_rfl range.le]
  simpa using zero

theorem scale_rawHigh : scale m m.rawHigh = m.outHigh := by
  have whole := nearestDiv_mul (d := m.rawHigh - m.rawLow) (by omega) (m.outHigh - m.outLow)
  rw [scale_of_mem range range.le le_rfl, Int.mul_comm, whole]
  omega

/-- Within the raw range, the scaled value is at most half a unit off the line. -/
theorem scale_near (low : m.rawLow ≤ r) (high : r ≤ m.rawHigh) :
    mag (2 * ((scale m r - m.outLow) * (m.rawHigh - m.rawLow) - (r - m.rawLow) * (m.outHigh - m.outLow)))
      ≤ m.rawHigh - m.rawLow := by
  have near := nearestDiv_near (d := m.rawHigh - m.rawLow) (by omega) ((r - m.rawLow) * (m.outHigh - m.outLow))
  have line : scale m r - m.outLow
      = nearestDiv ((r - m.rawLow) * (m.outHigh - m.outLow)) (m.rawHigh - m.rawLow) := by
    rw [scale_of_mem range low high]; omega
  rw [line, mag, Int.natCast_natAbs]
  exact abs_le.mpr near

/-- Within the raw range, the scaled value lies between the output bounds, whichever way they are ordered. -/
theorem scale_between (low : m.rawLow ≤ r) (high : r ≤ m.rawHigh) :
    min m.outLow m.outHigh ≤ scale m r ∧ scale m r ≤ max m.outLow m.outHigh := by
  have positive : 0 < m.rawHigh - m.rawLow := by omega
  have start : 0 ≤ r - m.rawLow := by omega
  have rest : r - m.rawLow ≤ m.rawHigh - m.rawLow := by omega
  rw [scale_of_mem range low high]
  obtain up | down := le_total m.outLow m.outHigh
  · have least := le_nearestDiv positive (k := 0) (n := (r - m.rawLow) * (m.outHigh - m.outLow)) (by nlinarith)
    have most := nearestDiv_le positive (k := m.outHigh - m.outLow) (n := (r - m.rawLow) * (m.outHigh - m.outLow))
      (by nlinarith)
    omega
  · have most := nearestDiv_le positive (k := 0) (n := (r - m.rawLow) * (m.outHigh - m.outLow)) (by nlinarith)
    have least := le_nearestDiv positive (k := m.outHigh - m.outLow) (n := (r - m.rawLow) * (m.outHigh - m.outLow))
      (by nlinarith)
    omega

end

/-- Settles O20: the clamp brings every value to one of the range, and there the nearest division decides. -/
theorem scaleMapsLinearly : Obligations.ScaleMapsLinearly := by
  intro m r range
  obtain ⟨least, most⟩ := scale_between range (r := max m.rawLow (min m.rawHigh r)) (by omega) (by omega)
  rw [← scale_clamp range] at least most
  refine ⟨fun below => ?_, fun above => ?_, least, most, scale_near range⟩
  · have low : max m.rawLow (min m.rawHigh r) = m.rawLow := by omega
    rw [scale_clamp range, low, scale_rawLow range]
  · have high : max m.rawLow (min m.rawHigh r) = m.rawHigh := by omega
    rw [scale_clamp range, high, scale_rawHigh range]

end Sys2Proof.Machine
end

section
/-! Messages of an ACTIVE port and its losses (R19, R20, R28 to R30): O21 and O23. -/

namespace Sys2Proof.Machine

/-! ## Log records (R41) -/

/-- The port record with a message logged. -/
def PortUnit.logged (u : PortUnit) (o : MsgOutcome) (bs : List Byte) (now : Nat) : PortUnit :=
  { u with log := appendLog u.log ⟨o, messageClass bs, bs.head?.map leadLength, BitVec.ofNat 16 now⟩ }

/-- Logging a message writes its record, and puts at most a RAW notice into a link's queue (R41, R42). -/
theorem State.linkWork_logAndTap (s : State) (p : Port) (o : MsgOutcome) (bs : List Byte) :
    (s.setPort p ((s.port p).logged o bs s.now)).LinkWork (s.logAndTap p o bs) := by
  unfold State.logAndTap
  extract_lets u t
  split
  · split
    · exact t.linkWork_notify _ rfl
    · exact .refl t
  · exact .refl t

/-- With no tap set, logging a message writes its record alone. -/
theorem State.logAndTap_untapped {s : State} {p : Port} (untapped : (s.port p).tapTarget = none) (o : MsgOutcome)
    (bs : List Byte) : s.logAndTap p o bs = s.setPort p ((s.port p).logged o bs s.now) := by
  unfold State.logAndTap
  extract_lets u t
  split
  · rename_i tapped _
    exact absurd (untapped.symm.trans tapped) nofun
  · rfl

/-! ## How a message ends (R19) -/

theorem partialMessage_eq (bs : List Byte) : partialMessage bs = shortMessage bs := rfl

section
variable {s : State} {p : Port} {bs : List Byte}

theorem State.messageEnds_active (state : (s.port p).state = .active) (o : MsgOutcome) :
    s.messageEnds p o bs = (s.logAndTap p o bs).actActive p o bs := by
  unfold State.messageEnds
  simp only [state]

theorem PortUnit.receives_active {u : PortUnit} (state : u.state = .active) (runs : u.discarding = false) :
    u.receives = true := by
  simp [PortUnit.receives, state, runs]

/-- A whole message ends at its check byte. -/
theorem State.messageStep_whole (state : (s.port p).state = .active) (runs : (s.port p).discarding = false)
    (whole : wholeMessage bs = true) : s.messageStep p bs false
      = (s.logAndTap p ((s.port p).expect.outcome bs) bs).actActive p ((s.port p).expect.outcome bs) bs := by
  have length : messageLength bs = some bs.length := by simpa [wholeMessage] using whole
  unfold State.messageStep
  rw [if_pos (PortUnit.receives_active state runs)]
  simp only [Bool.false_eq_true, if_false, length, if_true]
  exact State.messageEnds_active state _

/-- A framing error ends a part of a message, and the characters after it are discarded. -/
theorem State.messageStep_framing (state : (s.port p).state = .active) (runs : (s.port p).discarding = false)
    (short : shortMessage bs = true) : s.messageStep p bs true
      = ((s.setPort p { s.port p with discarding := true }).logAndTap p .framingError bs).actActive p .framingError bs := by
  have active : ((s.setPort p { s.port p with discarding := true }).port p).state = .active := by
    rw [State.setPort_port_same]; exact state
  unfold State.messageStep
  rw [if_pos (PortUnit.receives_active state runs), if_pos rfl, if_pos ((partialMessage_eq bs).trans short)]
  exact State.messageEnds_active active _

/-- A gap ends a part of a message. -/
theorem State.gapStep_truncated (state : (s.port p).state = .active) (runs : (s.port p).discarding = false)
    (begun : bs ≠ []) (short : shortMessage bs = true) :
    s.gapStep p bs = (s.logAndTap p .truncated bs).actActive p .truncated bs := by
  unfold State.gapStep
  rw [if_pos ⟨PortUnit.receives_active state runs, begun, (partialMessage_eq bs).trans short⟩]
  exact State.messageEnds_active state _

end

/-! ## The loss bookkeeping (R20, R29) -/

theorem PortUnit.bookkeep_ok (u : PortUnit) : u.bookkeep .ok = { u with silence := some 250, errorRun := 0 } := rfl

/-- A bad message is one more of the run, but for MODE_MISMATCH. -/
theorem PortUnit.bookkeep_bad (u : PortUnit) {o : MsgOutcome} (bad : o ≠ .ok) : u.bookkeep o = { u with
    errorRun := if o = .modeMismatch then u.errorRun else u.errorRun + 1
    silence := if o = .modeMismatch ∧ u.pendingMode ≠ none then some 250 else u.silence } := by
  cases o with
  | ok => exact absurd rfl bad
  | modeMismatch =>
    simp only [PortUnit.bookkeep, Option.isSome_iff_ne_none, if_true, true_and]
    split <;> rfl
  | _ => simp [PortUnit.bookkeep]

theorem PortUnit.bookkeep_counted (u : PortUnit) {o : MsgOutcome} (bad : o ≠ .ok) (counted : o ≠ .modeMismatch) :
    u.bookkeep o = { u with errorRun := u.errorRun + 1 } := by
  simp [PortUnit.bookkeep_bad u bad, counted]

section
variable {s : State} {p : Port} {o : MsgOutcome}

/-- A bad message below the fourth in a row is counted, and nothing else. -/
theorem State.actActive_bad (bad : o ≠ .ok) (few : ((s.port p).bookkeep o).errorRun < 4) (bs : List Byte) :
    s.actActive p o bs = s.setPort p ((s.port p).bookkeep o) := by
  unfold State.actActive
  simp only [State.modPort_port_same, if_neg (Nat.not_le.mpr few)]
  split
  · exact absurd rfl bad
  · exact absurd rfl bad
  · rfl

/-- The fourth bad message in a row is an error loss. -/
theorem State.actActive_fourth (many : 4 ≤ ((s.port p).bookkeep o).errorRun) (bs : List Byte) :
    s.actActive p o bs = (s.setPort p ((s.port p).bookkeep o)).errorLoss p := by
  unfold State.actActive
  simp only [State.modPort_port_same, if_pos many]
  rfl

end

/-- A bad message on an untapped port, below the fourth in a row: the log record and the count. -/
theorem State.logged_bad {s : State} {p : Port} {o : MsgOutcome} (untapped : (s.port p).tapTarget = none) (bad : o ≠ .ok)
    (few : ((s.port p).bookkeep o).errorRun < 4) (bs : List Byte) :
    (s.logAndTap p o bs).actActive p o bs = s.setPort p (((s.port p).logged o bs s.now).bookkeep o) := by
  have kept : (((s.port p).logged o bs s.now).bookkeep o).errorRun = ((s.port p).bookkeep o).errorRun := by
    rw [PortUnit.bookkeep_bad _ bad, PortUnit.bookkeep_bad _ bad]; rfl
  rw [State.logAndTap_untapped untapped, State.actActive_bad bad] <;> rw [State.setPort_port_same]
  · rw [State.setPort_setPort]
  · rw [kept]; exact few

/-- Settles O21: each end of a message, and the one bookkeeping of them all. -/
theorem badMessagesCount : Obligations.BadMessagesCount := by
  refine ⟨fun p bs s o u hu state runs untapped whole ho bad counted mismatch => ?_,
    fun p bs s u hu state runs untapped short few => ⟨?_, fun begun => ?_⟩, fun p s => rfl⟩
  · subst hu
    have count : ((s.port p).bookkeep o).errorRun < 4 := by
      rw [PortUnit.bookkeep_bad _ bad]
      by_cases h : o = .modeMismatch
      · simpa [h] using mismatch h
      · simpa [h] using Nat.succ_lt_succ (counted h)
    have step := State.messageStep_whole state runs whole
    rw [← ho, State.logged_bad untapped bad count, PortUnit.bookkeep_bad _ bad] at step
    exact congrArg Host.Outcome.next step
  · subst hu
    obtain ⟨t, ht⟩ : ∃ t, t = s.setPort p { s.port p with discarding := true } := ⟨_, rfl⟩
    have own : t.port p = { s.port p with discarding := true } := by rw [ht]; exact State.setPort_port_same _ _ _
    have step := State.messageStep_framing state runs short
    rw [← ht, State.logged_bad (by rw [own]; exact untapped) (by decide)
      (by rw [own, PortUnit.bookkeep_counted _ (by decide) (by decide)]; exact Nat.succ_lt_succ few), own,
      PortUnit.bookkeep_counted _ (by decide) (by decide), ht, State.setPort_setPort] at step
    exact congrArg Host.Outcome.next step
  · subst hu
    have step := State.gapStep_truncated state runs begun short
    rw [State.logged_bad untapped (by decide)
      (by rw [PortUnit.bookkeep_counted _ (by decide) (by decide)]; exact Nat.succ_lt_succ few),
      PortUnit.bookkeep_counted _ (by decide) (by decide)] at step
    exact congrArg Host.Outcome.next step

/-! ## Answers beside a port record (R30, R36, R38) -/

/-- Every entry of a list of waiting requests is answered with one status. -/
def State.answerList {β : Type} (s : State) (xs : List β) (dest : β → ReplyTo) (st : Status) : State :=
  xs.foldl (fun t x => t.answer (dest x) st []) s

section
variable {β : Type} (s : State) (xs : List β) (dest : β → ReplyTo) (st : Status)

theorem State.linkWork_answerList : s.LinkWork (s.answerList xs dest st) := s.linkWork_answers xs dest st

theorem State.answer_setPort (p : Port) (u : PortUnit) (r : ReplyTo) (payload : List Byte) :
    (s.setPort p u).answer r st payload = (s.answer r st payload).setPort p u := by
  unfold State.answer
  split <;> rename_i h
  · rw [if_pos (show (s.link r.link).activation = r.activation from h)]; rfl
  · rw [if_neg (show (s.link r.link).activation ≠ r.activation from h)]

theorem State.answerList_setPort (p : Port) (u : PortUnit) :
    (s.setPort p u).answerList xs dest st = (s.answerList xs dest st).setPort p u := by
  induction xs generalizing s with
  | nil => rfl
  | cons x rest ih =>
    unfold State.answerList at ih ⊢
    rw [List.foldl_cons, s.answer_setPort, ih, List.foldl_cons]

/-- Answers send no notice and set no flag. -/
theorem State.answerList_notices (l : LinkId) : ((s.answerList xs dest st).link l).notices = (s.link l).notices
    ∧ ((s.answerList xs dest st).link l).sticky = (s.link l).sticky := by
  refine foldl_induct (R := fun s t : State => (t.link l).notices = (s.link l).notices
    ∧ (t.link l).sticky = (s.link l).sticky) (fun _ => ⟨rfl, rfl⟩) (fun a b => ⟨b.1.trans a.1, b.2.trans a.2⟩) xs
    (fun t x _ => ?_) s
  unfold State.answer
  split
  · rw [State.modLink_link]
    split
    · rename_i h; subst h; exact ⟨rfl, rfl⟩
    · exact ⟨rfl, rfl⟩
  · exact ⟨rfl, rfl⟩

end

/-- The waiting SET_MODEs are answered, and leave the port record. -/
theorem State.answerModes_eq (s : State) (p : Port) (st : Status) : s.answerModes p st
    = (s.answerList (s.port p).waiting ModeWait.dest st).setPort p { s.port p with waiting := [] } := by
  have same := (s.linkWork_answerList (s.port p).waiting ModeWait.dest st).port p
  change (s.answerList (s.port p).waiting ModeWait.dest st).modPort p _ = _
  rw [State.modPort_eq_setPort, same]

/-- The queued PORT_WRITEs are answered, and leave the port record. -/
theorem State.answerWrites_eq (s : State) (p : Port) (st : Status) : s.answerWrites p st
    = (s.answerList (s.port p).writes WriteReq.dest st).setPort p { s.port p with writes := [], writeTimer := none } := by
  have same := (s.linkWork_answerList (s.port p).writes WriteReq.dest st).port p
  change (s.answerList (s.port p).writes WriteReq.dest st).modPort p _ = _
  rw [State.modPort_eq_setPort, same]

/-! ## A loss (R28 to R30) -/

/-- The port record after a loss: its work gone, its sample STALE, and the handshake at attempt 0. -/
def PortUnit.lost (u : PortUnit) : PortUnit :=
  { u with
    state := .describing, rate := 0, hs := some ⟨0, some 1500, false, none, [], none⟩, sent := u.sent ++ [.rate 0]
    sample := u.sample.map fun r => { r with stale := true }
    silence := none, keepAlive := none, errorRun := 0
    pendingMode := none, restore := false, modeTimer := none, waiting := [], writes := [], writeTimer := none }

/-- A loss answers the waiting SET_MODEs and then the writes, and starts the port's handshake anew. -/
theorem State.lossOf_eq (s : State) (p : Port) : s.lossOf p
    = ((s.answerList (s.port p).waiting ModeWait.dest .modeFailed).answerList (s.port p).writes WriteReq.dest
        .noResponse).setPort p (s.port p).lost := by
  unfold State.lossOf
  simp only [State.answerModes_eq, State.answerWrites_eq, State.modPort_eq_setPort, State.answerList_setPort,
    State.setPort_setPort, State.setPort_port_same]
  rfl

/-- What every loss of a port does: the port and the links alone change, the work that waited is answered, and no notice is
sent. -/
structure State.Loses (p : Port) (s t : State) : Prop where
  frame : t = { s with ports := s.ports.set p (s.port p).lost, links := t.links }
  notices : ∀ l, (t.link l).notices = (s.link l).notices ∧ (t.link l).sticky = (s.link l).sticky
  modes : ∀ w ∈ (s.port p).waiting, w.dest.activation = (s.link w.dest.link).activation →
    ⟨w.dest.tag, w.dest.code, .modeFailed, []⟩ ∈ (t.link w.dest.link).replies
  writes : ∀ w ∈ (s.port p).writes, w.dest.activation = (s.link w.dest.link).activation →
    ⟨w.dest.tag, w.dest.code, .noResponse, []⟩ ∈ (t.link w.dest.link).replies

theorem State.lossOf_loses (s : State) (p : Port) : s.Loses p (s.lossOf p) := by
  obtain ⟨t, ht⟩ : ∃ t, t = s.answerList (s.port p).waiting ModeWait.dest .modeFailed := ⟨_, rfl⟩
  obtain ⟨u, hu⟩ : ∃ u, u = t.answerList (s.port p).writes WriteReq.dest .noResponse := ⟨_, rfl⟩
  have first : s.LinkWork t := ht ▸ s.linkWork_answerList _ _ _
  have second : t.LinkWork u := hu ▸ t.linkWork_answerList _ _ _
  rw [State.lossOf_eq, ← ht, ← hu]
  refine ⟨?_, fun l => ?_, fun w mem a => ?_, fun w mem a => ?_⟩
  · conv_lhs => rw [(first.trans second).frame]
    rfl
  · obtain ⟨notices, sticky⟩ := s.answerList_notices (s.port p).waiting ModeWait.dest .modeFailed l
    obtain ⟨notices', sticky'⟩ := t.answerList_notices (s.port p).writes WriteReq.dest .noResponse l
    rw [← ht] at notices sticky
    rw [← hu] at notices' sticky'
    exact ⟨notices'.trans notices, sticky'.trans sticky⟩
  · have answered := State.answers_reply (dest := ModeWait.dest) mem a .modeFailed
    exact (second.links _).replies _ (ht ▸ answered)
  · have answered := State.answers_reply (dest := WriteReq.dest) (s := t) mem
      (a.trans (first.links _).activation.symm) .noResponse
    exact hu ▸ answered

theorem State.setPort_self (s : State) (p : Port) : s.setPort p (s.port p) = s := by
  simp [State.setPort, State.port]

/-- The step of command `i` is a loss of port `p`, taken on a state `t` in which at most the end of a message was written to
the port's record, as `v`, and offered to the tap (R20, R29). -/
structure State.LossStep (p : Port) (i : Instr) (bs : List Byte) (s t : State) (v : PortUnit) : Prop where
  step : exec i s = .next (t.lossOf p)
  work : (s.setPort p v).LinkWork t
  quiet : i = .silenceLoss p ∨ (s.port p).tapTarget = none → t.links = s.links
  record : v = { s.port p with log := v.log, errorRun := v.errorRun, rateCap := v.rateCap, discarding := v.discarding }
  cap : v.rateCap = if i = .silenceLoss p then (s.port p).rateCap
    else max 1 (min (s.port p).rateCap ((s.port p).agreed.getD (s.port p).rateCap) - 1)
  discarding : i ≠ .silenceLoss p → v.discarding = decide (i = .messageOutcome p bs true)

section
variable {s : State} {p : Port} {bs : List Byte}

/-- The silence timer's expiry is a loss and no more (R28). -/
theorem State.silence_lossStep (state : (s.port p).state = .active) (runs : (s.port p).silence.isSome = true) :
    s.LossStep p (.silenceLoss p) bs s (s.port p) := by
  obtain ⟨n, hn⟩ := Option.isSome_iff_exists.mp runs
  refine ⟨?_, ?_, fun _ => rfl, rfl, (if_pos rfl).symm, fun k => absurd rfl k⟩
  · simp only [exec, execSilenceLoss, state, hn]
  · rw [State.setPort_self]; exact .refl s

/-- The port record at the fourth bad message in a row, as the loss finds it (R29). -/
def PortUnit.fourthBad (u : PortUnit) (o : MsgOutcome) (bs : List Byte) (now : Nat) (discarding : Bool) : PortUnit :=
  { u.logged o bs now with errorRun := u.errorRun + 1, rateCap := u.loweredCap, discarding := discarding }

/-- The fourth bad message in a row, however it ended, is a loss (R29). -/
theorem State.fourthBad_lossStep {i : Instr} {o : MsgOutcome} {discarding : Bool} {begun : State}
    (step : exec i s = .next ((begun.logAndTap p o bs).actActive p o bs))
    (begins : begun = s.setPort p { s.port p with discarding := discarding })
    (starts : discarding = decide (i = .messageOutcome p bs true)) (message : i ≠ .silenceLoss p)
    (third : (s.port p).errorRun = 3) (bad : o ≠ .ok) (counted : o ≠ .modeMismatch) :
    ∃ t, s.LossStep p i bs t ((s.port p).fourthBad o bs s.now discarding) := by
  obtain ⟨d, hd⟩ : ∃ d, d = { s.port p with discarding := discarding } := ⟨_, rfl⟩
  obtain ⟨L, hL⟩ : ∃ L, L = (s.setPort p d).logAndTap p o bs := ⟨_, rfl⟩
  have logs : (s.setPort p (d.logged o bs s.now)).LinkWork L := by
    have work := (s.setPort p d).linkWork_logAndTap p o bs
    rwa [State.setPort_port_same, State.setPort_setPort, ← hL] at work
  have own : L.port p = d.logged o bs s.now := by rw [logs.port, State.setPort_port_same]
  have counts : (L.port p).bookkeep o = { L.port p with errorRun := (L.port p).errorRun + 1 } :=
    PortUnit.bookkeep_counted _ bad counted
  have many : 4 ≤ ((L.port p).bookkeep o).errorRun := by
    rw [counts, own, hd]
    exact Nat.succ_le_succ third.ge
  have record : ((L.port p).bookkeep o).loweredCap = (s.port p).loweredCap := by rw [counts, own, hd]; rfl
  have loss : (L.actActive p o bs) = (L.setPort p ((s.port p).fourthBad o bs s.now discarding)).lossOf p := by
    rw [State.actActive_fourth many, State.errorLoss, State.modPort_eq_setPort, State.setPort_port_same,
      State.setPort_setPort, record, counts, own, hd]
    rfl
  rw [begins, ← hd, ← hL, loss] at step
  refine ⟨_, step, ?_, fun untapped => ?_, rfl, (if_neg message).symm, fun _ => starts⟩
  · have work := logs.modPort p fun _ => (s.port p).fourthBad o bs s.now discarding
    rwa [State.modPort_eq_setPort, State.modPort_eq_setPort, State.setPort_setPort] at work
  · have tap : ((s.setPort p d).port p).tapTarget = none := by
      rw [State.setPort_port_same, hd]; exact untapped.resolve_left message
    rw [hL, State.logAndTap_untapped tap]
    rfl

/-- A port that discards nothing is as it was when its discarding is cleared. -/
theorem State.setPort_discarding_false (runs : (s.port p).discarding = false) :
    s.setPort p { s.port p with discarding := false } = s := by
  have same : { s.port p with discarding := false } = s.port p := by rw [← runs]
  rw [same, State.setPort_self]

end

/-- Settles O23: each of the four commands is a loss of the port, on a state that at most the log and the tap changed. -/
theorem lossRestartsHandshake : Obligations.LossRestartsHandshake := by
  intro p i s u bs hu state causes
  subst hu
  obtain ⟨t, v, loss⟩ : ∃ t v, s.LossStep p i bs t v := by
    obtain ⟨rfl, silence⟩ | ⟨rfl, begun, short, third, runs⟩ | ⟨rfl, short, third, runs⟩
      | ⟨rfl, whole, third, runs, bad, counted⟩ := causes
    · exact ⟨s, _, State.silence_lossStep state silence⟩
    · have step : exec (.gapTimeout p bs) s = .next _ :=
        congrArg Host.Outcome.next (State.gapStep_truncated state runs begun short)
      obtain ⟨t, h⟩ := State.fourthBad_lossStep step (State.setPort_discarding_false runs).symm (by simp) nofun third
        (by decide) (by decide)
      exact ⟨t, _, h⟩
    · have step : exec (.messageOutcome p bs true) s = .next _ :=
        congrArg Host.Outcome.next (State.messageStep_framing state runs short)
      obtain ⟨t, h⟩ := State.fourthBad_lossStep step rfl (by simp) nofun third (by decide) (by decide)
      exact ⟨t, _, h⟩
    · have step : exec (.messageOutcome p bs false) s = .next _ :=
        congrArg Host.Outcome.next (State.messageStep_whole state runs whole)
      obtain ⟨t, h⟩ := State.fourthBad_lossStep step (State.setPort_discarding_false runs).symm (by simp) nofun third bad
        counted
      exact ⟨t, _, h⟩
  obtain ⟨step, work, quiet, record, cap, discarding⟩ := loss
  have loses := t.lossOf_loses p
  obtain ⟨T, hT⟩ : ∃ T, T = t.lossOf p := ⟨_, rfl⟩
  rw [← hT] at step loses
  obtain ⟨frame, notices, modes, writes⟩ := loses
  have found : t.port p = v := by rw [work.port, State.setPort_port_same]
  have blocks : T = { s with ports := s.ports.set p v.lost, links := T.links } := by
    conv_lhs => rw [frame, found, work.frame]
    simp
  have own : T.port p = v.lost := by rw [blocks]; exact Six.get_set_same _ _ _
  have stays : ∀ l, (s.link l).activation = (t.link l).activation := fun l => (work.links l).activation.symm
  rw [found] at modes writes
  obtain ⟨log, run, rateCap, ends, rfl⟩ : ∃ log run rateCap ends, v = { s.port p with
      log := log, errorRun := run, rateCap := rateCap, discarding := ends } := ⟨_, _, _, _, record⟩
  refine ⟨T, step, ?_⟩
  simp only [own]
  refine ⟨rfl, rfl, rfl, rfl, rfl, rfl, rfl, rfl, rfl, rfl, rfl, rfl, rfl, rfl, rfl, rfl, cap, discarding, fun q k => ?_,
    by rw [blocks], by rw [blocks], by rw [blocks], by rw [blocks], by rw [blocks], by rw [blocks], by rw [blocks],
    by rw [blocks], by rw [blocks], fun q l => ?_, fun w mem a => modes w mem (a.trans (stays _)),
    fun w mem a => writes w mem (a.trans (stays _))⟩
  · rw [blocks]; exact Six.get_set_ne _ _ k
  · have same : t.link l = s.link l := congrArg (Two.get · l) (quiet q)
    rw [← same]
    exact notices l

end Sys2Proof.Machine
end

section
/-! SET_MODE and PORT_WRITE of the link that holds the port (R36, R39): O26. -/

namespace Sys2Proof.Machine

/-! ## The claim step for the holder (R45) -/

/-- A claiming request of the link that holds the port goes on to the request's own part. -/
theorem State.claiming_held {s : State} {r : ReplyTo} {ps : List Byte} {p : Port} (port : portAt ps 0 = some p)
    (device : (s.port p).noDevice = false) (single : s.pairOf p = none) (held : (s.claim p).holder = some r.link)
    (body : State → Port → Option Settlement → State) : s.claiming r ps body = body s p none := by
  have claim : s.claimPort r.link p r.code = .ok (s, none) := by
    simp [State.claimPort, State.claimRule, device, single, held]
  unfold State.claiming
  simp only [port, claim]

/-- A claiming request of a length that is allowed reaches its own part where its link holds the port. -/
theorem State.serve_held {s : State} {l : LinkId} {tag : Byte} {code : Nat} {ps : List Byte} {p : Port}
    (asked : s.asked l tag code ps) (allowed : lengthAllowed code ps = some true) (port : portAt ps 0 = some p)
    (device : (s.port p).noDevice = false) (single : s.pairOf p = none) (held : (s.claim p).holder = some l)
    (body : ReplyTo → State → Port → Option Settlement → State) :
    s.serve l tag code ps (fun r t => t.claiming r ps (body r))
      = body ⟨l, (s.link l).activation, tag, BitVec.ofNat 8 code⟩ (s.accepted l tag code) p none := by
  rw [State.serve_asked asked allowed]
  exact State.claiming_held (s := s.accepted l tag code) (r := ⟨l, _, tag, _⟩) port device single held _

theorem PortUnit.noDevice_active {u : PortUnit} (h : u.state = .active) : u.noDevice = false := by
  simp [PortUnit.noDevice, h]

/-! ## SET_MODE (R36) -/

section
variable {s : State} {p : Port} {mode : Nat}

/-- A described serial device serves the modes it describes. -/
theorem PortUnit.modeCheck_serial {u : PortUnit} (kind : u.kind = .serial) (known : (u.modeDesc mode).isSome = true) :
    u.modeCheck mode = .ok () := by
  have described : u.described = true := by
    unfold PortUnit.modeDesc at known
    unfold PortUnit.described
    cases h : u.desc with
    | none => rw [h] at known; cases known
    | some d => rfl
  simp [PortUnit.modeCheck, kind, described, known]

/-- The mode in use is confirmed at once. -/
theorem State.takeMode_current (kind : (s.port p).kind = .serial) (state : (s.port p).state = .active)
    (none : (s.port p).pendingMode = none) (current : (s.port p).mode = some mode) (r : ReplyTo) :
    s.takeMode p r mode = s.answer r .ok [] := by
  simp [State.takeMode, kind, state, none, current]

/-- With no mode pending and none waiting, another mode becomes pending, is sent, and has 1000 ms. -/
theorem State.takeMode_new (kind : (s.port p).kind = .serial) (state : (s.port p).state = .active)
    (none : (s.port p).pendingMode = none) (idle : (s.port p).waiting = []) (other : (s.port p).mode ≠ some mode)
    (r : ReplyTo) : s.takeMode p r mode = s.setPort p { s.port p with
      pendingMode := some mode, restore := false, modeTimer := some 1000
      waiting := [⟨r, mode⟩], sent := (s.port p).sent ++ [.mode mode] } := by
  have pending : s.takeMode p r mode = s.newPendingMode p r mode := by simp [State.takeMode, kind, none, other]
  rw [pending, State.newPendingMode, State.answerModes_eq, idle]
  simp [State.modPort_eq_setPort, State.answerList, PortUnit.sendMode, state]

end

/-! ## PORT_WRITE (R39) -/

/-- A write that joins the queue is sent at once, with 200 ms, where it is the head. -/
theorem PortUnit.queueWrite_eq (u : PortUnit) (w : WriteReq) : u.queueWrite w = { u with
    writes := u.writes ++ [w], writeTimer := if u.writes = [] then some 200 else u.writeTimer
    sent := u.sent ++ (if u.writes = [] then [.write w.data] else []) } := by
  unfold PortUnit.queueWrite
  by_cases h : u.writes = []
  · simp [h, PortUnit.sendWrite]
  · simp [h]

/-- A write of 1 to 31 bytes to a described serial device joins a queue of fewer than four. -/
theorem State.portWriteBody_queues {s : State} {p : Port} {ps : List Byte} (kind : (s.port p).kind = .serial)
    (state : (s.port p).state = .active) (desc : (s.port p).desc.isSome = true) (some : 1 ≤ byteAt ps 1)
    (few : byteAt ps 1 ≤ 31) (room : (s.port p).writes.length < 4) (r : ReplyTo) :
    s.portWriteBody r p none ps = s.setPort p ((s.port p).queueWrite ⟨r, ps.drop 2⟩) := by
  have described : (s.port p).described = true := desc
  have served : ¬ ((s.port p).kind ≠ .serial ∨ (s.port p).described = false) := by simp [kind, described]
  have sized : ¬ (byteAt ps 1 = 0 ∨ 31 < byteAt ps 1) := by omega
  have runs : (s.port p).state ≠ .describing := by simp [state]
  unfold State.portWriteBody
  simp only [if_neg served, if_neg sized, if_neg (Nat.not_le.mpr room), if_neg runs]
  rfl

/-- Settles O26: the claim step lets the holder through, and each request's own part has one lemma for each of its cases. -/
theorem setModeAndPortWrite : Obligations.SetModeAndPortWrite := by
  refine ⟨fun l tag mode p s u asked hu state kind known single held none idle => ?_,
    fun l tag n data p s u ps hps asked hu state kind desc single held length some few room => ?_⟩
  · subst hu
    have own : (s.accepted l tag 0x12).port p = s.port p := rfl
    have served := State.serve_held asked rfl (portAt_num p _) (PortUnit.noDevice_active state) single held
      fun r t q e => t.setModeBody r q e [BitVec.ofNat 8 p.num, mode]
    have body : (s.accepted l tag 0x12).setModeBody ⟨l, (s.link l).activation, tag, 0x12⟩ p .none
        [BitVec.ofNat 8 p.num, mode] = (s.accepted l tag 0x12).takeMode p ⟨l, (s.link l).activation, tag, 0x12⟩
          mode.toNat := by
      unfold State.setModeBody
      rw [own, show byteAt [BitVec.ofNat 8 p.num, mode] 1 = mode.toNat from rfl, PortUnit.modeCheck_serial kind known]
      rfl
    refine congrArg Host.Outcome.next ((served.trans body).trans ?_)
    split
    · rename_i current
      exact (State.takeMode_current (s := s.accepted l tag 0x12) kind state none current _).trans
        (s.accepted_answer l tag 0x12 .ok [])
    · rename_i other
      exact State.takeMode_new (s := s.accepted l tag 0x12) kind state none idle other _
  · subst hu hps
    have allowed : lengthAllowed 0x13 (BitVec.ofNat 8 p.num :: n :: data) = .some true := by
      simp [lengthAllowed, byteAt, length]; omega
    have served := State.serve_held asked allowed (portAt_num p _) (PortUnit.noDevice_active state) single held
      fun r t q e => t.portWriteBody r q e (BitVec.ofNat 8 p.num :: n :: data)
    have queues := State.portWriteBody_queues (s := s.accepted l tag 0x13) (ps := BitVec.ofNat 8 p.num :: n :: data)
      kind state desc some few room ⟨l, (s.link l).activation, tag, 0x13⟩
    rw [PortUnit.queueWrite_eq] at queues
    exact congrArg Host.Outcome.next (served.trans queues)

end Sys2Proof.Machine
end

section
/-! Changes of the mode in use (R37, R38, R69, R135), and the timers of the serial protocol (R27, R38, R40): O25. -/

namespace Sys2Proof.Machine

/-! ## A source is lost, seen from one unit (R69) -/

/-- A unit that no pair names and that still has a segment after a source is lost was not touched. -/
theorem State.sourceLost_kept {s : State} {p x : Port} {mode : Option Nat} {g : Segment} {rest : List Segment}
    (h : ((s.sourceLost p mode).unit x).queue = g :: rest) (alone : s.pairOf x = none) :
    (s.sourceLost p mode).unit x = s.unit x := by
  obtain ⟨t, u, before, after, pairs⟩ := s.sourceLost_units p mode x
  have idle : t.unitLoses p mode x = t := by
    rw [pairs.queue, after.unit] at h
    cases k : (t.unit x).queue with
    | nil => exact State.unitLoses_of_nil k p mode
    | cons k' rest' =>
      rw [State.unitLoses_of_cons k] at h ⊢
      split
      · rename_i named
        rw [if_pos named, State.abortSegment_queue] at h
        cases h
      · rfl
  rw [idle] at after
  have records : u.pairs = s.pairs := after.pairs.trans before.pairs
  have single := State.pairOf_eq_none_iff.mp ((State.pairOf_congr records x).trans alone)
  rw [pairs.others x single, after.unit, before.unit]

/-! ## The mode in use changes (R37, R135) -/

/-- MODE_CHANGED is sent and the port's streams follow, before any segment ends. -/
def State.modeTold (s : State) (p : Port) (new : Nat) : State :=
  (s.notifyAll (s.portEvent p .modeChanged (some new))).streamModeChange p new

section
variable (s : State) (p : Port) (new : Nat)

theorem State.modeChanged_some (old : Nat) :
    s.modeChanged p (some old) new = (s.modeTold p new).sourceLost p (some old) := rfl

theorem State.modeTold_links : s.LinksGrow (s.modeTold p new) :=
  (s.linksGrow_notifyAll (n := s.portEvent p .modeChanged (some new)) rfl).trans (.of_links rfl)

/-- What follows a change of the mode in use changes motion, streams and links alone. -/
theorem State.modeChanged_frame (old : Option Nat) : s.modeChanged p old new = { s with
    motion := (s.modeChanged p old new).motion, pairs := (s.modeChanged p old new).pairs
    streams := s.streams.map (StreamEntry.modeChange p new), links := (s.modeChanged p old new).links } := by
  cases old with
  | none => rfl
  | some m =>
    have work := (s.modeTold p new).motionWork_sourceLost p (some m)
    rw [State.modeChanged_some]
    conv_lhs => rw [work.frame]
    rfl

theorem State.modeChanged_links (old : Option Nat) : s.LinksGrow (s.modeChanged p old new) := by
  have told := s.modeTold_links p new
  cases old with
  | none => exact told
  | some m => exact told.trans ((s.modeTold p new).motionWork_sourceLost p (some m)).links

theorem State.modeChanged_sends (old : Option Nat) (l : LinkId) :
    s.sends (s.modeChanged p old new) l (s.portEvent p .modeChanged (some new)) := by
  have sent : s.sends (s.modeTold p new) l (s.portEvent p .modeChanged (some new)) := s.sends_notifyAll l _
  cases old with
  | none => exact sent
  | some m =>
    exact (s.modeTold_links p new).sends_before ((s.modeTold p new).motionWork_sourceLost p (some m)).links rfl sent

variable {s p new}

/-- An active segment whose condition named the port in the old mode ends SOURCE_LOST (R69). -/
theorem State.modeChanged_named {old : Nat} {x : Port} {g : Segment} {rest : List Segment} {c : StopCond}
    (h : (s.unit x).queue = g :: rest) (cond : g.cond = some c) (source : c.source = p) (mode : c.mode = old) :
    ((s.modeChanged p (some old) new).unit x).queue = []
      ∧ s.sendsEnd (s.modeChanged p (some old) new) x none g .sourceLost
      ∧ (∀ k ∈ rest, s.sendsEnd (s.modeChanged p (some old) new) x none k .flushed)
      ∧ (s.pairOf x = none →
        ((s.modeChanged p (some old) new).unit x).endedBy g.endAction (s.unit x).holdPosition) := by
  have named : g.names p (some old) = true := by simp [Segment.names, cond, source, mode]
  obtain ⟨empty, lost, flushed, ended⟩ := State.sourceLost_named (s := s.modeTold p new) h named
  have told := s.modeTold_links p new
  exact ⟨empty, told.sendsEnd_after lost, fun k mem => told.sendsEnd_after (flushed k mem),
    fun alone => ended (State.pairOf_eq_none_iff.mp alone)⟩

/-- A unit that no pair names and that still has a segment was not touched by the change. -/
theorem State.modeChanged_kept {old : Nat} {x : Port} {g : Segment} {rest : List Segment}
    (h : ((s.modeChanged p (some old) new).unit x).queue = g :: rest) (alone : s.pairOf x = none) :
    (s.modeChanged p (some old) new).unit x = s.unit x :=
  State.sourceLost_kept (s := s.modeTold p new) h alone

end

/-! ## The timers (R27, R38, R40) -/

/-- The keep-alive of an ACTIVE port: KEEP, and MODE while a mode is pending (R27). -/
theorem PortUnit.keepAliveEvent_active {u : PortUnit} (state : u.state = .active) (runs : u.keepAlive.isSome = true) :
    u.keepAliveEvent = { u with
      keepAlive := some 100
      sent := u.sent ++ [.keep] ++ (match u.pendingMode with
        | some m => [.mode m]
        | none => []) } := by
  obtain ⟨n, hn⟩ := Option.isSome_iff_exists.mp runs
  cases pending : u.pendingMode <;> simp [PortUnit.keepAliveEvent, PortUnit.sendMode, state, hn, pending]

/-- The mode timer's expiry while a SET_MODE waits: the pending mode is removed, and every waiting request fails (R38). -/
theorem State.modeTimerStep_fails {s : State} {p : Port} {m : Nat} (runs : (s.port p).modeTimer.isSome = true)
    (pending : (s.port p).pendingMode = some m) (asked : (s.port p).restore = false) : s.modeTimerStep p
      = (s.answerList (s.port p).waiting ModeWait.dest .modeFailed).setPort p { s.port p with
          pendingMode := none, modeTimer := none, waiting := [] } := by
  obtain ⟨n, hn⟩ := Option.isSome_iff_exists.mp runs
  have drops : s.modeTimerStep p = (s.setPort p (s.port p).dropMode).answerModes p .modeFailed := by
    unfold State.modeTimerStep
    simp only [hn, pending, asked]
    rfl
  have dropped : (s.port p).dropMode = { s.port p with pendingMode := none, modeTimer := none } := by
    rw [PortUnit.dropMode, ← asked]
  rw [drops, dropped, State.answerModes_eq, State.setPort_port_same, State.answerList_setPort, State.setPort_setPort]

/-- The mode timer's expiry during a mode restore: mode 0 comes into use (R38). -/
theorem State.modeTimerStep_restores {s : State} {p : Port} {m : Nat} (runs : (s.port p).modeTimer.isSome = true)
    (pending : (s.port p).pendingMode = some m) (restore : (s.port p).restore = true) : s.modeTimerStep p
      = (s.setPort p { (s.port p).dropMode with mode := some 0 }).modeChanged p (s.port p).mode 0 := by
  obtain ⟨n, hn⟩ := Option.isSome_iff_exists.mp runs
  unfold State.modeTimerStep
  simp only [hn, pending, restore, if_true]
  rfl

/-- The next write is sent with 200 ms, or the write timer stops (R39, R40). -/
theorem PortUnit.sendWrite_eq (u : PortUnit) : u.sendWrite = { u with
    writeTimer := if u.writes = [] then none else some 200
    sent := u.sent ++ (u.writes.head?.map fun w => HubMsg.write w.data).toList } := by
  cases h : u.writes <;> simp [PortUnit.sendWrite, h]

/-- The write awaiting acknowledgement ends, and the next one is sent (R40). -/
theorem State.endWrite_of_cons {s : State} {p : Port} {w : WriteReq} {rest : List WriteReq}
    (h : (s.port p).writes = w :: rest) (st : Status) : s.endWrite p st = (s.answer w.dest st []).setPort p { s.port p with
      writes := rest, writeTimer := if rest = [] then none else some 200
      sent := (s.port p).sent ++ (rest.head?.map fun x => HubMsg.write x.data).toList } := by
  have same : (s.answer w.dest st []).port p = s.port p := (s.linkWork_answer w.dest st []).port p
  unfold State.endWrite
  simp only [h, State.modPort_eq_setPort, same, PortUnit.sendWrite_eq]

/-- Settles O25: one lemma for each timer and each of its cases, and the change of the mode in use for a failed restore. -/
theorem serialTimersExpire : Obligations.SerialTimersExpire := by
  refine ⟨fun p s state runs => ?_, fun p s m runs pending asked => ?_,
    fun p s u m old hu runs pending restore mode => ?_, fun p s w rest runs queue => ?_⟩
  · exact congrArg (fun u => Host.Outcome.next (s.setPort p u)) (PortUnit.keepAliveEvent_active state runs)
  · exact congrArg Host.Outcome.next (State.modeTimerStep_fails runs pending asked)
  · subst hu
    obtain ⟨v, hv⟩ : ∃ v, v = { (s.port p).dropMode with mode := some 0 } := ⟨_, rfl⟩
    obtain ⟨s₀, hs₀⟩ : ∃ s₀, s₀ = s.setPort p v := ⟨_, rfl⟩
    have step : s.modeTimerStep p = s₀.modeChanged p (some old) 0 := by
      rw [State.modeTimerStep_restores runs pending restore, mode, hs₀, hv]
    have own : s₀.port p = v := by rw [hs₀]; exact State.setPort_port_same _ _ _
    have frame : s₀ = { s with ports := s₀.ports } := by rw [hs₀]; rfl
    have unit : ∀ x, s₀.unit x = s.unit x := fun x => by rw [frame]; rfl
    have pairs : ∀ x, s₀.pairOf x = s.pairOf x := fun x => State.pairOf_congr (by rw [frame]) x
    have links : s.LinksGrow s₀ := .of_links (by rw [frame])
    have changed := s₀.modeChanged_frame p 0 (some old)
    have notice : s₀.portEvent p .modeChanged (some 0) = .portEvent ⟨.modeChanged, p, (s.port p).kind, (s.port p).typeId,
        some 0, .none, false, 0⟩ := by rw [State.portEvent, own, hv]; rfl
    have ports : ∀ q, (s₀.modeChanged p (some old) 0).port q = s₀.port q := fun q => by rw [changed]; rfl
    refine ⟨_, congrArg Host.Outcome.next step, ?_, fun l => ?_, ?_, fun x g rest c queue cond source at_ => ?_,
      fun x g rest queue => ?_, fun q k => ?_, ?_⟩
    · rw [ports, own, hv]; rfl
    · rw [← notice]
      exact links.sends_after (s₀.modeChanged_sends p 0 (some old) l)
    · rw [changed, frame]; rfl
    · obtain ⟨empty, lost, flushed, ended⟩ := State.modeChanged_named (new := 0) ((unit x).symm ▸ queue) cond source at_
      rw [unit, pairs] at ended
      exact ⟨empty, links.sendsEnd_after lost, fun k mem => links.sendsEnd_after (flushed k mem), ended⟩
    · cases paired : s.pairOf x with
      | none => exact .inl ((State.modeChanged_kept queue ((pairs x).trans paired)).trans (unit x))
      | some q => exact .inr rfl
    · rw [ports, hs₀, State.setPort_port_ne _ _ _ k]
    · rw [changed, frame]; exact ⟨rfl, rfl, rfl, rfl, rfl, rfl⟩
  · obtain ⟨n, hn⟩ := Option.isSome_iff_exists.mp runs
    simp only [exec, execWriteTimerExpiry, hn, State.endWrite_of_cons queue]

end Sys2Proof.Machine
end

section
/-! An OK DATA of an ACTIVE port: its sample record, and the mode it confirms (R20, R32, R37, R135): O22. -/

namespace Sys2Proof.Machine

/-! ## The payload of an OK DATA (R19, R32) -/

/-- Values are read from the bytes they take, whatever follows. -/
theorem rawValues_append (width : Nat) {count : Nat} {bs : List Byte} (h : count * width ≤ bs.length) (rest : List Byte) :
    rawValues width count (bs ++ rest) = rawValues width count bs := by
  induction count generalizing bs with
  | zero => rfl
  | succ n ih =>
    rw [Nat.succ_mul] at h
    have first : width ≤ bs.length := by omega
    have others : n * width ≤ (bs.drop width).length := by rw [List.length_drop]; omega
    simp only [rawValues, List.take_append_of_le_length first, List.drop_append_of_le_length first, ih others]

/-- An OK DATA has a mode byte and the values of the expected mode. -/
theorem Expect.outcome_data_length {x : Expect} {bs : List Byte} {m : ModeDesc} (cls : messageClass bs = some .data)
    (desc : x.desc = some m) (ok : x.outcome bs = .ok) : (messagePayload bs).length = 1 + m.sampleSize := by
  unfold Expect.outcome at ok
  simp only [cls, desc] at ok
  by_contra wrong
  split at ok
  · cases ok
  · split at ok
    · cases ok
    · simp only [ne_eq, not_true, if_false, Option.map_some, Option.some.injEq, wrong, not_false_eq_true, if_true] at ok
      split at ok <;> cases ok

/-- The values of an OK DATA, read from the whole message. -/
theorem rawValues_message {bs : List Byte} {m : ModeDesc} (h : (messagePayload bs).length = 1 + m.sampleSize) :
    rawValues m.format m.valueCount ((messagePayload bs).drop 1) = rawValues m.format m.valueCount (bs.drop 2) := by
  unfold messagePayload at h ⊢
  have full : bs.drop 1 ≠ [] := by
    intro e
    rw [e] at h
    simp at h
    omega
  have whole : (bs.drop 1).dropLast ++ [(bs.drop 1).getLast full] = bs.drop 1 := List.dropLast_append_getLast full
  have after : bs.drop 2 = ((bs.drop 1).dropLast).drop 1 ++ [(bs.drop 1).getLast full] := by
    rw [← List.drop_append_of_le_length (by omega), whole, List.drop_drop]
  rw [after, rawValues_append]
  rw [List.length_drop, h, ModeDesc.sampleSize]
  omega

/-! ## A sample update is offered (R32) -/

/-- A unit without a segment has none after a sample update. -/
theorem State.testConditions_empty {s : State} {x : Port} (p : Port) (r : SampleRec) (h : (s.unit x).queue = []) :
    ((s.testConditions p r).unit x).queue = [] := by
  obtain ⟨t, before, after⟩ := State.foldl_units (State.unitWork_unitMeets p r) x s
  have empty : (t.unit x).queue = [] := by rw [before.unit, h]
  have idle : t.unitMeets p r x = t := by unfold State.unitMeets; rw [empty]
  rw [idle] at after
  rw [State.testConditions_eq, (State.pairsWork_foldl (State.pairWork_pairMeets p r) _ _).queue, after.unit, empty]

section
variable {s : State} {p : Port} {r : SampleRec} (record : (s.port p).sample = some r)
include record

theorem State.offerSample_of_record : s.offerSample p = (s.offerUpdates [r.update p]).testConditions p r := by
  unfold State.offerSample
  rw [record]

/-- An offered sample changes motion, the streams' last emissions and links alone. -/
theorem State.offerSample_frame : s.offerSample p = { s with
    motion := (s.offerSample p).motion, pairs := (s.offerSample p).pairs
    streams := s.streams.map fun e => e.sent [r.update p] s.deviceTime, links := (s.offerSample p).links } := by
  have work := (s.offerUpdates [r.update p]).motionWork_testConditions p r
  have offered := s.offerUpdates_frame [r.update p]
  rw [← State.offerSample_of_record record] at work
  obtain ⟨o, ho⟩ : ∃ o, o = s.offerUpdates [r.update p] := ⟨_, rfl⟩
  rw [← ho] at work offered
  conv_lhs => rw [work.frame, offered]

theorem State.offerSample_port (q : Port) : (s.offerSample p).port q = s.port q := by
  rw [State.offerSample_frame record]; rfl

theorem State.offerSample_links : s.LinksGrow (s.offerSample p) := by
  rw [State.offerSample_of_record record]
  exact (s.linksGrow_offerUpdates _).trans (State.motionWork_testConditions _ p r).links

theorem State.offerSample_empty {x : Port} (h : (s.unit x).queue = []) : ((s.offerSample p).unit x).queue = [] := by
  rw [State.offerSample_of_record record]
  refine State.testConditions_empty p r ?_
  rw [State.offerUpdates_frame]
  exact h

end

/-- An entry after an offered sample. -/
theorem State.mem_offerSample_streams {s : State} {p : Port} {r : SampleRec} (record : (s.port p).sample = some r)
    {e : StreamEntry} (mem : e ∈ s.streams) : e.sent [r.update p] s.deviceTime ∈ (s.offerSample p).streams := by
  rw [State.offerSample_frame record]
  exact List.mem_map_of_mem mem

/-! ## Streams at a change of the mode in use (R131, R135) -/

/-- A SUSPENDED entry does not emit. -/
theorem StreamEntry.sent_suspended {e : StreamEntry} (h : e.suspended = true) (us : List Update) (now : BitVec 32) :
    e.sent us now = e := by
  have none : e.emission us now = none := by
    simp [StreamEntry.emission, StreamEntry.follows, h]
  unfold StreamEntry.sent
  rw [none]

/-- An entry in a mode that the port leaves is SUSPENDED. -/
theorem StreamEntry.modeChange_other {e : StreamEntry} {p : Port} {mode : Nat} (kind : e.key.kind = .sensor)
    (port : e.key.port = some p) (other : e.key.mode ≠ mode) : e.modeChange p mode = { e with suspended := true } := by
  simp [StreamEntry.modeChange, kind, port, other]

/-- A SUSPENDED entry in the mode that comes into use resumes, and emits on the port's sample of that mode. -/
theorem StreamEntry.modeChange_emits {e : StreamEntry} {p : Port} {mode : Nat} {r : SampleRec} (kind : e.key.kind = .sensor)
    (port : e.key.port = some p) (same : e.key.mode = mode) (suspended : e.suspended = true) (now : BitVec 32)
    (values : r.valuesMode = mode) : (e.modeChange p mode).sent [r.update p] now
      = { e with suspended := false, lastEmit := some now, lastSent := r.scaled } := by
  have resumed : e.modeChange p mode = { e with suspended := false, lastEmit := none } := by
    simp [StreamEntry.modeChange, kind, port, same, suspended]
  have emits : ({ e with suspended := false, lastEmit := none } : StreamEntry).emission [r.update p] now
      = some (r.update p) := by
    simp [StreamEntry.emission, StreamEntry.follows, StreamEntry.due, SampleRec.update, kind, port, same, values]
  rw [resumed, StreamEntry.sent, emits]
  rfl

/-! ## The record of a DATA (R32, R37) -/

/-- The sample record an OK DATA writes. -/
def State.dataRecord (s : State) (p : Port) (mode : Nat) (raw scaled : List Int) : SampleRec :=
  ⟨mode, raw, scaled, some (nextSeq ((s.port p).sample.bind SampleRec.seq)), s.deviceTime, false⟩

theorem State.dataRecord_congr {s t : State} {p : Port} (sample : (t.port p).sample = (s.port p).sample)
    (now : t.now = s.now) (mode : Nat) (raw scaled : List Int) :
    t.dataRecord p mode raw scaled = s.dataRecord p mode raw scaled := by
  simp only [State.dataRecord, State.deviceTime, sample, now]

section
variable {s : State} {p : Port} {mode : Nat} {m : ModeDesc} {payload : List Byte}

theorem State.applyData_eq (s : State) (p : Port) (mode : Nat) (m : ModeDesc) (payload : List Byte) :
    s.applyData p mode m payload = s.setPort p { s.port p with
      sample := some (s.dataRecord p mode (dataValues m payload).1 (dataValues m payload).2) } := rfl

/-- With no mode pending, a DATA writes the sample record, and the update is offered. -/
theorem State.takeData_plain (none : (s.port p).pendingMode = none) (current : (s.port p).mode = some mode)
    (desc : (s.port p).modeDesc mode = some m) : s.takeData p payload = (s.applyData p mode m payload).offerSample p := by
  simp [State.takeData, none, current, desc]

/-- While a mode is pending, its DATA confirms it. -/
theorem State.takeData_pending (pending : (s.port p).pendingMode = some mode)
    (desc : (s.port p).modeDesc mode = some m) : s.takeData p payload = s.confirmMode p mode m payload := by
  simp [State.takeData, pending, desc]

/-- The port record a confirmed mode leaves (R32, R37). -/
def PortUnit.confirmed (u : PortUnit) (mode : Nat) (r : SampleRec) : PortUnit :=
  { u with
    mode := some mode, pendingMode := none, restore := false, modeTimer := none, waiting := [], sample := some r }

/-- The state in which a confirmed mode is in use and its SET_MODEs are answered OK. -/
def State.modeConfirmed (s : State) (p : Port) (mode : Nat) (r : SampleRec) : State :=
  (s.answerList (s.port p).waiting ModeWait.dest .ok).setPort p ((s.port p).confirmed mode r)

/-- A confirmed mode: the record and the answers, what follows a change of the mode in use, and the offer (R37). -/
theorem State.confirmMode_eq {r : SampleRec}
    (hr : r = s.dataRecord p mode (dataValues m payload).1 (dataValues m payload).2) :
    s.confirmMode p mode m payload = (if (s.port p).mode = some mode then s.modeConfirmed p mode r
      else (s.modeConfirmed p mode r).modeChanged p (s.port p).mode mode).offerSample p := by
  have applied : (s.modPort p fun u => { u.dropMode with mode := some mode }).applyData p mode m payload
      = s.setPort p { (s.port p).dropMode with mode := some mode, sample := some r } := by
    rw [State.applyData_eq, State.modPort_eq_setPort, State.setPort_port_same, State.setPort_setPort, hr]
    simp only [State.dataRecord, State.setPort_port_same]
    rfl
  have answered : (s.setPort p { (s.port p).dropMode with mode := some mode, sample := some r }).answerModes p .ok
      = s.modeConfirmed p mode r := by
    rw [State.answerModes_eq, State.setPort_port_same, State.answerList_setPort, State.setPort_setPort]
    rfl
  unfold State.confirmMode
  simp only [applied, answered]

end

/-- A port record as an OK DATA finds it: the message logged, the silence timer restarted, and the error run at 0. -/
def PortUnit.dataLogged (u : PortUnit) (bs : List Byte) (now : Nat) : PortUnit :=
  { u.logged .ok bs now with silence := some 250, errorRun := 0 }

/-- An OK DATA of an ACTIVE port is taken on a state in which the port's record was written and the tap served (R20). -/
theorem State.messageStep_data {s : State} {p : Port} {bs : List Byte} (state : (s.port p).state = .active)
    (runs : (s.port p).discarding = false) (whole : wholeMessage bs = true) (cls : messageClass bs = some .data)
    (ok : (s.port p).expect.outcome bs = .ok) :
    ∃ t, exec (.messageOutcome p bs false) s = .next (t.takeData p (messagePayload bs))
      ∧ (s.setPort p ((s.port p).dataLogged bs s.now)).LinkWork t := by
  obtain ⟨L, hL⟩ : ∃ L, L = s.logAndTap p .ok bs := ⟨_, rfl⟩
  have logs : (s.setPort p ((s.port p).logged .ok bs s.now)).LinkWork L := hL ▸ s.linkWork_logAndTap p .ok bs
  have own : L.port p = (s.port p).logged .ok bs s.now := by rw [logs.port, State.setPort_port_same]
  have acts : L.actActive p .ok bs
      = (L.modPort p fun u => { u with silence := some 250, errorRun := 0 }).takeData p (messagePayload bs) := by
    unfold State.actActive
    simp only [State.modPort_port_same, PortUnit.bookkeep_ok, cls]
    rfl
  have step := State.messageStep_whole state runs whole
  rw [ok, ← hL, acts] at step
  refine ⟨_, congrArg Host.Outcome.next step, ?_⟩
  have work := logs.modPort p fun u => { u with silence := some 250, errorRun := 0 }
  rwa [State.modPort_eq_setPort, State.setPort_port_same, State.setPort_setPort] at work

theorem PortUnit.dataLogged_eq (u : PortUnit) {bs : List Byte} (cls : messageClass bs = some .data) (now : Nat) :
    u.dataLogged bs now = { u with
      log := appendLog u.log ⟨.ok, some .data, bs.head?.map leadLength, BitVec.ofNat 16 now⟩
      silence := some 250, errorRun := 0 } := by
  rw [← cls]
  rfl

/-- The values of an OK DATA in the expected mode. -/
theorem PortUnit.dataValues_expected {u : PortUnit} {bs : List Byte} {mode : Nat} {m : ModeDesc}
    (expected : u.pendingMode.or u.mode = some mode) (desc : u.modeDesc mode = some m) (cls : messageClass bs = some .data)
    (ok : u.expect.outcome bs = .ok) : dataValues m (messagePayload bs) = (rawValues m.format m.valueCount (bs.drop 2),
      (rawValues m.format m.valueCount (bs.drop 2)).map (scale m)) := by
  have known : u.expect.desc = some m := by simp [PortUnit.expect, expected, desc]
  have raw := rawValues_message (Expect.outcome_data_length cls known ok)
  simp only [dataValues, raw]

/-- An OK DATA with no mode pending: the sample record is written, and the update is offered (R32). -/
theorem State.exec_data_plain {s : State} {p : Port} {bs : List Byte} {mode : Nat} {m : ModeDesc}
    (state : (s.port p).state = .active) (runs : (s.port p).discarding = false) (none : (s.port p).pendingMode = none)
    (current : (s.port p).mode = some mode) (desc : (s.port p).modeDesc mode = some m) (whole : wholeMessage bs = true)
    (cls : messageClass bs = some .data) (ok : (s.port p).expect.outcome bs = .ok) :
    ∃ t, (s.setPort p ((s.port p).dataLogged bs s.now)).LinkWork t
      ∧ exec (.messageOutcome p bs false) s = .next ((t.setPort p { (s.port p).dataLogged bs s.now with
        sample := some (s.dataRecord p mode (rawValues m.format m.valueCount (bs.drop 2))
          ((rawValues m.format m.valueCount (bs.drop 2)).map (scale m))) }).offerSample p) := by
  obtain ⟨t, step, work⟩ := State.messageStep_data state runs whole cls ok
  have own : t.port p = (s.port p).dataLogged bs s.now := by rw [work.port, State.setPort_port_same]
  have now : t.now = s.now := by rw [work.frame]; rfl
  have takes := State.takeData_plain (s := t) (payload := messagePayload bs) (by rw [own]; exact none)
    (by rw [own]; exact current) (by rw [own]; exact desc)
  rw [State.applyData_eq, PortUnit.dataValues_expected (by simp [none, current]) desc cls ok,
    State.dataRecord_congr (s := s) (by rw [own]; rfl) now, own] at takes
  exact ⟨t, work, step.trans (congrArg Host.Outcome.next takes)⟩

/-! ## Blocks that a DATA leaves (R32) -/

/-- Everything but the port's record, motion, streams and links is as it was. -/
structure State.SampleFrame (p : Port) (s t : State) : Prop where
  ports : ∀ q, q ≠ p → t.port q = s.port q
  blocks : t.claims = s.claims ∧ t.supply = s.supply ∧ t.store = s.store ∧ t.sound = s.sound ∧ t.now = s.now
    ∧ t.pending = s.pending

theorem State.SampleFrame.trans {p : Port} {s t u : State} (a : s.SampleFrame p t) (b : t.SampleFrame p u) :
    s.SampleFrame p u := by
  obtain ⟨ports, claims, supply, store, sound, now, pending⟩ := a
  obtain ⟨ports', claims', supply', store', sound', now', pending'⟩ := b
  exact ⟨fun q k => (ports' q k).trans (ports q k), claims'.trans claims, supply'.trans supply, store'.trans store,
    sound'.trans sound, now'.trans now, pending'.trans pending⟩

theorem State.SampleFrame.deviceTime {p : Port} {s t : State} (h : s.SampleFrame p t) : t.deviceTime = s.deviceTime := by
  obtain ⟨-, -, -, -, -, now, -⟩ := h
  rw [State.deviceTime, now, State.deviceTime]

theorem State.sampleFrame_setPort (s : State) (p : Port) (u : PortUnit) : s.SampleFrame p (s.setPort p u) :=
  ⟨fun _ k => State.setPort_port_ne _ _ _ k, rfl, rfl, rfl, rfl, rfl, rfl⟩

theorem State.LinkWork.sampleFrame {s t : State} (h : s.LinkWork t) (p : Port) : s.SampleFrame p t :=
  ⟨fun q _ => h.port q, by rw [h.frame]; exact ⟨rfl, rfl, rfl, rfl, rfl, rfl⟩⟩

theorem State.sampleFrame_offerSample {s : State} {p : Port} {r : SampleRec} (record : (s.port p).sample = some r) :
    s.SampleFrame p (s.offerSample p) := by
  rw [State.offerSample_frame record]
  exact ⟨fun _ _ => rfl, rfl, rfl, rfl, rfl, rfl, rfl⟩

theorem State.sampleFrame_modeChanged (s : State) (p : Port) (old : Option Nat) (new : Nat) :
    s.SampleFrame p (s.modeChanged p old new) := by
  rw [State.modeChanged_frame]
  exact ⟨fun _ _ => rfl, rfl, rfl, rfl, rfl, rfl, rfl⟩

/-! ## A confirmed mode (R37) -/

/-- The state in which the sample of a confirmed mode is offered. -/
def State.modeSettled (s : State) (p : Port) (mode : Nat) (r : SampleRec) : State :=
  if (s.port p).mode = some mode then s.modeConfirmed p mode r
  else (s.modeConfirmed p mode r).modeChanged p (s.port p).mode mode

section
variable {s : State} {p : Port} {mode : Nat} {r : SampleRec}

theorem State.linkWork_modeConfirmed (s : State) (p : Port) (mode : Nat) (r : SampleRec) :
    (s.setPort p ((s.port p).confirmed mode r)).LinkWork (s.modeConfirmed p mode r) :=
  (s.linkWork_answerList (s.port p).waiting ModeWait.dest .ok).modPort p fun _ => (s.port p).confirmed mode r

theorem State.modeConfirmed_links (s : State) (p : Port) (mode : Nat) (r : SampleRec) :
    s.LinksGrow (s.modeConfirmed p mode r) :=
  (State.LinksGrow.of_links rfl).trans (s.linkWork_modeConfirmed p mode r).links

theorem State.modeConfirmed_port (s : State) (p : Port) (mode : Nat) (r : SampleRec) :
    (s.modeConfirmed p mode r).port p = (s.port p).confirmed mode r := State.setPort_port_same _ _ _

theorem State.modeConfirmed_streams (s : State) (p : Port) (mode : Nat) (r : SampleRec) :
    (s.modeConfirmed p mode r).streams = s.streams := by
  rw [(s.linkWork_modeConfirmed p mode r).frame]; rfl

theorem State.modeConfirmed_unit (s : State) (p : Port) (mode : Nat) (r : SampleRec) (x : Port) :
    (s.modeConfirmed p mode r).unit x = s.unit x := by
  rw [(s.linkWork_modeConfirmed p mode r).frame]; rfl

theorem State.modeSettled_same (h : (s.port p).mode = some mode) : s.modeSettled p mode r = s.modeConfirmed p mode r :=
  if_pos h

theorem State.modeSettled_changed {old : Nat} (h : (s.port p).mode = some old) (other : old ≠ mode) :
    s.modeSettled p mode r = (s.modeConfirmed p mode r).modeChanged p (some old) mode := by
  rw [State.modeSettled, if_neg (by rw [h]; simpa using other), h]

theorem State.modeSettled_port (s : State) (p : Port) (mode : Nat) (r : SampleRec) :
    (s.modeSettled p mode r).port p = (s.port p).confirmed mode r := by
  unfold State.modeSettled
  split
  · exact s.modeConfirmed_port p mode r
  · rw [State.modeChanged_frame]; exact s.modeConfirmed_port p mode r

theorem State.modeConfirmed_links_settled (s : State) (p : Port) (mode : Nat) (r : SampleRec) :
    (s.modeConfirmed p mode r).LinksGrow (s.modeSettled p mode r) := by
  unfold State.modeSettled
  split
  · exact .refl _
  · exact State.modeChanged_links _ _ _ _

theorem State.modeSettled_links (s : State) (p : Port) (mode : Nat) (r : SampleRec) :
    s.LinksGrow (s.modeSettled p mode r) :=
  (s.modeConfirmed_links p mode r).trans (s.modeConfirmed_links_settled p mode r)

theorem State.sampleFrame_modeSettled (s : State) (p : Port) (mode : Nat) (r : SampleRec) :
    s.SampleFrame p (s.modeSettled p mode r) := by
  have confirmed : s.SampleFrame p (s.modeConfirmed p mode r) :=
    (s.sampleFrame_setPort p _).trans ((s.linkWork_modeConfirmed p mode r).sampleFrame p)
  unfold State.modeSettled
  split
  · exact confirmed
  · exact confirmed.trans (State.sampleFrame_modeChanged _ _ _ _)

/-- Each waiting SET_MODE is answered OK. -/
theorem State.modeSettled_reply {w : ModeWait} (mem : w ∈ (s.port p).waiting)
    (a : w.dest.activation = (s.link w.dest.link).activation) :
    ⟨w.dest.tag, w.dest.code, .ok, []⟩ ∈ ((s.modeSettled p mode r).link w.dest.link).replies :=
  (s.modeConfirmed_links_settled p mode r _).replies _ (State.answers_reply (dest := ModeWait.dest) mem a .ok)

/-- A mode confirmed where it was in use leaves the streams. -/
theorem State.modeSettled_streams_same (h : (s.port p).mode = some mode) :
    (s.modeSettled p mode r).streams = s.streams := by
  rw [State.modeSettled_same h, State.modeConfirmed_streams]

section
variable {old : Nat} (current : (s.port p).mode = some old) (other : old ≠ mode)
include current other

theorem State.modeSettled_streams_changed :
    (s.modeSettled p mode r).streams = s.streams.map (StreamEntry.modeChange p mode) := by
  rw [State.modeSettled_changed current other, State.modeChanged_frame, ← s.modeConfirmed_streams p mode r]

/-- MODE_CHANGED is sent with the port's kind and type id. -/
theorem State.modeSettled_sends (l : LinkId) : s.sends (s.modeSettled p mode r) l
    (.portEvent ⟨.modeChanged, p, (s.port p).kind, (s.port p).typeId, some mode, .none, false, 0⟩) := by
  have notice : (s.modeConfirmed p mode r).portEvent p .modeChanged (some mode)
      = .portEvent ⟨.modeChanged, p, (s.port p).kind, (s.port p).typeId, some mode, .none, false, 0⟩ := by
    rw [State.portEvent, State.modeConfirmed_port]; rfl
  rw [← notice, State.modeSettled_changed current other]
  exact (s.modeConfirmed_links p mode r).sends_after (State.modeChanged_sends _ p mode (some old) l)

/-- An active segment whose condition named the port in the old mode ends SOURCE_LOST (R69). -/
theorem State.modeSettled_named {x : Port} {g : Segment} {rest : List Segment} {c : StopCond}
    (queue : (s.unit x).queue = g :: rest) (cond : g.cond = some c) (source : c.source = p) (mode' : c.mode = old) :
    ((s.modeSettled p mode r).unit x).queue = [] ∧ s.sendsEnd (s.modeSettled p mode r) x none g .sourceLost
      ∧ ∀ k ∈ rest, s.sendsEnd (s.modeSettled p mode r) x none k .flushed := by
  have links := s.modeConfirmed_links p mode r
  rw [← s.modeConfirmed_unit p mode r x] at queue
  obtain ⟨empty, lost, flushed, -⟩ := State.modeChanged_named (new := mode) queue cond source mode'
  rw [State.modeSettled_changed current other]
  exact ⟨empty, links.sendsEnd_after lost, fun k mem => links.sendsEnd_after (flushed k mem)⟩

end
end

/-- An OK DATA in the pending mode confirms it, and its sample is offered after what follows a change of mode (R37). -/
theorem State.exec_data_pending {s : State} {p : Port} {bs : List Byte} {mode : Nat} {m : ModeDesc}
    (state : (s.port p).state = .active) (runs : (s.port p).discarding = false)
    (pending : (s.port p).pendingMode = some mode) (desc : (s.port p).modeDesc mode = some m)
    (whole : wholeMessage bs = true) (cls : messageClass bs = some .data) (ok : (s.port p).expect.outcome bs = .ok) :
    ∃ t, (s.setPort p ((s.port p).dataLogged bs s.now)).LinkWork t
      ∧ exec (.messageOutcome p bs false) s = .next ((t.modeSettled p mode (s.dataRecord p mode
        (rawValues m.format m.valueCount (bs.drop 2))
        ((rawValues m.format m.valueCount (bs.drop 2)).map (scale m)))).offerSample p) := by
  obtain ⟨t, step, work⟩ := State.messageStep_data state runs whole cls ok
  have own : t.port p = (s.port p).dataLogged bs s.now := by rw [work.port, State.setPort_port_same]
  have now : t.now = s.now := by rw [work.frame]; rfl
  have takes := State.takeData_pending (s := t) (payload := messagePayload bs) (by rw [own]; exact pending)
    (by rw [own]; exact desc)
  rw [State.confirmMode_eq rfl, PortUnit.dataValues_expected (by simp [pending]) desc cls ok,
    State.dataRecord_congr (s := s) (by rw [own]; rfl) now] at takes
  exact ⟨t, work, step.trans (congrArg Host.Outcome.next takes)⟩

/-- Settles O22: the record is written in the one state that every OK DATA reaches; a pending mode is confirmed there, and a
change of the mode in use comes before the offer of the sample. -/
theorem dataUpdatesSample : Obligations.DataUpdatesSample := by
  refine ⟨fun p bs s u mode m hu state runs none current desc whole cls ok => ?_,
    fun p bs s u mode m raw scaled hu state runs pending desc whole cls ok hraw hscaled => ?_⟩
  · subst hu
    obtain ⟨t, work, step⟩ := State.exec_data_plain state runs none current desc whole cls ok
    obtain ⟨r, hr⟩ : ∃ r, r = s.dataRecord p mode (rawValues m.format m.valueCount (bs.drop 2))
      ((rawValues m.format m.valueCount (bs.drop 2)).map (scale m)) := ⟨_, rfl⟩
    obtain ⟨v, hv⟩ : ∃ v, v = { (s.port p).dataLogged bs s.now with sample := some r } := ⟨_, rfl⟩
    rw [← hr, ← hv] at step
    have record : ((t.setPort p v).port p).sample = some r := by rw [State.setPort_port_same, hv]
    obtain ⟨ports, blocks⟩ := (((s.sampleFrame_setPort p _).trans (work.sampleFrame p)).trans
      (t.sampleFrame_setPort p v)).trans (State.sampleFrame_offerSample record)
    refine ⟨_, step, ?_, ports, blocks⟩
    rw [State.offerSample_port record, State.setPort_port_same, hv, hr, PortUnit.dataLogged_eq _ cls]
    rfl
  · subst hu
    obtain ⟨t, work, step⟩ := State.exec_data_pending state runs pending desc whole cls ok
    rw [← hraw, ← hscaled] at step
    obtain ⟨r, hr⟩ : ∃ r, r = s.dataRecord p mode raw scaled := ⟨_, rfl⟩
    obtain ⟨B, hB⟩ : ∃ B, B = t.modeSettled p mode r := ⟨_, rfl⟩
    rw [← hr, ← hB] at step
    have own : t.port p = (s.port p).dataLogged bs s.now := by rw [work.port, State.setPort_port_same]
    have logged : t.streams = s.streams ∧ t.motion = s.motion := by rw [work.frame]; exact ⟨rfl, rfl⟩
    obtain ⟨entries, motion⟩ := logged
    have before : s.LinksGrow t := (State.LinksGrow.of_links rfl).trans work.links
    have settled : B.port p = ((s.port p).dataLogged bs s.now).confirmed mode r := by rw [hB, State.modeSettled_port, own]
    have record : (B.port p).sample = some r := by rw [settled]; rfl
    have changes : t.LinksGrow B := hB ▸ t.modeSettled_links p mode r
    have after : B.LinksGrow (B.offerSample p) := State.offerSample_links record
    have reached : s.SampleFrame p B := ((s.sampleFrame_setPort p _).trans (work.sampleFrame p)).trans
      (hB ▸ t.sampleFrame_modeSettled p mode r)
    obtain ⟨ports, blocks⟩ := reached.trans (State.sampleFrame_offerSample record)
    have known : ∀ {o}, (s.port p).mode = some o → (t.port p).mode = some o := fun k => by rw [own]; exact k
    refine ⟨_, step, ?_, fun w mem a => ?_, fun old current other => ⟨fun l => ?_, fun e mem kind port left => ?_,
      fun e mem kind port enters suspended => ?_, fun x g rest c queue cond source lost => ?_⟩,
      fun current e mem suspended => ?_, ports, blocks⟩
    · rw [State.offerSample_port record, settled, PortUnit.dataLogged_eq _ cls, hr]
      rfl
    · refine (after _).replies _ (hB ▸ State.modeSettled_reply ?_ (a.trans (before _).activation.symm))
      rw [own]; exact mem
    · have sent := State.modeSettled_sends (r := r) (known current) other l
      rw [own, ← hB] at sent
      exact before.sends_after (changes.sends_before after rfl sent)
    · have entry : e.modeChange p mode ∈ B.streams := by
        rw [hB, State.modeSettled_streams_changed (known current) other, entries]; exact List.mem_map_of_mem mem
      rw [StreamEntry.modeChange_other kind port left] at entry
      have kept := State.mem_offerSample_streams record entry
      rwa [StreamEntry.sent_suspended rfl] at kept
    · have entry : e.modeChange p mode ∈ B.streams := by
        rw [hB, State.modeSettled_streams_changed (known current) other, entries]; exact List.mem_map_of_mem mem
      have emitted := State.mem_offerSample_streams record entry
      rwa [StreamEntry.modeChange_emits kind port enters suspended _ (by rw [hr]; rfl), reached.deviceTime, hr] at emitted
    · obtain ⟨empty, named, flushed⟩ := State.modeSettled_named (r := r) (known current) other
        (by rw [State.unit, motion]; exact queue) cond source lost
      rw [← hB] at empty named flushed
      have later := fun {k o} (h : t.sendsEnd B x .none k o) =>
        before.sendsEnd_after (changes.sendsEnd_before after h)
      exact ⟨State.offerSample_empty record empty, later named, fun k mem => later (flushed k mem)⟩
    · have entry : e ∈ B.streams := by rw [hB, State.modeSettled_streams_same (known current), entries]; exact mem
      have kept := State.mem_offerSample_streams record entry
      rwa [StreamEntry.sent_suspended suspended] at kept

end Sys2Proof.Machine
end

section
/-! The claim step of one port, refused or passed (R44, R45, R53): O27 and O36. -/

namespace Sys2Proof.Machine

/-! ## Claim records -/

@[simp] theorem State.setClaim_setClaim (s : State) (p : Port) (c d : Claim) :
    (s.setClaim p c).setClaim p d = s.setClaim p d := by
  simp [State.setClaim]

@[simp] theorem State.setClaim_claim_self (s : State) (p : Port) : s.setClaim p (s.claim p) = s := by
  simp [State.setClaim, State.claim]

/-- A request that answers at once after changes of one port's claim record. -/
theorem State.accepted_setClaim_answer (s : State) (l : LinkId) (tag : Byte) (code : Nat) (p : Port) (c : Claim)
    (st : Status) (payload : List Byte) :
    ((s.accepted l tag code).setClaim p c).answer ⟨l, (s.link l).activation, tag, BitVec.ofNat 8 code⟩ st payload
      = (s.setClaim p c).replied l tag code st payload :=
  (s.setClaim p c).accepted_answer l tag code st payload

/-! ## The refusals of the claim step (R44, R45) -/

section
variable {s : State} {l : LinkId} {p : Port}

theorem State.claimPort_noDevice (device : (s.port p).noDevice = true) (l : LinkId) (code : Byte) :
    s.claimPort l p code = .error .noDevice := by
  simp [State.claimPort, device]

theorem State.claimPort_paired (device : (s.port p).noDevice = false) (paired : (s.pairOf p).isSome = true) (l : LinkId)
    (code : Byte) : s.claimPort l p code = .error .paired := by
  simp [State.claimPort, device, paired]

/-- A port in no pair that has a device is left to the claim rule. -/
theorem State.claimPort_single (device : (s.port p).noDevice = false) (single : s.pairOf p = none) (l : LinkId)
    (code : Byte) : s.claimPort l p code = s.claimRule l p code := by
  simp [State.claimPort, device, single]

theorem State.claimRule_locked (locked : s.claim p = ⟨some l.other, true⟩) (code : Byte) :
    s.claimRule l p code = .error .locked := by
  simp [State.claimRule, locked]

/-- The claim rule on a port that is free or the link's own: the link holds it, and its lock stands. -/
theorem State.claimRule_own (own : (s.claim p).holder = none ∨ (s.claim p).holder = some l) (code : Byte) :
    s.claimRule l p code
      = .ok (s.setClaim p (if (s.claim p).holder = none then ⟨some l, false⟩ else s.claim p), none) := by
  obtain free | held := own
  · simp [State.claimRule, free, Claim.heldBy]
  · simp [State.claimRule, held]

/-- A port in a state that R45 names has no device. -/
theorem PortUnit.noDevice_of_mem {u : PortUnit} (h : u.state ∈ [PortState.empty, .probing, .fault, .faultLatched]) :
    u.noDevice = true := by
  simp only [List.mem_cons, List.not_mem_nil, or_false] at h
  obtain h | h | h | h := h <;> simp [PortUnit.noDevice, h]

theorem PortUnit.hasDevice_of_mem {u : PortUnit} (h : u.state ∈ [PortState.passive, .describing, .active]) :
    u.noDevice = false := by
  simp only [List.mem_cons, List.not_mem_nil, or_false] at h
  obtain h | h | h := h <;> simp [PortUnit.noDevice, h]

end

/-- A port number outside 1 to 6 is refused BAD_PARAM. -/
theorem State.claiming_badPort {ps : List Byte} (port : portAt ps 0 = none) (s : State) (r : ReplyTo)
    (body : State → Port → Option Settlement → State) : s.claiming r ps body = s.answer r .badParam [] := by
  simp only [State.claiming, port]

/-- What the claim step refuses is the request's answer. -/
theorem State.claiming_refused {s : State} {r : ReplyTo} {ps : List Byte} {p : Port} {st : Status}
    (port : portAt ps 0 = some p) (refused : s.claimPort r.link p r.code = .error st)
    (body : State → Port → Option Settlement → State) : s.claiming r ps body = s.answer r st [] := by
  simp only [State.claiming, port, refused]

/-- Each claiming request that names one port is served by the claim step and a part of its own. -/
theorem exec_claiming {i : Instr} {l : LinkId} {tag : Byte} {code : Nat} {ps : List Byte}
    (mem : i ∈ [Instr.move l tag ps, .stop l tag ps, .setRegulator l tag ps, .setPosition l tag ps, .setMode l tag ps,
      .portWrite l tag ps]) (asks : i.asks = some (l, tag, code, ps)) :
    ∃ body : ReplyTo → State → Port → Option Settlement → State, ∀ s,
      exec i s = .next (s.serve l tag code ps fun r t => t.claiming r ps (body r)) := by
  simp only [List.mem_cons, List.not_mem_nil, or_false] at mem
  obtain rfl | rfl | rfl | rfl | rfl | rfl := mem <;> cases asks <;> exact ⟨_, fun _ => rfl⟩

/-- Settles O27: every refusal of the claim step is the answer of the request that was taken. -/
theorem claimStepRefuses : Obligations.ClaimStepRefuses := by
  intro i l tag code ps s mem asks asked allowed
  obtain ⟨body, run⟩ := exec_claiming mem asks
  have answers : ∀ st, (s.accepted l tag code).claiming ⟨l, (s.link l).activation, tag, BitVec.ofNat 8 code⟩ ps
      (body ⟨l, (s.link l).activation, tag, BitVec.ofNat 8 code⟩) = (s.accepted l tag code).answer
        ⟨l, (s.link l).activation, tag, BitVec.ofNat 8 code⟩ st [] → exec i s = .next (s.replied l tag code st []) := by
    intro st h
    rw [run, State.serve_asked asked allowed, h, State.accepted_answer]
  refine ⟨fun port => answers _ (State.claiming_badPort port _ _ _), fun p port =>
    ⟨fun state => ?_, fun state paired => ?_, fun state single locked => ?_⟩⟩
  · exact answers _ (State.claiming_refused port
      (State.claimPort_noDevice (s := s.accepted l tag code) (PortUnit.noDevice_of_mem state) _ _) _)
  · exact answers _ (State.claiming_refused port
      (State.claimPort_paired (s := s.accepted l tag code) (PortUnit.hasDevice_of_mem state) paired _ _) _)
  · exact answers _ (State.claiming_refused port
      ((State.claimPort_single (s := s.accepted l tag code) (PortUnit.hasDevice_of_mem state) single _ _).trans
        (State.claimRule_locked (s := s.accepted l tag code) locked _)) _)

/-! ## PAIR (R53, R102) -/

@[simp] theorem portAt_num_second (x : Byte) (p : Port) (rest : List Byte) :
    portAt (x :: BitVec.ofNat 8 p.num :: rest) 1 = some p := by
  cases p <;> rfl

theorem Claim.lockedAgainst_own {c : Claim} {l : LinkId} (own : c.holder = none ∨ c.holder = some l) :
    c.lockedAgainst l = false := by
  obtain h | h := own <;> simp [Claim.lockedAgainst, h]

/-- The claim step of PAIR for two ports, each free or the link's own. -/
theorem State.claimBoth_own {s : State} {l : LinkId} {a b : Port} (distinct : a ≠ b) (deviceA : (s.port a).noDevice = false)
    (deviceB : (s.port b).noDevice = false) (singleA : s.pairOf a = none) (singleB : s.pairOf b = none)
    (ownA : (s.claim a).holder = none ∨ (s.claim a).holder = some l)
    (ownB : (s.claim b).holder = none ∨ (s.claim b).holder = some l) (code : Byte) :
    s.claimBoth l a b code = .ok ((s.setClaim a (if (s.claim a).holder = none then ⟨some l, false⟩ else s.claim a)).setClaim b
      (if (s.claim b).holder = none then ⟨some l, false⟩ else s.claim b), none, none) := by
  have second : ∀ c, (s.setClaim a c).claim b = s.claim b := fun c => s.setClaim_claim_ne a c distinct.symm
  have ownB' := fun c => State.claimRule_own (s := s.setClaim a c) (p := b) (l := l) (by rwa [second]) code
  simp only [second] at ownB'
  simp [State.claimBoth, deviceA, deviceB, singleA, singleB, Claim.lockedAgainst_own ownA, Claim.lockedAgainst_own ownB,
    State.claimRule_own ownA, ownB']

/-- The Ks of a PAIR whose presence byte is in its set. -/
theorem ksOf_eq {a b pres ks : Byte} (set : pres.toNat ≤ 1) :
    ksOf [a, b, pres, ks] = some (if pres = 0 then 32 else ks.toNat) := by
  obtain h | h : pres.toNat = 0 ∨ pres.toNat = 1 := by omega
  · obtain rfl : pres = 0 := BitVec.eq_of_toNat_eq h
    rfl
  · obtain rfl : pres = 1 := BitVec.eq_of_toNat_eq h
    rfl

section
variable {s t : State} {r : ReplyTo} {ps : List Byte} {a b : Port} {ks : Nat}

/-- A PAIR that took nothing over and is refused by its own checks. -/
theorem State.pairBody_refused (portA : portAt ps 0 = some a) (portB : portAt ps 1 = some b) (distinct : a ≠ b)
    (claimed : s.claimBoth r.link a b r.code = .ok (t, none, none)) (hks : ksOf ps = some ks) {st : Status}
    (check : t.pairCheck a b = .error st) : s.pairBody r ps = t.answer r st [] := by
  simp only [State.pairBody, portA, portB, if_neg distinct, claimed, hks, check, State.settleClaim]

/-- A PAIR that took nothing over and passes its own checks. -/
theorem State.pairBody_forms (portA : portAt ps 0 = some a) (portB : portAt ps 1 = some b) (distinct : a ≠ b)
    (claimed : s.claimBoth r.link a b r.code = .ok (t, none, none)) (hks : ksOf ps = some ks) {q : PairId}
    (check : t.pairCheck a b = .ok q) :
    s.pairBody r ps = (t.setPair q (some ⟨a, b, ks, [], none, 0, 0⟩)).answer r .ok (byteOf q.num ++ byteOf ks) := by
  simp only [State.pairBody, portA, portB, if_neg distinct, claimed, hks, check, State.settleClaim]

/-- PAIR's own checks pass two encoder motors with empty queues, to the slot found free. -/
theorem State.pairCheck_empty (motorA : (s.port a).encoderMotor = true) (motorB : (s.port b).encoderMotor = true)
    (emptyA : (s.unit a).queue = []) (emptyB : (s.unit b).queue = []) {slot : Option PairId}
    (found : (PairId.all.find? fun q => (s.pairAt q).isNone) = slot) :
    s.pairCheck a b = slot.elim (.error .tableFull) .ok := by
  subst found
  simp only [State.pairCheck, motorA, motorB, emptyA, emptyB]
  cases PairId.all.find? fun q => (s.pairAt q).isNone <;> rfl

end

/-- Settles O36: the claim step holds both ports, and the pair takes the slot that the check finds. -/
theorem pairFormsPair : Obligations.PairFormsPair := by
  intro l tag pres ksByte a b s t ks asked distinct set hks deviceA deviceB motorA motorB singleA singleB emptyA emptyB
    ownA ownB ht
  subst hks
  have claimed : (s.accepted l tag 0x35).claimBoth l a b 0x35 = .ok (t.accepted l tag 0x35, none, none) := by
    subst ht
    exact State.claimBoth_own (s := s.accepted l tag 0x35) distinct deviceA deviceB singleA singleB ownA ownB 0x35
  have check := State.pairCheck_empty (s := t.accepted l tag 0x35) (a := a) (b := b) (slot := PairId.all.find? fun q =>
    (s.pairAt q).isNone) (by subst ht; exact motorA) (by subst ht; exact motorB) (by subst ht; exact emptyA)
    (by subst ht; exact emptyB) (by subst ht; rfl)
  have same : (t.link l).activation = (s.link l).activation := by subst ht; rfl
  refine congrArg Host.Outcome.next ((State.serve_asked asked rfl _).trans ?_)
  rw [← same]
  cases slot : PairId.all.find? fun q => (s.pairAt q).isNone with
  | none =>
    rw [slot] at check
    exact (State.pairBody_refused (portAt_num a _) (portAt_num_second _ b _) distinct claimed (ksOf_eq set) check).trans
      (t.accepted_answer l tag 0x35 _ _)
  | some q =>
    rw [slot] at check
    exact (State.pairBody_forms (portAt_num a _) (portAt_num_second _ b _) distinct claimed (ksOf_eq set) check).trans
      ((t.setPair q _).accepted_answer l tag 0x35 _ _)

end Sys2Proof.Machine
end

section
/-! Work on the claims and on what their ports run, between a request and its answer, and the SEGMENT_ENDs it sends in queue
order (R73). -/

namespace Sys2Proof.Machine

/-! ## Work on the claims and on what their ports run -/

/-- Nothing but claims, units, pairs and the links' notices changes. -/
structure State.ClaimWork (s t : State) : Prop where
  frame : t = { s with claims := t.claims, motion := t.motion, pairs := t.pairs, links := t.links }
  link : ∀ l, t.link l = { s.link l with notices := (t.link l).notices, sticky := (t.link l).sticky }

theorem State.ClaimWork.refl (s : State) : s.ClaimWork s := ⟨rfl, fun _ => rfl⟩

theorem State.ClaimWork.trans {s t u : State} (a : s.ClaimWork t) (b : t.ClaimWork u) : s.ClaimWork u where
  frame := by conv_lhs => rw [b.frame, a.frame]
  link l := by conv_lhs => rw [b.link l, a.link l]

theorem Link.pushEvent_eq (n : Notice) (k : Link) :
    k.pushEvent n = { k with notices := (k.pushEvent n).notices, sticky := (k.pushEvent n).sticky } := by
  obtain ⟨h, -⟩ | ⟨h, -, -⟩ | ⟨h, -, -⟩ := Link.pushEvent_cases n k <;> rw [h]

theorem State.claimWork_notify (s : State) (l : LinkId) (n : Notice) : s.ClaimWork (s.notify l n) := by
  refine ⟨rfl, fun i => ?_⟩
  rw [State.notify, State.modLink_link]
  split
  · rename_i h; subst h; exact Link.pushEvent_eq n _
  · rfl

theorem State.claimWork_endNotice (s : State) (p : Port) (q : Option PairId) (g : Segment) (o : SegOutcome) (n : Nat) :
    s.ClaimWork (s.endNotice p q g o n) := by
  unfold State.endNotice
  split
  · exact s.claimWork_notify _ _
  · exact .refl s

theorem State.claimWork_setClaim (s : State) (p : Port) (c : Claim) : s.ClaimWork (s.setClaim p c) := ⟨rfl, fun _ => rfl⟩

theorem State.claimWork_modUnit (s : State) (p : Port) (f : MotionUnit → MotionUnit) : s.ClaimWork (s.modUnit p f) :=
  ⟨rfl, fun _ => rfl⟩

theorem State.claimWork_modPair (s : State) (q : PairId) (f : PairRec → PairRec) : s.ClaimWork (s.modPair q f) :=
  ⟨rfl, fun _ => rfl⟩

theorem State.claimWork_endQueue (s : State) (p : Port) (a w : SegOutcome) : s.ClaimWork (s.endQueue p a w) := by
  cases h : (s.unit p).queue with
  | nil => rw [State.endQueue_of_nil h]; exact .refl s
  | cons g rest =>
    rw [State.endQueue_of_cons h]
    exact ((s.claimWork_endNotice _ _ _ _ _).trans
      (foldl_induct .refl .trans rest (fun t k _ => t.claimWork_endNotice p none k w 0) _)).trans
      (State.claimWork_modUnit _ p _)

theorem State.claimWork_endPairQueue (s : State) (q : PairId) (a w : SegOutcome) :
    s.ClaimWork (s.endPairQueue q a w) := by
  cases e : s.pairAt q with
  | none => rw [State.endPairQueue_of_none e]; exact .refl s
  | some r =>
    cases h : r.queue with
    | nil => rw [State.endPairQueue_of_nil e h]; exact .refl s
    | cons g rest =>
      rw [State.endPairQueue_of_cons e h]
      exact ((s.claimWork_endNotice _ _ _ _ _).trans
        (foldl_induct .refl .trans rest (fun t k _ => t.claimWork_endNotice (r.leadPort k) (some q) k.seg w 0) _)).trans
        (State.claimWork_modPair _ q _)

theorem State.claimWork_freePort (s : State) (p : Port) (o : SegOutcome) (state : MotorState) :
    s.ClaimWork (s.freePort p o state) :=
  ((s.claimWork_endQueue p o o).trans (State.claimWork_modUnit _ p _)).trans (State.claimWork_setClaim _ p _)

theorem State.claimWork_freePair (s : State) (q : PairId) (r : PairRec) (o : SegOutcome) (state : MotorState) :
    s.ClaimWork (s.freePair q r o state) :=
  ((((s.claimWork_endPairQueue q o o).trans (State.claimWork_modUnit _ r.portA _)).trans
    (State.claimWork_modUnit _ r.portB _)).trans (State.claimWork_setClaim _ r.portA _)).trans
    (State.claimWork_setClaim _ r.portB _)

theorem State.claimWork_settleClaim (s : State) (p : Port) (e : Option Settlement) : s.ClaimWork (s.settleClaim p e) := by
  unfold State.settleClaim
  split
  · exact s.claimWork_modUnit p _
  · exact .refl s

/-! ## The request around that work -/

section
variable {s t : State} {l : LinkId} {tag : Byte} {code : Nat}

theorem State.linksGrow_accepted (s : State) (l : LinkId) (tag : Byte) (code : Nat) :
    s.LinksGrow (s.accepted l tag code) :=
  s.linksGrow_modLink l (f := fun k => k.accepted l tag code)
    ⟨rfl, rfl, fun _ h => h, fun _ h _ => h, fun h => h, fun h => h, fun _ _ h => h⟩

@[simp] theorem State.accepted_link_state (s : State) (l i : LinkId) (tag : Byte) (code : Nat) :
    ((s.accepted l tag code).link i).state = (s.link i).state := by
  rw [State.accepted, State.setLink_link]
  split
  · rename_i h; subst h; rfl
  · rfl

@[simp] theorem State.accepted_link_notices (s : State) (l i : LinkId) (tag : Byte) (code : Nat) :
    ((s.accepted l tag code).link i).notices = (s.link i).notices := by
  rw [State.accepted, State.setLink_link]
  split
  · rename_i h; subst h; rfl
  · rfl

@[simp] theorem State.answer_link_notices (s : State) (r : ReplyTo) (st : Status) (payload : List Byte) (i : LinkId) :
    ((s.answer r st payload).link i).notices = (s.link i).notices := by
  unfold State.answer
  split
  · rw [State.modLink_link]
    split
    · rename_i h; subst h; rfl
    · rfl
  · rfl

/-- A request answered after work on the claims: nothing but that work and its reply. -/
theorem State.ClaimWork.answered (h : (s.accepted l tag code).ClaimWork t) (st : Status) (payload : List Byte) {u : State}
    (hu : u = t.answer ⟨l, (s.link l).activation, tag, BitVec.ofNat 8 code⟩ st payload) :
    u = { s with claims := u.claims, motion := u.motion, pairs := u.pairs, links := u.links }
      ∧ (u.link l).replies = (s.link l).replies ++ [⟨tag, BitVec.ofNat 8 code, st, payload⟩] := by
  constructor
  · have work : t.LinkWork u := hu ▸ t.linkWork_answer _ st payload
    have kept : u.claims = t.claims ∧ u.motion = t.motion ∧ u.pairs = t.pairs := by rw [hu]; simp
    obtain ⟨claims, motion, pairs⟩ := kept
    rw [claims, motion, pairs]
    conv_lhs => rw [work.frame, h.frame]
    rfl
  · have link := h.link l
    rw [State.accepted, State.setLink_link_same] at link
    rw [hu, State.answer, if_pos (by rw [link]; rfl), State.modLink_link_same, link]
    rfl

end

/-! ## SEGMENT_ENDs in queue order (R73) -/

/-- The SEGMENT_END of a segment that ran for a time, with the port it names. -/
def State.segmentEnd (s : State) (q : Option PairId) (o : SegOutcome) (elapsed : Nat) (x : Port × Segment) : Notice :=
  .segmentEnd ⟨x.1, q, x.2.tag, x.2.work.kind, o, s.reportedPosition x.1, elapsed⟩

theorem State.LinkWork.segmentEnd {s t : State} (h : s.LinkWork t) (q : Option PairId) (o : SegOutcome) (elapsed : Nat) :
    t.segmentEnd q o elapsed = s.segmentEnd q o elapsed := by
  funext x
  simp only [State.segmentEnd, State.reportedPosition, h.port, h.unit]

section
variable {s : State} {l : LinkId} {q : Option PairId} {o : SegOutcome}

/-- A reported segment's notice stands last in its ACTIVE issuer's queue, where that has room. -/
theorem State.endNotice_notices (active : (s.link l).state = .active) (reported : ∀ g : Segment, g.reports o = true)
    (room : (s.link l).notices.length < 32) {x : Port × Segment} (issuer : x.2.issuer = l) (n : Nat) :
    ((s.endNotice x.1 q x.2 o n).link l).notices = (s.link l).notices ++ [s.segmentEnd q o n x] := by
  subst issuer
  rw [State.endNotice, if_pos (reported _), State.notify, State.modLink_link_same, Link.pushEvent, if_pos active, if_pos room]
  rfl

/-- The notices of waiting segments stand last in their issuer's queue, in order. -/
theorem State.endNotices_notices (active : (s.link l).state = .active) (reported : ∀ g : Segment, g.reports o = true)
    {xs : List (Port × Segment)} (issuers : ∀ x ∈ xs, x.2.issuer = l) (room : (s.link l).notices.length + xs.length ≤ 32) :
    ((xs.foldl (fun t x => t.endNotice x.1 q x.2 o 0) s).link l).notices
      = (s.link l).notices ++ xs.map (s.segmentEnd q o 0) := by
  induction xs generalizing s with
  | nil => simp
  | cons x rest ih =>
    rw [List.length_cons] at room
    have work := s.linkWork_endNotice x.1 q x.2 o 0
    have first := State.endNotice_notices (q := q) active reported (by omega) (issuers x (by simp)) 0
    rw [List.foldl_cons, ih ((work.links l).state.trans active) (fun y hy => issuers y (by simp [hy]))
      (by rw [first, List.length_append, List.length_singleton]; omega), first, work.segmentEnd]
    simp

/-- The first segment's notice and then those of the others, in order. -/
theorem State.endsInOrder_endNotices (reported : ∀ g : Segment, g.reports o = true) (x : Port × Segment)
    (xs : List (Port × Segment)) (n : Nat) :
    s.endsInOrder (xs.foldl (fun t y => t.endNotice y.1 q y.2 o 0) (s.endNotice x.1 q x.2 o n)) l q (x :: xs) o n := by
  intro active issuers room
  rw [List.length_cons] at room
  have work := s.linkWork_endNotice x.1 q x.2 o n
  have first := State.endNotice_notices (q := q) active reported (by omega) (issuers x (by simp)) n
  refine ⟨s.segmentEnd q o n x :: xs.map (s.segmentEnd q o 0), ?_, by simp, fun i p g at_ => ?_⟩
  · rw [State.endNotices_notices ((work.links l).state.trans active) reported (fun y hy => issuers y (by simp [hy]))
      (by rw [first, List.length_append, List.length_singleton]; omega), first, work.segmentEnd]
    simp
  · cases i with
    | zero =>
      obtain rfl : x = (p, g) := by simpa using at_
      rfl
    | succ i =>
      rw [List.getElem?_cons_succ] at at_ ⊢
      rw [List.getElem?_map, at_]
      rfl

/-- Only the queue of the link matters to what stands in it. -/
theorem State.endsInOrder_congr {t u : State} {segs : List (Port × Segment)} {n : Nat}
    (h : s.endsInOrder t l q segs o n) (same : (u.link l).notices = (t.link l).notices) : s.endsInOrder u l q segs o n := by
  unfold State.endsInOrder
  rwa [same]

/-- The segments that end between the taking of a request and its answer. -/
theorem State.endsInOrder_answered {t : State} {i : LinkId} {tag : Byte} {code : Nat} {segs : List (Port × Segment)}
    {n : Nat} (h : (s.accepted i tag code).endsInOrder t l q segs o n) (r : ReplyTo) (st : Status) (payload : List Byte) :
    s.endsInOrder (t.answer r st payload) l q segs o n := by
  intro active issuers room
  rw [← s.accepted_link_notices i l tag code] at room ⊢
  rw [State.answer_link_notices]
  exact h ((s.accepted_link_state i l tag code).trans active) issuers room

/-- A segment that ends between the taking of a request and its answer is reported. -/
theorem State.sendsEnd_answered {t : State} {i : LinkId} {tag : Byte} {code : Nat} (grows : (s.accepted i tag code).LinksGrow t)
    {p : Port} {g : Segment} (h : (s.accepted i tag code).sendsEnd t p q g o) (r : ReplyTo) (st : Status)
    (payload : List Byte) : s.sendsEnd (t.answer r st payload) p q g o :=
  (s.linksGrow_accepted i tag code).sendsEnd_after (grows.sendsEnd_before (t.linksGrow_answer r st payload) h)

theorem State.endsInOrder_nil (s : State) (l : LinkId) (q : Option PairId) (o : SegOutcome) (n : Nat) :
    s.endsInOrder s l q [] o n := fun _ _ _ => ⟨[], by simp⟩

/-- The end of a unit's queue tells its issuer of the segments in queue order. -/
theorem State.endsInOrder_endQueue (reported : ∀ g : Segment, g.reports o = true) (s : State) (l : LinkId) (p : Port) :
    s.endsInOrder (s.endQueue p o o) l none ((s.unit p).queue.map fun g => (p, g)) o (s.elapsed p) := by
  cases h : (s.unit p).queue with
  | nil => rw [State.endQueue_of_nil h]; exact s.endsInOrder_nil l none o _
  | cons g rest =>
    rw [State.endQueue_of_cons h]
    have told := State.endsInOrder_endNotices (s := s) (l := l) (q := none) reported (p, g)
      (rest.map fun k => (p, k)) (s.elapsed p)
    rw [List.foldl_map] at told
    exact State.endsInOrder_congr told rfl

/-- The end of a pair's queue tells its issuer of the segments in queue order. -/
theorem State.endsInOrder_endPairQueue (reported : ∀ g : Segment, g.reports o = true) {y : PairId} {r : PairRec}
    (e : s.pairAt y = some r) (l : LinkId) : s.endsInOrder (s.endPairQueue y o o) l (some y)
      (r.queue.map fun g => (r.leadPort g, g.seg)) o (s.pairElapsed r) := by
  cases h : r.queue with
  | nil => rw [State.endPairQueue_of_nil e h]; exact s.endsInOrder_nil l (some y) o _
  | cons g rest =>
    rw [State.endPairQueue_of_cons e h]
    have told := State.endsInOrder_endNotices (s := s) (l := l) (q := some y) reported (r.leadPort g, g.seg)
      (rest.map fun k => (r.leadPort k, k.seg)) (s.pairElapsed r)
    rw [List.foldl_map] at told
    exact State.endsInOrder_congr told rfl

end

end Sys2Proof.Machine
end

section
/-! LOCK, UNLOCK and RELEASE, and the takeover of a port (R47 to R51, R73): O28 and O29. -/

namespace Sys2Proof.Machine

/-! ## LOCK and UNLOCK (R49, R50) -/

theorem claimTarget_port (p : Port) : claimTarget [0, BitVec.ofNat 8 p.num] = some (.port p) := by cases p <;> rfl

theorem claimTarget_pair (q : PairId) : claimTarget [1, BitVec.ofNat 8 q.num] = some (.pair q) := by
  cases q <;> rfl

theorem State.setClaim_comm (s : State) {a b : Port} (distinct : a ≠ b) (c d : Claim) :
    (s.setClaim a c).setClaim b d = (s.setClaim b d).setClaim a c := by
  cases a <;> cases b <;> first | rfl | exact absurd rfl distinct

section
variable {s t : State} {r : ReplyTo} {l : LinkId} {p : Port} {q : PairId} {x : PairRec}

/-- The holder's lock is set or cleared. -/
theorem State.setLocked_held (held : (s.claim p).holder = some l) (locked : Bool) :
    s.setLocked p locked = s.setClaim p ⟨some l, locked⟩ := by
  simp [State.setLocked, ← held]

/-- The locks of a pair that a link holds are set or cleared. -/
theorem State.setLocked_pair (distinct : x.portA ≠ x.portB) (heldA : (s.claim x.portA).holder = some l)
    (heldB : (s.claim x.portB).holder = some l) (locked : Bool) :
    (s.setLocked x.portA locked).setLocked x.portB locked
      = (s.setClaim x.portA ⟨some l, locked⟩).setClaim x.portB ⟨some l, locked⟩ := by
  rw [State.setLocked_held heldA, State.setLocked_held]
  rwa [State.setClaim_claim_ne _ _ _ distinct.symm]

theorem State.lockBody_port {e : Option Settlement} (claimed : s.claimPort r.link p r.code = .ok (t, e)) :
    s.lockBody r [0, BitVec.ofNat 8 p.num] = ((t.setLocked p true).settleClaim p e).answer r .ok [] := by
  have body : s.lockBody r [0, BitVec.ofNat 8 p.num] = s.claiming r [BitVec.ofNat 8 p.num]
      fun t p e => ((t.setLocked p true).settleClaim p e).answer r .ok [] := rfl
  rw [body, State.claiming, portAt_num]
  simp only [claimed]

theorem State.lockBody_pair {e : Option PairSettlement} (record : s.pairAt q = some x)
    (claimed : s.claimPair r.link q x r.code = .ok (t, e)) : s.lockBody r [1, BitVec.ofNat 8 q.num]
      = (((t.setLocked x.portA true).setLocked x.portB true).settlePairClaim x e).answer r .ok [] := by
  have body : s.lockBody r [1, BitVec.ofNat 8 q.num] = s.claimingPair r (byteAt [1, BitVec.ofNat 8 q.num] 1)
      fun t _ x e => (((t.setLocked x.portA true).setLocked x.portB true).settlePairClaim x e).answer r .ok [] := rfl
  have code : PairId.ofCode (byteAt [1, BitVec.ofNat 8 q.num] 1) = some q := by cases q <;> rfl
  rw [body, State.claimingPair, code]
  simp only [record, claimed]

/-- The claim step on a pair that is free or the link's own takes nothing over, and the link may then set the locks. -/
theorem State.claimPair_own (distinct : x.portA ≠ x.portB)
    (own : s.claim x.portA = ⟨none, false⟩ ∧ s.claim x.portB = ⟨none, false⟩
      ∨ (s.claim x.portA).holder = some l ∧ (s.claim x.portB).holder = some l) (code : Byte) :
    ∃ t, s.claimPair l q x code = .ok (t, none) ∧ (t.setLocked x.portA true).setLocked x.portB true
      = (s.setClaim x.portA ⟨some l, true⟩).setClaim x.portB ⟨some l, true⟩ := by
  obtain ⟨freeA, freeB⟩ | ⟨heldA, heldB⟩ := own
  · refine ⟨s.setPairClaims x (.heldBy l), by simp [State.claimPair, Claim.lockedAgainst, freeA, freeB], ?_⟩
    rw [State.setLocked_pair (l := l) distinct]
    · rw [State.setPairClaims, State.setClaim_comm _ distinct.symm, State.setClaim_setClaim, State.setClaim_setClaim]
    · rw [State.setPairClaims, State.setClaim_claim_ne _ _ _ distinct, State.setClaim_claim_same]; rfl
    · rw [State.setPairClaims, State.setClaim_claim_same]; rfl
  · refine ⟨s, ?_, State.setLocked_pair distinct heldA heldB true⟩
    simp [State.claimPair, Claim.lockedAgainst_own (.inr heldA), Claim.lockedAgainst_own (.inr heldB), heldA]

/-- The claim step on a port that is free or the link's own takes nothing over, and the link may then set the lock. -/
theorem State.claimPort_own (device : (s.port p).noDevice = false) (single : s.pairOf p = none)
    (own : s.claim p = ⟨none, false⟩ ∨ (s.claim p).holder = some l) (code : Byte) :
    ∃ t, s.claimPort l p code = .ok (t, none) ∧ t.setLocked p true = s.setClaim p ⟨some l, true⟩ := by
  have rule := State.claimRule_own (own.imp_left fun h => by rw [h]) code
  refine ⟨_, (State.claimPort_single device single l code).trans rule, ?_⟩
  rw [State.setLocked_held (l := l), State.setClaim_setClaim]
  rw [State.setClaim_claim_same]
  split
  · rfl
  · rename_i taken
    exact own.resolve_left fun h => taken (by rw [h])

theorem State.ownTarget_of_port (single : s.pairOf p = none) (held : (s.claim p).holder = some l) :
    s.ownTarget l [0, BitVec.ofNat 8 p.num] = .ok (.inl p) := by
  unfold State.ownTarget
  rw [claimTarget_port]
  simp [single, held]

theorem State.ownTarget_of_pair (record : s.pairAt q = some x) (heldA : (s.claim x.portA).holder = some l)
    (heldB : (s.claim x.portB).holder = some l) : s.ownTarget l [1, BitVec.ofNat 8 q.num] = .ok (.inr (q, x)) := by
  unfold State.ownTarget
  rw [claimTarget_pair]
  simp [record, heldA, heldB]

/-- A request that answers at once after changes of a pair's claim records. -/
theorem State.accepted_setClaims_answer (s : State) (l : LinkId) (tag : Byte) (code : Nat) (a b : Port) (c d : Claim)
    (st : Status) (payload : List Byte) : (((s.accepted l tag code).setClaim a c).setClaim b d).answer
        ⟨l, (s.link l).activation, tag, BitVec.ofNat 8 code⟩ st payload
      = ((s.setClaim a c).setClaim b d).replied l tag code st payload :=
  ((s.setClaim a c).setClaim b d).accepted_answer l tag code st payload

/-! ## RELEASE (R51, R73) -/

/-- A unit whose port was released has ended its segments and settled. -/
theorem State.freePort_unit (s : State) (p : Port) (o : SegOutcome) : (s.freePort p o .coasting).unit p = { s.unit p with
    queue := [], act := (if (s.unit p).queue = [] then (s.unit p).act else none), motor := .coasting, hold := none
    reg := { (s.unit p).reg with duty := 0, clamped := false, holdCreep := none } } := by
  rw [State.freePort, State.setClaim_unit, State.settleUnit, State.modUnit_unit_same, State.endQueue_unit, ite_self]
  rfl

theorem State.freePort_unit_ne (s : State) {p y : Port} (other : y ≠ p) (o : SegOutcome) (state : MotorState) :
    (s.freePort p o state).unit y = s.unit y := by
  rw [State.freePort, State.setClaim_unit, State.settleUnit, State.modUnit_unit_ne _ _ _ other]
  exact (s.unitWork_endQueue p o o).unit_ne other

theorem State.freePort_claims (s : State) (p : Port) (o : SegOutcome) (state : MotorState) :
    (s.freePort p o state).claims = s.claims.set p .free := by
  have ended : (s.endQueue p o o).claims = s.claims := by rw [(s.unitWork_endQueue p o o).frame]
  rw [State.freePort, State.setClaim_claims, State.settleUnit, State.modUnit_claims, ended]

theorem State.freePort_pairs (s : State) (p : Port) (o : SegOutcome) (state : MotorState) :
    (s.freePort p o state).pairs = s.pairs := by
  have ended : (s.endQueue p o o).pairs = s.pairs := by rw [(s.unitWork_endQueue p o o).frame]
  exact ended

/-- The claims apart, a released pair is left as a dissolved one, but for its record. -/
theorem State.freePair_unit (record : s.pairAt q = some x) (o : SegOutcome) (y : Port) :
    (s.freePair q x o .coasting).unit y = (s.dissolvePair q o).unit y := by
  rw [State.dissolvePair_of_some record]
  rfl

theorem State.freePair_pairAt (s : State) (q : PairId) (x : PairRec) (o : SegOutcome) (state : MotorState) (y : PairId) :
    (s.freePair q x o state).pairAt y = (s.endPairQueue q o o).pairAt y := rfl

theorem State.freePair_claims (s : State) (q : PairId) (x : PairRec) (o : SegOutcome) (state : MotorState) :
    (s.freePair q x o state).claims = (s.claims.set x.portA .free).set x.portB .free := by
  have ended : (s.endPairQueue q o o).claims = s.claims := by rw [(s.pairWork_endPairQueue q o o).frame]
  rw [← ended]
  rfl

theorem State.freePort_links (s : State) (p : Port) (o : SegOutcome) (state : MotorState) :
    s.LinksGrow (s.freePort p o state) :=
  State.LinksGrow.trans (t := s.endQueue p o o) (s.unitWork_endQueue p o o).links (.of_links rfl)

theorem State.freePair_links (s : State) (q : PairId) (x : PairRec) (o : SegOutcome) (state : MotorState) :
    s.LinksGrow (s.freePair q x o state) :=
  State.LinksGrow.trans (t := s.endPairQueue q o o) (s.pairWork_endPairQueue q o o).links (.of_links rfl)

theorem State.sendsEnd_freePort {g : Segment} (mem : g ∈ (s.unit p).queue) {o : SegOutcome} (reported : g.reports o = true)
    (state : MotorState) : s.sendsEnd (s.freePort p o state) p none g o :=
  (s.unitWork_endQueue p o o).links.sendsEnd_before (.of_links rfl) (State.sendsEnd_endQueue mem reported)

theorem State.sendsEnd_freePair {g : PairSegment} (record : s.pairAt q = some x) (mem : g ∈ x.queue) {o : SegOutcome}
    (reported : g.seg.reports o = true) (state : MotorState) :
    s.sendsEnd (s.freePair q x o state) (x.leadPort g) (some q) g.seg o :=
  (s.pairWork_endPairQueue q o o).links.sendsEnd_before (.of_links rfl) (State.sendsEnd_endPairQueue record mem reported)

theorem State.endsInOrder_freePort {o : SegOutcome} (reported : ∀ g : Segment, g.reports o = true) (s : State) (l : LinkId)
    (p : Port) (state : MotorState) : s.endsInOrder (s.freePort p o state) l none ((s.unit p).queue.map fun g => (p, g)) o
      (s.elapsed p) :=
  State.endsInOrder_congr (State.endsInOrder_endQueue reported s l p) rfl

theorem State.endsInOrder_freePair {o : SegOutcome} (reported : ∀ g : Segment, g.reports o = true)
    (record : s.pairAt q = some x) (l : LinkId) (state : MotorState) : s.endsInOrder (s.freePair q x o state) l (some q)
      (x.queue.map fun g => (x.leadPort g, g.seg)) o (s.pairElapsed x) :=
  State.endsInOrder_congr (State.endsInOrder_endPairQueue reported record l) rfl

theorem State.releaseBody_port (single : s.pairOf p = none) (held : (s.claim p).holder = some r.link) :
    s.releaseBody r [0, BitVec.ofNat 8 p.num] = (s.freePort p .released .coasting).answer r .ok [] := by
  simp only [State.releaseBody, State.ownTarget_of_port single held]

theorem State.releaseBody_pair (record : s.pairAt q = some x) (heldA : (s.claim x.portA).holder = some r.link)
    (heldB : (s.claim x.portB).holder = some r.link) :
    s.releaseBody r [1, BitVec.ofNat 8 q.num] = (s.freePair q x .released .coasting).answer r .ok [] := by
  simp only [State.releaseBody, State.ownTarget_of_pair record heldA heldB]

end

/-- Settles O28: LOCK and UNLOCK write the claim records of the request that was taken; RELEASE is the release of a port or
pair followed by the answer, and what it tells is what the end of the queue tells. -/
theorem lockUnlockRelease : Obligations.LockUnlockRelease := by
  refine ⟨fun l tag p s single => ⟨fun asked state own => ?_, fun asked held => ?_, fun asked held => ?_⟩,
    fun l tag q r s record distinct => ⟨fun asked own => ?_, fun asked heldA heldB => ?_, fun asked heldA heldB => ?_⟩⟩
  · obtain ⟨t, claimed, locked⟩ := State.claimPort_own (s := s.accepted l tag 0x20) (l := l)
      (PortUnit.hasDevice_of_mem state) single own 0x20
    refine congrArg Host.Outcome.next ((State.serve_asked asked rfl _).trans ((State.lockBody_port claimed).trans ?_))
    rw [locked]
    exact s.accepted_setClaim_answer l tag 0x20 p _ _ _
  · refine congrArg Host.Outcome.next ((State.serve_asked asked rfl _).trans ?_)
    rw [State.unlockBody, State.ownTarget_of_port (s := s.accepted l tag 0x21) single held]
    simp only [State.setLocked_held (s := s.accepted l tag 0x21) held]
    exact s.accepted_setClaim_answer l tag 0x21 p _ _ _
  · have released := State.releaseBody_port (s := s.accepted l tag 0x22)
      (r := ⟨l, (s.link l).activation, tag, BitVec.ofNat 8 0x22⟩) single held
    have answered := ((s.accepted l tag 0x22).freePort p .released .coasting).linkWork_answer
      ⟨l, (s.link l).activation, tag, BitVec.ofNat 8 0x22⟩ .ok []
    obtain ⟨frame, replies⟩ := ((s.accepted l tag 0x22).claimWork_freePort p .released .coasting).answered .ok [] rfl
    rw [State.answer_pairs, State.freePort_pairs] at frame
    refine ⟨_, congrArg Host.Outcome.next ((State.serve_asked asked rfl _).trans released), ?_, ?_, fun g mem => ?_, ?_,
      fun y other => ?_, replies, frame⟩
    · rw [State.answer_claims, State.freePort_claims]; rfl
    · rw [answered.unit, State.freePort_unit]; rfl
    · exact State.sendsEnd_answered (State.freePort_links _ p _ _)
        (State.sendsEnd_freePort (s := s.accepted l tag 0x22) mem rfl _) _ _ _
    · exact State.endsInOrder_answered (State.endsInOrder_freePort (fun _ => rfl) (s.accepted l tag 0x22) l p _) _ _ _
    · rw [answered.unit, State.freePort_unit_ne _ other]; rfl
  · obtain ⟨t, claimed, locked⟩ := State.claimPair_own (s := s.accepted l tag 0x20) (q := q) distinct own 0x20
    refine congrArg Host.Outcome.next ((State.serve_asked asked rfl _).trans
      ((State.lockBody_pair (s := s.accepted l tag 0x20) record claimed).trans ?_))
    rw [locked]
    exact s.accepted_setClaims_answer l tag 0x20 r.portA r.portB _ _ _ _
  · refine congrArg Host.Outcome.next ((State.serve_asked asked rfl _).trans ?_)
    rw [State.unlockBody, State.ownTarget_of_pair (s := s.accepted l tag 0x21) record heldA heldB]
    simp only [State.setLocked_pair (s := s.accepted l tag 0x21) distinct heldA heldB]
    exact s.accepted_setClaims_answer l tag 0x21 r.portA r.portB _ _ _ _
  · have own : (s.accepted l tag 0x22).pairAt q = some r := record
    have released := State.releaseBody_pair (r := ⟨l, (s.link l).activation, tag, BitVec.ofNat 8 0x22⟩) own heldA heldB
    have answered := ((s.accepted l tag 0x22).freePair q r .released .coasting).linkWork_answer
      ⟨l, (s.link l).activation, tag, BitVec.ofNat 8 0x22⟩ .ok []
    have units := fun y => (answered.unit y).trans (State.freePair_unit own .released y)
    have unitA := (units r.portA).trans (State.dissolvePair_unit own .released (.inl rfl))
    have unitB := (units r.portB).trans (State.dissolvePair_unit own .released (.inr rfl))
    obtain ⟨frame, replies⟩ := ((s.accepted l tag 0x22).claimWork_freePair q r .released .coasting).answered .ok [] rfl
    refine ⟨_, congrArg Host.Outcome.next ((State.serve_asked asked rfl _).trans released), ?_, ?_, fun g mem => ?_, ?_,
      ?_, ?_, ?_, ?_, fun y otherA otherB => ?_, fun y other => ?_, replies, frame⟩
    · rw [State.answer_claims, State.freePair_claims]; rfl
    · refine ⟨_, (answered.pairAt q).trans (State.endPairQueue_pairAt own .released .released), ?_⟩
      split
      · rename_i empty; exact ⟨empty, rfl, rfl, rfl⟩
      · exact ⟨rfl, rfl, rfl, rfl⟩
    · rw [← PairRec.leadPort_eq]
      exact State.sendsEnd_answered (State.freePair_links _ q r _ _) (State.sendsEnd_freePair own mem rfl _) _ _ _
    · have told := State.endsInOrder_freePair (o := .released) (fun _ => rfl) own l .coasting
      simp only [PairRec.leadPort_eq] at told
      exact State.endsInOrder_answered told _ _ _
    · rw [unitA]; rfl
    · rw [unitB]; rfl
    · rw [unitA]; rfl
    · rw [unitB]; rfl
    · refine (units y).trans (((s.accepted l tag 0x22).pairWork_dissolvePair q .released).others y fun z e => ?_)
      obtain rfl : r = z := Option.some.inj (own.symm.trans e)
      exact ⟨otherA.symm, otherB.symm⟩
    · exact (answered.pairAt y).trans (((s.accepted l tag 0x22).pairWork_endPairQueue q _ _).pairAt_ne other)

/-! ## A takeover (R45, R47, R48) -/

/-- What LOCK leaves of a port it takes over, before its answer: the segments ended, the record passed on with the lock set, the
old holder told, and the motor at the end action of the segment that was active. -/
def State.lockTaken (s : State) (l : LinkId) (p : Port) (code : Byte) : State :=
  (((s.endQueue p .takenOver .takenOver).setClaim p ⟨some l, true⟩).notify l.other
    (.claimLost ⟨p, none, l, code, (s.unit p).queue.length⟩)).settleClaim p
      ((s.unit p).queue.head?.map fun g => ⟨g, (s.unit p).holdPosition⟩)

section
variable {s : State} {l : LinkId} {p : Port}

theorem State.claimPort_takeover (device : (s.port p).noDevice = false) (single : s.pairOf p = none)
    (held : s.claim p = ⟨some l.other, false⟩) (code : Byte) : s.claimPort l p code = .ok (s.takeover l p code) := by
  simp [State.claimPort_single device single, State.claimRule, held]

theorem State.takeover_setLocked (s : State) (l : LinkId) (p : Port) (code : Byte) :
    (s.takeover l p code).1.setLocked p true = ((s.endQueue p .takenOver .takenOver).setClaim p ⟨some l, true⟩).notify
      l.other (.claimLost ⟨p, none, l, code, (s.unit p).queue.length⟩) := by
  have held : ((s.takeover l p code).1.claim p).holder = some l :=
    congrArg Claim.holder (State.setClaim_claim_same (s.endQueue p .takenOver .takenOver) p (.heldBy l))
  rw [State.setLocked_held held]
  exact congrArg (State.notify · l.other _) (State.setClaim_setClaim _ p (.heldBy l) _)

theorem State.lockBody_takeover {r : ReplyTo} (device : (s.port p).noDevice = false) (single : s.pairOf p = none)
    (held : s.claim p = ⟨some r.link.other, false⟩) :
    s.lockBody r [0, BitVec.ofNat 8 p.num] = (s.lockTaken r.link p r.code).answer r .ok [] := by
  have taken := State.lockBody_port (t := (s.takeover r.link p r.code).1) (e := (s.takeover r.link p r.code).2)
    (State.claimPort_takeover device single held r.code)
  rw [State.takeover_setLocked] at taken
  exact taken

theorem State.settleClaim_links (s : State) (p : Port) (e : Option Settlement) : (s.settleClaim p e).links = s.links := by
  unfold State.settleClaim
  split <;> rfl

theorem State.settleClaim_unit_ne (s : State) {p x : Port} (other : x ≠ p) (e : Option Settlement) :
    (s.settleClaim p e).unit x = s.unit x := by
  unfold State.settleClaim
  split
  · exact State.modUnit_unit_ne _ _ _ other
  · rfl

theorem State.claimWork_lockTaken (s : State) (l : LinkId) (p : Port) (code : Byte) :
    s.ClaimWork (s.lockTaken l p code) :=
  (((s.claimWork_endQueue p _ _).trans (State.claimWork_setClaim _ p _)).trans (State.claimWork_notify _ _ _)).trans
    (State.claimWork_settleClaim _ p _)

/-- What follows the end of the segments goes on adding to the links' queues. -/
theorem State.endQueue_lockTaken_links (s : State) (l : LinkId) (p : Port) (code : Byte) :
    (s.endQueue p .takenOver .takenOver).LinksGrow (s.lockTaken l p code) :=
  (State.LinksGrow.of_links rfl).trans
    ((State.linksGrow_notify _ _ rfl).trans (.of_links (State.settleClaim_links _ p _)))

theorem State.lockTaken_links (s : State) (l : LinkId) (p : Port) (code : Byte) : s.LinksGrow (s.lockTaken l p code) :=
  (s.unitWork_endQueue p _ _).links.trans (s.endQueue_lockTaken_links l p code)

theorem State.lockTaken_claims (s : State) (l : LinkId) (p : Port) (code : Byte) :
    (s.lockTaken l p code).claims = s.claims.set p ⟨some l, true⟩ := by
  have ended : (s.endQueue p .takenOver .takenOver).claims = s.claims := by rw [(s.unitWork_endQueue p _ _).frame]
  rw [← ended]
  unfold State.lockTaken State.settleClaim
  split <;> rfl

theorem State.lockTaken_pairs (s : State) (l : LinkId) (p : Port) (code : Byte) : (s.lockTaken l p code).pairs = s.pairs := by
  have ended : (s.endQueue p .takenOver .takenOver).pairs = s.pairs := by rw [(s.unitWork_endQueue p _ _).frame]
  rw [← ended]
  unfold State.lockTaken State.settleClaim
  split <;> rfl

theorem State.lockTaken_unit_ne (s : State) (l : LinkId) {p x : Port} (other : x ≠ p) (code : Byte) :
    (s.lockTaken l p code).unit x = s.unit x := by
  rw [State.lockTaken, State.settleClaim_unit_ne _ other]
  exact (s.unitWork_endQueue p _ _).unit_ne other

/-- A port taken over with no segment keeps its unit. -/
theorem State.lockTaken_unit_idle (empty : (s.unit p).queue = []) (l : LinkId) (code : Byte) :
    (s.lockTaken l p code).unit p = s.unit p := by
  rw [State.lockTaken, State.endQueue_of_nil empty, empty]
  rfl

/-- A port taken over with segments has lost them, and its motor has taken the first one's end action. -/
theorem State.lockTaken_unit_running {g : Segment} {rest : List Segment} (queue : (s.unit p).queue = g :: rest) (l : LinkId)
    (code : Byte) : (s.lockTaken l p code).unit p = ({ s.unit p with queue := [], act := none }).endAction g.endAction
      (s.unit p).holdPosition ((s.port p).holdCreep (some g)) := by
  have unit := s.endQueue_unit p .takenOver .takenOver
  rw [if_neg (by rw [queue]; simp)] at unit
  have port : (s.endQueue p .takenOver .takenOver).port p = s.port p := by rw [(s.unitWork_endQueue p _ _).frame]; rfl
  rw [State.lockTaken, queue, ← port, ← unit]
  exact State.modUnit_unit_same _ _ _

/-- An end action keeps the ramp accumulator and the integral. -/
theorem MotionUnit.endAction_ramp (m : MotionUnit) (a : EndAction) (position : BitVec 32) (creep : Int) :
    (m.endAction a position creep).reg.acc = m.reg.acc ∧ (m.endAction a position creep).reg.integral = m.reg.integral := by
  cases a <;> exact ⟨rfl, rfl⟩

/-- What a takeover keeps of the unit, with its queue empty. -/
theorem State.lockTaken_unit_kept (s : State) (l : LinkId) (p : Port) (code : Byte) :
    ((s.lockTaken l p code).unit p).queue = [] ∧ ((s.lockTaken l p code).unit p).position = (s.unit p).position
      ∧ ((s.lockTaken l p code).unit p).settings = (s.unit p).settings
      ∧ ((s.lockTaken l p code).unit p).reg.acc = (s.unit p).reg.acc
      ∧ ((s.lockTaken l p code).unit p).reg.integral = (s.unit p).reg.integral := by
  cases queue : (s.unit p).queue with
  | nil => rw [State.lockTaken_unit_idle queue]; exact ⟨queue, rfl, rfl, rfl, rfl⟩
  | cons g rest =>
    rw [State.lockTaken_unit_running queue]
    obtain ⟨acc, integral⟩ := MotionUnit.endAction_ramp { s.unit p with queue := [], act := none } g.endAction
      (s.unit p).holdPosition ((s.port p).holdCreep (some g))
    refine ⟨?_, ?_, ?_, acc, integral⟩ <;> rw [MotionUnit.endAction_kept]

/-- CLAIM_LOST is put behind what the end of the segments left. -/
theorem State.lockTaken_notices (s : State) (l i : LinkId) (p : Port) (code : Byte) :
    ((s.lockTaken l p code).link i).notices = if i = l.other then
        (Link.pushEvent (.claimLost ⟨p, none, l, code, (s.unit p).queue.length⟩)
          ((s.endQueue p .takenOver .takenOver).link l.other)).notices
      else ((s.endQueue p .takenOver .takenOver).link i).notices := by
  rw [State.lockTaken, State.link, State.settleClaim_links, ← State.link, State.notify, State.modLink_link]
  split <;> rfl

/-- Where the old holder has room, it is told of every segment in queue order and then of the lost claim. -/
theorem State.lockTaken_told (active : (s.link l.other).state = .active)
    (issuers : ∀ g ∈ (s.unit p).queue, g.issuer = l.other)
    (room : (s.link l.other).notices.length + (s.unit p).queue.length < 32) (code : Byte) :
    ∃ ns : List Notice, ((s.lockTaken l p code).link l.other).notices = (s.link l.other).notices ++ ns
        ++ [.claimLost ⟨p, none, l, code, (s.unit p).queue.length⟩]
      ∧ ns.length = (s.unit p).queue.length
      ∧ ∀ (n : Nat) (g : Segment), (s.unit p).queue[n]? = some g → ∃ e : SegmentEnd, ns[n]? = some (.segmentEnd e)
        ∧ e.port = p ∧ e.pair = none ∧ e.tag = g.tag ∧ e.kind = g.work.kind ∧ e.outcome = .takenOver := by
  obtain ⟨ns, notices, length, order⟩ := State.endsInOrder_endQueue (o := .takenOver) (fun _ => rfl) s l.other p active
    (by simpa using issuers) (by rw [List.length_map]; omega)
  rw [List.length_map] at length
  have still := ((s.unitWork_endQueue p .takenOver .takenOver).links l.other).state.trans active
  refine ⟨ns, ?_, length, fun n g at_ => ⟨_, order n p g (by rw [List.getElem?_map, at_]; rfl), rfl, rfl, rfl, rfl, rfl⟩⟩
  rw [State.lockTaken_notices, if_pos rfl, Link.pushEvent, if_pos still, if_pos (by rw [notices, List.length_append]; omega),
    notices]

end

/-- Settles O29: LOCK of a port that the other link holds unlocked is the takeover followed by the answer. -/
theorem takeoverMovesClaim : Obligations.TakeoverMovesClaim := by
  intro l tag p s asked state single held
  obtain ⟨A, hA⟩ : ∃ A, A = s.accepted l tag 0x20 := ⟨_, rfl⟩
  have unit : ∀ x, A.unit x = s.unit x := fun x => by rw [hA]; rfl
  have taken : A.lockBody ⟨l, (s.link l).activation, tag, BitVec.ofNat 8 0x20⟩ [0, BitVec.ofNat 8 p.num]
      = (A.lockTaken l p 0x20).answer ⟨l, (s.link l).activation, tag, BitVec.ofNat 8 0x20⟩ .ok [] := by
    subst hA
    exact State.lockBody_takeover (s := s.accepted l tag 0x20) (PortUnit.hasDevice_of_mem state) single held
  have answered := (A.lockTaken l p 0x20).linkWork_answer ⟨l, (s.link l).activation, tag, BitVec.ofNat 8 0x20⟩ .ok []
  obtain ⟨frame, replies⟩ := State.ClaimWork.answered (s := s) (t := A.lockTaken l p 0x20)
    (by rw [← hA]; exact A.claimWork_lockTaken l p 0x20) .ok [] rfl
  have claims : (A.lockTaken l p 0x20).claims = s.claims.set p ⟨some l, true⟩ := by
    rw [State.lockTaken_claims, hA]; rfl
  have pairs : (A.lockTaken l p 0x20).pairs = s.pairs := by rw [State.lockTaken_pairs, hA]; rfl
  rw [State.answer_pairs, pairs] at frame
  obtain ⟨queue, position, settings, acc, integral⟩ := A.lockTaken_unit_kept l p 0x20
  rw [← answered.unit, unit] at position settings acc integral
  rw [← answered.unit] at queue
  have notices : ∀ i, (A.link i).notices = (s.link i).notices := fun i => by rw [hA]; exact s.accepted_link_notices l i tag _
  have states : ∀ i, (A.link i).state = (s.link i).state := fun i => by rw [hA]; exact s.accepted_link_state l i tag _
  refine ⟨_, congrArg Host.Outcome.next ((State.serve_asked asked rfl _).trans (hA ▸ taken)),
    (State.answer_claims _ _ _ _).trans claims, queue, position, settings, acc, integral, fun empty => ?_,
    fun g rest run => ?_, fun active => ?_, fun g mem => ?_, fun active issuers room => ?_, fun x other => ?_, replies, frame⟩
  · rw [answered.unit, State.lockTaken_unit_idle (by rw [unit]; exact empty), unit]
    exact ⟨rfl, rfl, rfl⟩
  · rw [answered.unit, State.lockTaken_unit_running (by rw [unit]; exact run), unit]
    cases g.endAction <;> simp [MotionUnit.endAction, MotionUnit.settle, MotionUnit.holdAt, MotionUnit.holdPosition]
  · have still := ((A.unitWork_endQueue p .takenOver .takenOver).links l.other).state.trans ((states _).trans active)
    rw [State.answer_link_notices, State.lockTaken_notices, if_pos rfl, unit]
    exact (Link.pushEvent_arrives _ still).symm.imp And.right id
  · subst hA
    exact State.sendsEnd_answered (State.lockTaken_links _ l p _) ((State.unitWork_endQueue _ p _ _).links.sendsEnd_before
      (State.endQueue_lockTaken_links _ l p _) (State.sendsEnd_endQueue (s := s.accepted l tag 0x20) mem rfl)) _ _ _
  · rw [← unit, ← notices] at room
    rw [← unit] at issuers
    rw [State.answer_link_notices, ← notices, ← unit]
    exact State.lockTaken_told ((states _).trans active) issuers room 0x20
  · rw [answered.unit, State.lockTaken_unit_ne _ l other, unit]

end Sys2Proof.Machine
end

section
/-! The supply monitor: the operations of the clip store, the sound engine and the links leave it as it is (R113). -/

namespace Sys2Proof.Machine

theorem State.foldl_supply {β : Type} {f : State → β → State} (h : ∀ t x, (f t x).supply = t.supply) (xs : List β)
    (s : State) : (xs.foldl f s).supply = s.supply :=
  foldl_induct (R := fun s t => State.supply t = s.supply) (fun _ => rfl) (fun a b => b.trans a) xs
    (fun t x _ => h t x) s

/-! ## The store arbiter (R157, R164) -/

theorem State.grantRead_supply {s t : State} (h : s.grantRead = some t) : t.supply = s.supply := by
  obtain ⟨v, f, -, -, rfl⟩ | ⟨r, rest, -, -, rfl⟩ := State.grantRead_cases h <;> rfl

@[simp] theorem State.grantRead_getD_supply (s : State) : (s.grantRead.getD s).supply = s.supply := by
  cases h : s.grantRead with
  | none => rfl
  | some t => exact State.grantRead_supply h

@[simp] theorem State.readArrives_supply (s : State) : s.readArrives.supply = s.supply := by
  unfold State.readArrives
  split
  · simp
  · simp
  · split <;> rfl
  · rfl
  · rfl

@[simp] theorem State.placeFetch_supply (s : State) (v : VoiceId) : (s.placeFetch v).supply = s.supply := by
  unfold State.placeFetch
  split
  · rfl
  · split <;> simp

@[simp] theorem State.withdrawFetch_supply (s : State) (v : VoiceId) : (s.withdrawFetch v).supply = s.supply := rfl

@[simp] theorem State.withdrawPending_supply (s : State) (v : VoiceId) : (s.withdrawPending v).supply = s.supply := rfl

@[simp] theorem State.placeRead_supply (s : State) (r : ClipRead) : (s.placeRead r).supply = s.supply := by
  simp [State.placeRead]

@[simp] theorem State.fetchInto_supply (s : State) (v : VoiceId) (h : Half) (block : Nat) :
    (s.fetchInto v h block).supply = s.supply := by
  simp [State.fetchInto]

@[simp] theorem State.fetchNext_supply (s : State) (v : VoiceId) : (s.fetchNext v).supply = s.supply := by
  unfold State.fetchNext
  extract_lets x
  split
  · split <;> simp
  · rfl

@[simp] theorem State.fetchDone_supply (s : State) (v : VoiceId) (f : Fetch) : (s.fetchDone v f).supply = s.supply := by
  unfold State.fetchDone
  extract_lets x filled y t
  split
  · split <;> simp [t]
  · simp

/-! ## Jobs (R148, R149, R155) -/

@[simp] theorem State.queueJob_supply (s : State) (j : Job) : (s.queueJob j).supply = s.supply := rfl

@[simp] theorem State.beginOp_supply (s : State) (op : ArrayOp) : (s.beginOp op).supply = s.supply := rfl

@[simp] theorem State.startJob_supply (s : State) : s.startJob.supply = s.supply := by
  unfold State.startJob
  split
  · split <;> simp
  · rfl

@[simp] theorem State.completeJob_supply (s : State) : s.completeJob.supply = s.supply := by
  unfold State.completeJob
  split
  · extract_lets t
    split
    · simp [t]
    · split; simp [t]
  · rfl

@[simp] theorem State.goOn_supply (s : State) : s.goOn.supply = s.supply := by
  obtain ⟨t, h, e⟩ | ⟨-, ⟨-, e⟩ | ⟨-, op, rest, -, e⟩ | ⟨-, -, e⟩⟩ := State.goOn_cases s
  · rw [e]; exact State.grantRead_supply h
  · rw [e]; rfl
  · rw [e]; rfl
  · rw [e, State.modStore_supply]; split <;> simp

@[simp] theorem State.finishOp_supply (s : State) (op : ArrayOp) : (s.finishOp op).supply = s.supply := rfl

@[simp] theorem State.opComplete_supply (s : State) (op : ArrayOp) : (s.opComplete op).supply = s.supply := by
  unfold State.opComplete
  extract_lets t u
  split
  · rw [State.goOn_supply]
    simp only [u]
    split <;> simp [t]
  · simp [t]

@[simp] theorem State.abandonClip_supply (s : State) (id : Nat) : (s.abandonClip id).supply = s.supply := by
  unfold State.abandonClip
  rw [State.modStore_supply]
  exact (State.foldl_supply (fun t j => by simp) _ _).trans (by simp)

@[simp] theorem State.dropStoreWork_supply (s : State) (l : LinkId) : (s.dropStoreWork l).supply = s.supply := by
  unfold State.dropStoreWork
  rw [State.modStore_supply]
  split
  · split <;> simp
  · rfl

/-! ## Voices (R162 to R168) -/

@[simp] theorem State.endVoice_supply (s : State) (v : VoiceId) (o : VoiceOutcome) :
    (s.endVoice v o).supply = s.supply := by
  unfold State.endVoice
  extract_lets x t
  split <;> simp [t]

@[simp] theorem State.endVoices_supply (s : State) (o : VoiceOutcome) : (s.endVoices o).supply = s.supply :=
  State.foldl_supply (fun t v => by split <;> simp) _ s

@[simp] theorem State.orphanVoices_supply (s : State) (l : LinkId) : (s.orphanVoices l).supply = s.supply := by
  refine State.foldl_supply (fun t v => ?_) _ s
  extract_lets x u
  split
  · split
    · split <;> simp [u]
    · simp [u]
  · rfl

theorem State.allocate_supply {s t : State} {priority : Nat} {v : VoiceId} (h : s.allocate priority = some (v, t)) :
    t.supply = s.supply := by
  unfold State.allocate at h
  split at h
  · cases h; rfl
  · obtain ⟨w, -, e⟩ := Option.map_eq_some_iff.mp h
    cases e
    simp

@[simp] theorem State.startVoice_supply (s : State) (v : VoiceId) (make : BitVec 32 → Voice) :
    (s.startVoice v make).supply = s.supply := rfl

@[simp] theorem State.startClip_supply (s : State) (v : VoiceId) (a : Start) (rate : Nat) (e : DirEntry) :
    (s.startClip v a rate e).supply = s.supply := by
  simp [State.startClip]

@[simp] theorem State.startTone_supply (s : State) (v : VoiceId) (a : Start) (freq duration : Nat) :
    (s.startTone v a freq duration).supply = s.supply := rfl

@[simp] theorem State.enterHalf_supply (s : State) (v : VoiceId) (h : Half) : (s.enterHalf v h).supply = s.supply := by
  unfold State.enterHalf
  extract_lets x
  split <;> simp

@[simp] theorem State.underrunVoice_supply (s : State) (v : VoiceId) (block : Nat) :
    (s.underrunVoice v block).supply = s.supply := by
  unfold State.underrunVoice
  extract_lets x t
  split <;> simp [t]

@[simp] theorem State.stepClip_supply (s : State) (v : VoiceId) (f : ClipFormat) (n : Nat) (region : Option (Nat × Nat)) :
    (s.stepClip v f n region).1.supply = s.supply := by
  unfold State.stepClip
  extract_lets x index
  split
  · simp
  · extract_lets t y term
    split
    extract_lets u
    split
    · simp [u, t]
    · split <;> simp [u, t]

@[simp] theorem State.stepTone_supply (s : State) (v : VoiceId) (freq : Nat) :
    (s.stepTone v freq).1.supply = s.supply := by
  unfold State.stepTone
  extract_lets x term t
  simp only
  split <;> simp [t]

@[simp] theorem State.stepVoice_supply (s : State) (v : VoiceId) : (s.stepVoice v).1.supply = s.supply := by
  unfold State.stepVoice
  split <;> simp

theorem State.stepVoices_supply (s : State) : s.stepVoices.1.supply = s.supply :=
  foldl_induct (R := fun (p q : State × Int) => q.1.supply = p.1.supply) (fun _ => rfl) (fun a b => b.trans a) VoiceId.all
    (fun p v _ => by simp) (s, 0)

@[simp] theorem State.outputSampleStep_supply (s : State) : s.outputSampleStep.supply = s.supply := by
  simp [State.outputSampleStep, State.stepVoices_supply]

/-! ## Requests and events of the store and the sound engine -/

@[simp] theorem State.refuseAtPointer_supply (s : State) (r : ReplyTo) : (s.refuseAtPointer r).supply = s.supply := by
  unfold State.refuseAtPointer
  split <;> simp

@[simp] theorem State.clipBeginBody_supply (s : State) (r : ReplyTo) (ps : List Byte) :
    (s.clipBeginBody r ps).supply = s.supply := by
  unfold State.clipBeginBody
  split <;> simp

@[simp] theorem State.clipDataBody_supply (s : State) (r : ReplyTo) (ps : List Byte) :
    (s.clipDataBody r ps).supply = s.supply := by
  unfold State.clipDataBody
  extract_lets
  split
  · simp
  · split
    · simp
    · simp
    · split <;> simp

@[simp] theorem State.clipEndBody_supply (s : State) (r : ReplyTo) (ps : List Byte) :
    (s.clipEndBody r ps).supply = s.supply := by
  unfold State.clipEndBody
  extract_lets
  repeat' split
  all_goals simp

@[simp] theorem State.clipDeleteBody_supply (s : State) (r : ReplyTo) (ps : List Byte) :
    (s.clipDeleteBody r ps).supply = s.supply := by
  unfold State.clipDeleteBody
  extract_lets
  repeat' split
  all_goals simp

@[simp] theorem State.clipInfoBody_supply (s : State) (r : ReplyTo) (ps : List Byte) (guardHigh : Bool) :
    (s.clipInfoBody r ps guardHigh).supply = s.supply := by
  unfold State.clipInfoBody
  repeat' split
  all_goals simp

@[simp] theorem State.clipReadBody_supply (s : State) (r : ReplyTo) (ps : List Byte) :
    (s.clipReadBody r ps).supply = s.supply := by
  unfold State.clipReadBody
  extract_lets
  repeat' split
  all_goals simp

@[simp] theorem State.setProtectBody_supply (s : State) (r : ReplyTo) (ps : List Byte) (guardHigh : Bool) :
    (s.setProtectBody r ps guardHigh).supply = s.supply := by
  unfold State.setProtectBody
  extract_lets
  split
  · simp
  · extract_lets
    repeat' split
    all_goals simp

@[simp] theorem State.cleanupStartStep_supply (s : State) : s.cleanupStartStep.supply = s.supply := by
  unfold State.cleanupStartStep
  split
  · split <;> simp
  · rfl

@[simp] theorem State.arrayReadCompleteStep_supply (s : State) : s.arrayReadCompleteStep.supply = s.supply := by
  unfold State.arrayReadCompleteStep
  split
  · extract_lets t u w
    have served : u.supply = s.supply := by
      simp only [u]
      split <;> simp [t]
    split <;> simp [w, served]
  · rfl

@[simp] theorem State.playBody_supply (s : State) (r : ReplyTo) (ps : List Byte) : (s.playBody r ps).supply = s.supply := by
  unfold State.playBody
  split
  · simp
  · extract_lets priority
    split
    · simp
    · rename_i v t h
      have := State.allocate_supply h
      split <;> simp [this]

@[simp] theorem State.stopVoiceBody_supply (s : State) (r : ReplyTo) (ps : List Byte) :
    (s.stopVoiceBody r ps).supply = s.supply := by
  unfold State.stopVoiceBody
  split
  · simp
  · rw [State.answer_supply]
    split <;> simp

@[simp] theorem State.setVolumeBody_supply (s : State) (r : ReplyTo) (ps : List Byte) :
    (s.setVolumeBody r ps).supply = s.supply := by
  simp [State.setVolumeBody]

/-! ## Requests of the links and the supply monitor -/

@[simp] theorem State.selFallStep_supply (s : State) (l : LinkId) : (s.selFallStep l).supply = s.supply := by
  unfold State.selFallStep
  split <;> simp

@[simp] theorem State.setLinkBody_supply (s : State) (r : ReplyTo) (ps : List Byte) :
    (s.setLinkBody r ps).supply = s.supply := by
  unfold State.setLinkBody
  extract_lets
  split <;> simp

@[simp] theorem State.clearFlagsBody_supply (s : State) (r : ReplyTo) (ps : List Byte) :
    (s.clearFlagsBody r ps).supply = s.supply := by
  unfold State.clearFlagsBody
  split <;> simp

theorem State.take_supply {s t : State} {l : LinkId} {req : Request} (h : s.take l req = some t) :
    t.supply = s.supply := by
  unfold State.take at h
  split at h
  · cases h
  · split at h
    · cases h; rfl
    · cases h

@[simp] theorem State.unknownStep_supply (s : State) (l : LinkId) (tag code : Byte) (ps : List Byte) :
    (s.unknownStep l tag code ps).supply = s.supply := by
  unfold State.unknownStep
  split
  · split
    · rename_i h; simp [State.take_supply h]
    · rfl
  · rfl

@[simp] theorem State.codelessStep_supply (s : State) (l : LinkId) (tag : Byte) :
    (s.codelessStep l tag).supply = s.supply := by
  unfold State.codelessStep
  split
  · rename_i h; simp [State.take_supply h]
  · rfl

@[simp] theorem State.startWarning_supply (s : State) : s.startWarning.supply = s.supply := by
  unfold State.startWarning
  split
  · rfl
  · split
    · rfl
    · split
      · rename_i h; simp [State.allocate_supply h]
      · rfl

theorem State.warningTimerStep_supplyState (s : State) : s.warningTimerStep.supply.state = s.supply.state := by
  unfold State.warningTimerStep
  split <;> simp

theorem State.setSupplyBody_supplyState (s : State) (r : ReplyTo) (ps : List Byte) :
    (s.setSupplyBody r ps).supply.state = s.supply.state := by
  unfold State.setSupplyBody
  extract_lets m w wGiven new clamped
  split
  · simp
  · split <;> simp [new, m]

end Sys2Proof.Machine
end

section
/-! A stopped machine at rest (R75, R77): the operations of the units, the pairs, the subscription table and the claim
step keep it at rest, since with no segment queued they move no motor. -/

namespace Sys2Proof.Machine

/-! ## Rest (R75, R77) -/

/-- The units are HALTED or the supply is in BROWNOUT. -/
def State.Stopped (s : State) : Prop := (s.unit .p1).halted = true ∨ s.supply.state = .brownout

/-- A unit with no segment and no duty, its motor COASTING or BRAKING. -/
structure MotionUnit.Idle (m : MotionUnit) : Prop where
  queue : m.queue = []
  duty : m.reg.duty = 0
  motor : m.motor = .coasting ∨ m.motor = .braking

/-- Every unit is idle and no pair has a segment. -/
structure State.AtRest (s : State) : Prop where
  units : ∀ p, (s.unit p).Idle
  pairs : ∀ q r, s.pairAt q = some r → r.queue = []

/-- HALTED is a state of all units together. -/
def State.HaltedAlike (s : State) : Prop := ∀ p, (s.unit p).halted = (s.unit .p1).halted

/-- A stopped machine as the invariant has it. -/
structure State.Resting (s : State) : Prop where
  alike : s.HaltedAlike
  stopped : s.Stopped
  rest : s.AtRest

theorem State.haltInv_iff {s : State} : s.haltInv ↔ s.HaltedAlike ∧ (s.Stopped → s.AtRest) := by
  constructor
  · intro ⟨alike, rest⟩
    refine ⟨fun p => alike p (Port.mem_all p), fun stopped => ?_⟩
    obtain ⟨units, pairs⟩ := rest stopped
    refine ⟨fun p => ?_, fun q r e => pairs q (PairId.mem_all q) r e⟩
    obtain ⟨queue, duty, motor⟩ := units p (Port.mem_all p)
    exact ⟨queue, duty, motor⟩
  · intro ⟨alike, rest⟩
    refine ⟨fun p _ => alike p, fun stopped => ⟨fun p _ => ?_, fun q _ r e => (rest stopped).pairs q r e⟩⟩
    obtain ⟨queue, duty, motor⟩ := (rest stopped).units p
    exact ⟨queue, duty, motor⟩

/-- A unit that is not above its ceiling is not reduced to it (R90). -/
theorem MotionUnit.reduceDuty_idle {m : MotionUnit} (h : m.Idle) {c : Int} (limit : 0 ≤ m.settings.dutyLimit)
    (supply : 0 ≤ c) : (m.reduceDuty c).Idle := by
  have within : ¬ ceilingOf m.settings.dutyLimit c < mag m.reg.duty := by
    rw [h.duty]
    simp only [ceilingOf, mag]
    omega
  simpa [MotionUnit.reduceDuty, within] using h

theorem State.AtRest.of_tables {s t : State} (h : s.AtRest) (e : t.tables = s.tables) : t.AtRest := by
  have motion : t.motion = s.motion := congrArg Tables.motion e
  have pairs : t.pairs = s.pairs := congrArg Tables.pairs e
  refine ⟨fun p => ?_, fun q r g => h.pairs q r ?_⟩
  · rw [State.unit, motion]; exact h.units p
  · rwa [State.pairAt, pairs] at g

/-! ## Steps that keep the halt state and the supply state -/

/-- The halt state of every unit and the supply state stay. -/
structure State.KeepsMode (s t : State) : Prop where
  halted : ∀ p, (t.unit p).halted = (s.unit p).halted
  supply : t.supply.state = s.supply.state

theorem State.KeepsMode.refl (s : State) : s.KeepsMode s := ⟨fun _ => rfl, rfl⟩

theorem State.KeepsMode.trans {s t u : State} (a : s.KeepsMode t) (b : t.KeepsMode u) : s.KeepsMode u :=
  ⟨fun p => (b.halted p).trans (a.halted p), b.supply.trans a.supply⟩

theorem State.KeepsMode.stopped_iff {s t : State} (h : s.KeepsMode t) : t.Stopped ↔ s.Stopped := by
  rw [State.Stopped, State.Stopped, h.halted, h.supply]

theorem State.KeepsMode.alike {s t : State} (h : s.KeepsMode t) (a : s.HaltedAlike) : t.HaltedAlike := fun p => by
  rw [h.halted, h.halted, a p]

theorem State.LinkWork.keepsMode {s t : State} (h : s.LinkWork t) : s.KeepsMode t :=
  ⟨fun p => by rw [h.unit], by rw [h.frame]⟩

theorem State.PairWork.keepsMode {q : PairId} {s t : State} (h : s.PairWork q t) : s.KeepsMode t :=
  ⟨fun p => by rw [h.kept p], by rw [h.frame]⟩

theorem State.keepsMode_setUnit (s : State) (p : Port) {m : MotionUnit} (h : m.halted = (s.unit p).halted) :
    s.KeepsMode (s.setUnit p m) := by
  refine ⟨fun x => ?_, rfl⟩
  rw [State.setUnit_unit]
  split
  · rename_i e; subst e; exact h
  · rfl

theorem State.keepsMode_modUnit (s : State) (p : Port) {f : MotionUnit → MotionUnit}
    (h : (f (s.unit p)).halted = (s.unit p).halted) : s.KeepsMode (s.modUnit p f) := s.keepsMode_setUnit p h

theorem MotionUnit.endAction_halted (m : MotionUnit) (a : EndAction) (position : BitVec 32) (creep : Int) :
    (m.endAction a position creep).halted = m.halted := by rw [MotionUnit.endAction_kept]

theorem State.keepsMode_endQueue (s : State) (p : Port) (a w : SegOutcome) : s.KeepsMode (s.endQueue p a w) := by
  refine ⟨fun x => ?_, by rw [(s.unitWork_endQueue p a w).frame]⟩
  by_cases e : x = p
  · subst e; rw [State.endQueue_unit]
  · rw [(s.unitWork_endQueue p a w).unit_ne e]

theorem State.keepsMode_abortSegment (s : State) (p : Port) (o : SegOutcome) : s.KeepsMode (s.abortSegment p o) := by
  cases h : (s.unit p).queue with
  | nil => unfold State.abortSegment; rw [h]; exact .refl s
  | cons g rest =>
    rw [State.abortSegment_of_cons h]
    exact (s.keepsMode_endQueue p o .flushed).trans (State.keepsMode_modUnit _ p (MotionUnit.endAction_halted _ _ _ _))

theorem State.keepsMode_activate (s : State) (p : Port) (prev : Option Bool) : s.KeepsMode (s.activate p prev) := by
  unfold State.activate
  split
  · exact .refl s
  · rename_i g rest h
    refine State.KeepsMode.trans (t := s.modUnit p fun m => { m with act := some (s.activation p g) })
      (s.keepsMode_modUnit p rfl) ?_
    split
    · exact State.keepsMode_modUnit _ p rfl
    · exact State.keepsMode_abortSegment _ p _

theorem State.keepsMode_finishSegment (s : State) (p : Port) (o : SegOutcome) : s.KeepsMode (s.finishSegment p o) := by
  unfold State.finishSegment
  split
  · exact .refl s
  · exact s.keepsMode_abortSegment p o
  · rename_i g rest _ h
    exact ((s.linkWork_endNotice p none g o (s.elapsed p)).keepsMode.trans (State.keepsMode_modUnit _ p rfl)).trans
      (State.keepsMode_activate _ p _)

theorem State.keepsMode_stallPort (s : State) (p : Port) (g : Segment) : s.KeepsMode (s.stallPort p g) := by
  unfold State.stallPort
  split
  · exact s.keepsMode_modUnit p rfl
  · exact s.keepsMode_finishSegment p _
  · exact s.keepsMode_abortSegment p _

theorem MotionUnit.rampStage_halted (m : MotionUnit) (g : Segment) (phase : Phase) (dir d : Int) :
    (m.rampStage g phase dir d).1.halted = m.halted := by
  unfold MotionUnit.rampStage
  split <;> rfl

theorem State.keepsMode_regulatePort (s : State) (p : Port) (g : Segment) (a : Activation) (d : Int) (count : Nat) :
    s.KeepsMode (s.regulatePort p g a d count) := by
  unfold State.regulatePort
  extract_lets m
  split
  rename_i phase dir _
  extract_lets count'
  split
  rename_i m1 target ramped
  have kept : m1.halted = (s.unit p).halted := by
    have := MotionUnit.rampStage_halted (s.unit p) g phase dir d
    rwa [show (s.unit p).rampStage g phase dir d = (m1, target) from ramped] at this
  extract_lets m2 timer a' t
  have work : s.KeepsMode t := s.keepsMode_setUnit p kept
  split
  · exact work.trans (t.keepsMode_stallPort p g)
  · exact work

theorem State.keepsMode_placeSegment (s : State) (p : Port) (g : Segment) (replace : Bool) (taken : Option Segment) :
    s.KeepsMode (s.placeSegment p g replace taken) := by
  unfold State.placeSegment
  extract_lets held prev
  split
  · exact ((s.keepsMode_endQueue p _ _).trans (State.keepsMode_modUnit _ p rfl)).trans (State.keepsMode_activate _ p _)
  · exact s.keepsMode_modUnit p rfl

/-! ## Steps that keep a stopped machine at rest -/

/-- The halt and supply states stay, and a stopped machine at rest stays at rest. -/
structure State.KeepsRest (s t : State) : Prop where
  mode : s.KeepsMode t
  rest : s.Resting → t.AtRest

theorem State.KeepsRest.refl (s : State) : s.KeepsRest s := ⟨.refl s, State.Resting.rest⟩

theorem State.KeepsRest.resting {s t : State} (h : s.KeepsRest t) (r : s.Resting) : t.Resting :=
  ⟨h.mode.alike r.alike, h.mode.stopped_iff.mpr r.stopped, h.rest r⟩

theorem State.KeepsRest.trans {s t u : State} (a : s.KeepsRest t) (b : t.KeepsRest u) : s.KeepsRest u :=
  ⟨a.mode.trans b.mode, fun r => b.rest (a.resting r)⟩

theorem State.KeepsRest.haltInv {s t : State} (h : s.KeepsRest t) (i : s.haltInv) : t.haltInv := by
  obtain ⟨alike, rest⟩ := State.haltInv_iff.mp i
  refine State.haltInv_iff.mpr ⟨h.mode.alike alike, fun stopped => ?_⟩
  have stopped := h.mode.stopped_iff.mp stopped
  exact h.rest ⟨alike, stopped, rest stopped⟩

/-- A machine that is not stopped at rest may move. -/
theorem State.KeepsMode.moving {s t : State} (h : s.KeepsMode t) (m : ¬ s.Resting) : s.KeepsRest t :=
  ⟨h, fun r => absurd r m⟩

theorem State.not_resting_of_queue {s : State} {p : Port} {g : Segment} {rest : List Segment}
    (h : (s.unit p).queue = g :: rest) : ¬ s.Resting := fun r => by
  have := (r.rest.units p).queue
  rw [h] at this
  cases this

theorem State.not_resting_of_pair {s : State} {q : PairId} {r : PairRec} {g : PairSegment} {rest : List PairSegment}
    (e : s.pairAt q = some r) (h : r.queue = g :: rest) : ¬ s.Resting := fun i => by
  have := i.rest.pairs q r e
  rw [h] at this
  cases this

theorem State.keepsRest_of_motion {s t : State} (motion : t.motion = s.motion) (pairs : t.pairs = s.pairs)
    (supply : t.supply.state = s.supply.state) : s.KeepsRest t := by
  have unit (p : Port) : t.unit p = s.unit p := congrArg (Six.get · p) motion
  refine ⟨⟨fun p => by rw [unit], supply⟩, fun r => ⟨fun p => unit p ▸ r.rest.units p, fun q x e => ?_⟩⟩
  exact r.rest.pairs q x ((congrArg (Three.get · q) pairs).symm.trans e)

theorem State.keepsRest_of_tables {s t : State} (h : t.tables = s.tables) (supply : t.supply.state = s.supply.state) :
    s.KeepsRest t :=
  State.keepsRest_of_motion (congrArg Tables.motion h) (congrArg Tables.pairs h) supply

theorem State.LinkWork.keepsRest {s t : State} (h : s.LinkWork t) : s.KeepsRest t :=
  State.keepsRest_of_motion h.motion h.pairs (by rw [h.frame])

theorem State.keepsRest_setUnit (s : State) (p : Port) {m : MotionUnit} (halted : m.halted = (s.unit p).halted)
    (idle : (s.unit p).Idle → m.Idle) : s.KeepsRest (s.setUnit p m) := by
  refine ⟨s.keepsMode_setUnit p halted, fun r => ⟨fun x => ?_, r.rest.pairs⟩⟩
  rw [State.setUnit_unit]
  split
  · exact idle (r.rest.units p)
  · exact r.rest.units x

theorem State.keepsRest_modUnit (s : State) (p : Port) {f : MotionUnit → MotionUnit}
    (halted : (f (s.unit p)).halted = (s.unit p).halted) (idle : (s.unit p).Idle → (f (s.unit p)).Idle) :
    s.KeepsRest (s.modUnit p f) := s.keepsRest_setUnit p halted idle

/-- A pair's record is written: it is freed, or its queue is as short as it was. -/
theorem State.keepsRest_setPair (s : State) (q : PairId) {x : Option PairRec}
    (h : s.AtRest → ∀ r, x = some r → r.queue = []) : s.KeepsRest (s.setPair q x) := by
  refine ⟨⟨fun _ => rfl, rfl⟩, fun i => ⟨i.rest.units, fun y r e => ?_⟩⟩
  rw [State.setPair_pairAt] at e
  split at e
  · exact h i.rest r e
  · exact i.rest.pairs y r e

theorem State.keepsRest_modPort (s : State) (p : Port) (f : PortUnit → PortUnit) : s.KeepsRest (s.modPort p f) :=
  State.keepsRest_of_motion rfl rfl rfl

theorem State.keepsRest_setStreams (s : State) (es : List StreamEntry) : s.KeepsRest (s.setStreams es) :=
  State.keepsRest_of_motion rfl rfl rfl

theorem State.keepsRest_setClaim (s : State) (p : Port) (c : Claim) : s.KeepsRest (s.setClaim p c) :=
  State.keepsRest_of_motion rfl rfl rfl

theorem State.keepsRest_foldl {β : Type} {f : State → β → State} (h : ∀ (t : State) x, t.KeepsRest (f t x)) (xs : List β)
    (s : State) : s.KeepsRest (xs.foldl f s) := foldl_induct .refl .trans xs (fun t x _ => h t x) s

/-! ### Steps put after a step -/

section
variable {s t : State} (h : s.KeepsRest t)
include h

theorem State.KeepsRest.answer (r : ReplyTo) (st : Status) (payload : List Byte) : s.KeepsRest (t.answer r st payload) :=
  h.trans (t.linkWork_answer r st payload).keepsRest

theorem State.KeepsRest.notify (l : LinkId) (n : Notice) : s.KeepsRest (t.notify l n) :=
  h.trans (State.keepsRest_of_motion rfl rfl rfl)

theorem State.KeepsRest.notifyAll (n : Notice) : s.KeepsRest (t.notifyAll n) :=
  h.trans (State.keepsRest_of_motion rfl rfl rfl)

theorem State.KeepsRest.setClaim (p : Port) (c : Claim) : s.KeepsRest (t.setClaim p c) :=
  h.trans (t.keepsRest_setClaim p c)

theorem State.KeepsRest.modPort (p : Port) (f : PortUnit → PortUnit) : s.KeepsRest (t.modPort p f) :=
  h.trans (t.keepsRest_modPort p f)

end

theorem State.keepsRest_answer (s : State) (r : ReplyTo) (st : Status) (payload : List Byte) :
    s.KeepsRest (s.answer r st payload) := (s.linkWork_answer r st payload).keepsRest

/-! ## Motion units -/

theorem State.keepsRest_endQueue (s : State) (p : Port) (a w : SegOutcome) : s.KeepsRest (s.endQueue p a w) := by
  refine ⟨s.keepsMode_endQueue p a w, fun r => ?_⟩
  rw [State.endQueue_of_nil (r.rest.units p).queue]
  exact r.rest

theorem State.keepsRest_finishSegment (s : State) (p : Port) (o : SegOutcome) : s.KeepsRest (s.finishSegment p o) := by
  cases h : (s.unit p).queue with
  | nil => unfold State.finishSegment; rw [h]; exact .refl s
  | cons g rest => exact (s.keepsMode_finishSegment p o).moving (State.not_resting_of_queue h)

theorem State.keepsRest_abortSegment (s : State) (p : Port) (o : SegOutcome) : s.KeepsRest (s.abortSegment p o) := by
  cases h : (s.unit p).queue with
  | nil => unfold State.abortSegment; rw [h]; exact .refl s
  | cons g rest => exact (s.keepsMode_abortSegment p o).moving (State.not_resting_of_queue h)

theorem State.keepsRest_settle (s : State) (p : Port) {state : MotorState} (h : state = .coasting ∨ state = .braking) :
    s.KeepsRest (s.modUnit p (·.settle state)) := s.keepsRest_modUnit p rfl fun i => ⟨i.queue, rfl, h⟩

theorem State.keepsRest_settleUnit (s : State) (p : Port) {state : MotorState} (h : state = .coasting ∨ state = .braking) :
    s.KeepsRest (s.settleUnit p state) := by
  refine s.keepsRest_settle p ?_
  split
  · exact h
  · exact .inl rfl

theorem State.keepsRest_regulateSingle (s : State) (p : Port) : s.KeepsRest (s.regulateSingle p) := by
  unfold State.regulateSingle
  extract_lets m
  split
  · rename_i g rest a _ queue _
    have moving : ¬ s.Resting := State.not_resting_of_queue queue
    extract_lets d count
    split
    · exact s.keepsRest_finishSegment p _
    · split
      · exact (s.keepsMode_regulatePort p _ _ _ _).moving moving
      · exact (s.keepsMode_modUnit p (f := fun m => m.dutyPath s.supply g) rfl).moving moving
  · rename_i holding
    refine (s.keepsMode_modUnit p (f := fun m => m.holdRegulate s.supply) rfl).moving fun r => ?_
    have := (r.rest.units p).motor
    simp [show (s.unit p).motor = .holding from holding] at this
  · exact .refl s
  · exact s.keepsRest_modUnit p rfl fun i => ⟨i.queue, rfl, i.motor⟩

/-! ## Pairs -/

theorem State.keepsRest_endPairQueue (s : State) (q : PairId) (a w : SegOutcome) : s.KeepsRest (s.endPairQueue q a w) := by
  refine ⟨(s.pairWork_endPairQueue q a w).keepsMode, fun r => ?_⟩
  cases e : s.pairAt q with
  | none => rw [State.endPairQueue_of_none e]; exact r.rest
  | some x => rw [State.endPairQueue_of_nil e (r.rest.pairs q x e)]; exact r.rest

theorem State.keepsRest_finishPair (s : State) (q : PairId) (o : SegOutcome) : s.KeepsRest (s.finishPair q o) := by
  refine ⟨(s.pairWork_finishPair q o).keepsMode, fun r => ?_⟩
  cases e : s.pairAt q with
  | none => unfold State.finishPair; rw [e]; exact r.rest
  | some x => unfold State.finishPair; rw [e]; simp only [r.rest.pairs q x e]; exact r.rest

theorem State.keepsRest_abortPair (s : State) (q : PairId) (o : SegOutcome) : s.KeepsRest (s.abortPair q o) := by
  refine ⟨(s.pairWork_abortPair q o).keepsMode, fun r => ?_⟩
  cases e : s.pairAt q with
  | none => unfold State.abortPair; rw [e]; exact r.rest
  | some x => unfold State.abortPair; rw [e]; simp only [r.rest.pairs q x e]; exact r.rest

theorem State.keepsRest_settlePair (s : State) (r : PairRec) {state : MotorState}
    (h : state = .coasting ∨ state = .braking) : s.KeepsRest (s.settlePair r state) :=
  (s.keepsRest_settle r.portA h).trans (State.keepsRest_settle _ r.portB h)

theorem State.keepsRest_dissolvePair (s : State) (q : PairId) (o : SegOutcome) : s.KeepsRest (s.dissolvePair q o) := by
  unfold State.dissolvePair
  split
  · exact .refl s
  · exact ((s.keepsRest_endPairQueue q o o).trans (State.keepsRest_settlePair _ _ (.inl rfl))).trans
      (State.keepsRest_setPair _ q fun _ _ h => by cases h)

/-! ## Events taken by every unit and pair -/

theorem State.keepsRest_unitMeets (p : Port) (r : SampleRec) (s : State) (x : Port) : s.KeepsRest (s.unitMeets p r x) := by
  unfold State.unitMeets
  split
  · split
    · exact s.keepsRest_finishSegment x _
    · exact .refl s
  · exact .refl s

theorem State.keepsRest_pairMeets (p : Port) (r : SampleRec) (s : State) (q : PairId) : s.KeepsRest (s.pairMeets p r q) := by
  unfold State.pairMeets
  split
  · split
    · exact s.keepsRest_finishPair q _
    · exact .refl s
  · exact .refl s

theorem State.keepsRest_testConditions (s : State) (p : Port) (r : SampleRec) : s.KeepsRest (s.testConditions p r) := by
  rw [State.testConditions_eq]
  exact (State.keepsRest_foldl (State.keepsRest_unitMeets p r) _ s).trans
    (State.keepsRest_foldl (State.keepsRest_pairMeets p r) _ _)

theorem State.keepsRest_unitLoses (p : Port) (mode : Option Nat) (s : State) (x : Port) :
    s.KeepsRest (s.unitLoses p mode x) := by
  unfold State.unitLoses
  split
  · split
    · exact s.keepsRest_abortSegment x _
    · exact .refl s
  · exact .refl s

theorem State.keepsRest_pairLoses (p : Port) (mode : Option Nat) (s : State) (q : PairId) :
    s.KeepsRest (s.pairLoses p mode q) := by
  unfold State.pairLoses
  repeat' split
  · exact s.keepsRest_abortPair q _
  all_goals exact .refl s

theorem State.keepsRest_sourceLost (s : State) (p : Port) (mode : Option Nat) : s.KeepsRest (s.sourceLost p mode) := by
  rw [State.sourceLost_eq]
  exact (State.keepsRest_foldl (State.keepsRest_unitLoses p mode) _ s).trans
    (State.keepsRest_foldl (State.keepsRest_pairLoses p mode) _ _)

theorem State.keepsRest_detachMotion (s : State) (p : Port) : s.KeepsRest (s.detachMotion p) := by
  unfold State.detachMotion
  split
  · exact s.keepsRest_dissolvePair _ _
  · exact (s.keepsRest_endQueue p _ _).trans (State.keepsRest_settle _ p (.inl rfl))

/-! ## The subscription table and the regulation event -/

theorem State.keepsRest_offerUpdates (s : State) (us : List Update) : s.KeepsRest (s.offerUpdates us) := by
  rw [State.offerUpdates_frame]
  exact State.keepsRest_of_motion rfl rfl rfl

theorem State.keepsRest_removeStreams (s : State) (p : Port) : s.KeepsRest (s.removeStreams p) := by
  rw [State.removeStreams_frame]
  exact State.keepsRest_of_motion rfl rfl rfl

theorem State.keepsRest_offerMotion (s : State) (p : Port) : s.KeepsRest (s.offerMotion p) := by
  unfold State.offerMotion
  split
  · exact s.keepsRest_offerUpdates _
  · exact .refl s

theorem State.keepsRest_regulationStep (s : State) (p : Port) : s.KeepsRest (s.regulationStep p) := by
  unfold State.regulationStep
  extract_lets t u
  have estimated : s.KeepsRest t := s.keepsRest_modUnit p rfl fun i => ⟨i.queue, i.duty, i.motor⟩
  refine (estimated.trans ?_).trans (u.keepsRest_offerMotion p)
  have single : t.KeepsRest (t.regulateSingle p) := t.keepsRest_regulateSingle p
  simp only [u]
  split
  · split
    · rename_i r e
      split
      · rename_i g rest a queue _
        have moving : ¬ t.Resting := State.not_resting_of_pair e queue
        split
        · exact (t.pairWork_regulateLead e _ _).keepsMode.moving moving
        · exact (t.pairWork_regulatePartner e _).keepsMode.moving moving
      · exact single
    · exact single
  · exact single

/-! ## Claims (R45 to R54): what a takeover settles is absent at rest -/

/-- The settlement of the claim step is absent where the machine rests. -/
theorem State.KeepsRest.settleClaim {s t : State} (h : s.KeepsRest t) (p : Port) {e : Option Settlement}
    (none : s.Resting → e = none) : s.KeepsRest (t.settleClaim p e) := by
  unfold State.settleClaim
  split
  · refine State.KeepsMode.moving (h.mode.trans (t.keepsMode_modUnit p (MotionUnit.endAction_halted _ _ _ _))) fun r => ?_
    cases none r
  · exact h

theorem State.keepsRest_claimRule {s t : State} {l : LinkId} {p : Port} {code : Byte} {e : Option Settlement}
    (h : s.claimRule l p code = .ok (t, e)) : s.KeepsRest t ∧ (s.Resting → e = none) := by
  unfold State.claimRule at h
  split at h
  · cases h; exact ⟨s.keepsRest_setClaim p _, fun _ => rfl⟩
  · split at h
    · cases h; exact ⟨.refl s, fun _ => rfl⟩
    · split at h
      · cases h
      · cases h
        exact ⟨((s.keepsRest_endQueue p _ _).setClaim _ _).notify _ _, fun r => by simp [(r.rest.units p).queue]⟩

theorem State.keepsRest_claimPort {s t : State} {l : LinkId} {p : Port} {code : Byte} {e : Option Settlement}
    (h : s.claimPort l p code = .ok (t, e)) : s.KeepsRest t ∧ (s.Resting → e = none) := by
  unfold State.claimPort at h
  repeat' split at h
  · cases h
  · cases h
  · exact State.keepsRest_claimRule h

/-- What a claiming request's own part must meet to keep a stopped machine at rest: it is run after the claim step. -/
def State.BodyKeepsRest (s : State) (body : State → Port → Option Settlement → State) : Prop :=
  ∀ (t : State) p e, s.KeepsRest t → (s.Resting → e = none) → s.KeepsRest (body t p e)

theorem State.keepsRest_claiming (s : State) (r : ReplyTo) (ps : List Byte)
    {body : State → Port → Option Settlement → State} (h : s.BodyKeepsRest body) : s.KeepsRest (s.claiming r ps body) := by
  unfold State.claiming
  split
  · exact s.keepsRest_answer _ _ _
  · rename_i p _
    split
    · exact s.keepsRest_answer _ _ _
    · rename_i t e claim
      obtain ⟨keeps, none⟩ := State.keepsRest_claimPort claim
      exact h t p e keeps none

end Sys2Proof.Machine
end

section
/-! The requests of claims, links, motion units and pairs keep a stopped machine at rest (R45 to R54, R60 to R79, R102 to
R111). -/

namespace Sys2Proof.Machine

theorem State.KeepsRest.settlePairClaim {s t : State} (h : s.KeepsRest t) {q : PairId} {r' r : PairRec}
    (e : t.pairAt q = some r') (ha : r'.portA = r.portA) (hb : r'.portB = r.portB) {x : Option PairSettlement}
    (none : s.Resting → x = none) : s.KeepsRest (t.settlePairClaim r x) := by
  unfold State.settlePairClaim
  split
  · refine State.KeepsMode.moving (h.mode.trans (t.pairWork_pairEndAction e ha hb _ _).keepsMode) fun r => ?_
    cases none r
  · exact h

theorem State.keepsRest_claimPair {s t : State} {l : LinkId} {q : PairId} {r : PairRec} {code : Byte}
    {e : Option PairSettlement} (record : s.pairAt q = some r) (h : s.claimPair l q r code = .ok (t, e)) :
    s.KeepsRest t ∧ (s.Resting → e = none) := by
  unfold State.claimPair at h
  split at h
  · cases h
  · split at h
    · cases h
      exact ⟨(s.keepsRest_setClaim _ _).setClaim _ _, fun _ => rfl⟩
    · split at h
      · cases h; exact ⟨.refl s, fun _ => rfl⟩
      · cases h
        exact ⟨((((s.keepsRest_endPairQueue q _ _).setClaim _ _).setClaim _ _).notify _ _).notify _ _,
          fun i => by simp [i.rest.pairs q r record]⟩

/-- The same for a pair: the pair has a record of the ports the request began with. -/
def State.PairBodyKeepsRest (s : State) (body : State → PairId → PairRec → Option PairSettlement → State) : Prop :=
  ∀ (t : State) q (x : PairRec) e, s.KeepsRest t → (s.Resting → e = none) →
    (∃ x', t.pairAt q = some x' ∧ x'.portA = x.portA ∧ x'.portB = x.portB) → s.KeepsRest (body t q x e)

theorem State.keepsRest_claimingPair (s : State) (r : ReplyTo) (id : Nat)
    {body : State → PairId → PairRec → Option PairSettlement → State} (h : s.PairBodyKeepsRest body) :
    s.KeepsRest (s.claimingPair r id body) := by
  unfold State.claimingPair
  split
  · exact s.keepsRest_answer _ _ _
  · split
    · exact s.keepsRest_answer _ _ _
    · rename_i record
      split
      · exact s.keepsRest_answer _ _ _
      · rename_i claim
        obtain ⟨keeps, none⟩ := State.keepsRest_claimPair record claim
        exact h _ _ _ _ keeps none (State.keepsTables_claimPair record claim).2

theorem State.keepsRest_lockBody (s : State) (r : ReplyTo) (ps : List Byte) : s.KeepsRest (s.lockBody r ps) := by
  unfold State.lockBody
  split
  · refine s.keepsRest_claiming r _ fun t p e keeps none => ?_
    exact ((keeps.setClaim p _).settleClaim p none).answer _ _ _
  · refine s.keepsRest_claimingPair r _ fun t q x e keeps none ⟨x', same, ha, hb⟩ => ?_
    exact (((keeps.setClaim x.portA _).setClaim x.portB _).settlePairClaim (q := q) same ha hb none).answer _ _ _
  · exact s.keepsRest_answer _ _ _

theorem State.keepsRest_unlockBody (s : State) (r : ReplyTo) (ps : List Byte) : s.KeepsRest (s.unlockBody r ps) := by
  unfold State.unlockBody
  split
  · exact s.keepsRest_answer _ _ _
  · exact (s.keepsRest_setClaim _ _).answer _ _ _
  · exact ((s.keepsRest_setClaim _ _).setClaim _ _).answer _ _ _

theorem State.keepsRest_freePort (s : State) (p : Port) (o : SegOutcome) {state : MotorState}
    (h : state = .coasting ∨ state = .braking) : s.KeepsRest (s.freePort p o state) :=
  ((s.keepsRest_endQueue p o o).trans (State.keepsRest_settleUnit _ p h)).setClaim _ _

theorem State.keepsRest_freePair (s : State) (q : PairId) (r : PairRec) (o : SegOutcome) {state : MotorState}
    (h : state = .coasting ∨ state = .braking) : s.KeepsRest (s.freePair q r o state) :=
  (((s.keepsRest_endPairQueue q o o).trans (State.keepsRest_settlePair _ r h)).setClaim _ _).setClaim _ _

theorem State.keepsRest_releaseBody (s : State) (r : ReplyTo) (ps : List Byte) : s.KeepsRest (s.releaseBody r ps) := by
  unfold State.releaseBody
  split
  · exact s.keepsRest_answer _ _ _
  · exact (s.keepsRest_freePort _ _ (.inl rfl)).answer _ _ _
  · exact (s.keepsRest_freePair _ _ _ (.inl rfl)).answer _ _ _

theorem LapseAction.motor_coasts_or_brakes (a : LapseAction) :
    LapseAction.motor a = .coasting ∨ LapseAction.motor a = .braking := by
  cases a
  · exact .inl rfl
  · exact .inr rfl

theorem State.keepsRest_releasePort (s : State) (l : LinkId) (p : Port) : s.KeepsRest (s.releasePort l p) := by
  unfold State.releasePort
  split
  · extract_lets state
    have settles : state = .coasting ∨ state = .braking := LapseAction.motor_coasts_or_brakes _
    split
    · split
      · exact s.keepsRest_freePair _ _ _ settles
      · exact .refl s
    · exact s.keepsRest_freePort p _ settles
  · exact .refl s

/-! ## Links (R180, R181) -/

theorem State.keepsRest_undoLink (s : State) (l : LinkId) : s.KeepsRest (s.undoLink l) := by
  have released : s.KeepsRest (s.releaseClaims l) := State.keepsRest_foldl (fun t p => t.keepsRest_releasePort l p) _ s
  have left : s.KeepsRest ((s.releaseClaims l).leaveStreams l) := released.trans (State.keepsRest_setStreams _ _)
  exact left.trans (State.keepsRest_of_tables (by simp [State.undoLink]) (by simp [State.undoLink]))

theorem State.keepsRest_ageTickStep (s : State) (l : LinkId) : s.KeepsRest (s.ageTickStep l) := by
  unfold State.ageTickStep
  split
  · extract_lets t
    have ticked : s.KeepsRest t := State.keepsRest_of_motion rfl rfl rfl
    split
    · exact ((ticked.trans (State.keepsRest_of_motion
        (t := t.modLink l fun k => { k.emptied with state := .lapsed, ageTimer := none }) rfl rfl rfl)).trans
        (State.keepsRest_undoLink _ l)).notify _ _
    · exact ticked
  · exact .refl s

theorem State.keepsRest_leaveStep (s : State) (r : ReplyTo) : s.KeepsRest (s.leaveStep r) := by
  have emptied : s.KeepsRest (s.modLink r.link Link.emptied) := State.keepsRest_of_motion rfl rfl rfl
  exact (emptied.trans (State.keepsRest_undoLink _ r.link)).trans
    (State.keepsRest_of_tables (by simp [State.leaveStep]) (by simp [State.leaveStep]))

/-! ## Requests of the motion units (R60 to R79) and of the pairs (R102 to R111) -/

/-- An accepted MOVE finds the machine not stopped. -/
theorem State.moveCheck_moving {s : State} {r : ReplyTo} {p : Port} {ps : List Byte} {x : Segment × Bool}
    (h : s.moveCheck r p ps = .ok x) : ¬ s.Resting := fun i => by
  unfold State.moveCheck at h
  repeat' split at h
  all_goals cases h
  rename_i halted brownout _ _
  rcases i.stopped with stopped | stopped
  · exact halted ((i.alike p).trans stopped)
  · exact brownout stopped

theorem State.KeepsRest.moveBody {s t : State} (h : s.KeepsRest t) {e : Option Settlement} (none : s.Resting → e = none)
    (r : ReplyTo) (p : Port) (ps : List Byte) : s.KeepsRest (t.moveBody r p e ps) := by
  unfold State.moveBody
  split
  · exact (h.settleClaim p none).answer _ _ _
  · rename_i given replace check
    extract_lets g u
    have placed : s.KeepsRest u := (h.mode.trans (t.keepsMode_placeSegment p g replace _)).moving
      fun i => State.moveCheck_moving check (h.resting i)
    split
    · exact placed.answer _ _ _
    · exact placed.answer _ _ _

theorem State.keepsMode_stopMotion (s : State) (p : Port) (a : EndAction) : s.KeepsMode (s.stopMotion p a) := by
  unfold State.stopMotion
  exact (s.keepsMode_endQueue p _ _).trans (State.keepsMode_modUnit _ p (MotionUnit.endAction_halted _ _ _ _))

theorem State.KeepsRest.stopBody {s t : State} (h : s.KeepsRest t) {e : Option Settlement} (none : s.Resting → e = none)
    (r : ReplyTo) (p : Port) (ps : List Byte) : s.KeepsRest (t.stopBody r p e ps) := by
  unfold State.stopBody
  split
  · exact (h.settleClaim p none).answer _ _ _
  · split
    · exact h.answer _ _ _
    · rename_i going
      refine State.KeepsRest.answer ((h.mode.trans (t.keepsMode_stopMotion p _)).moving fun i => going ?_) _ _ _
      have i := h.resting i
      exact i.stopped.imp (fun halted => (i.alike p).trans halted) id

theorem State.KeepsRest.setPositionBody {s t : State} (h : s.KeepsRest t) {e : Option Settlement}
    (none : s.Resting → e = none) (r : ReplyTo) (p : Port) (ps : List Byte) : s.KeepsRest (t.setPositionBody r p e ps) := by
  unfold State.setPositionBody
  split
  · exact (h.settleClaim p none).answer _ _ _
  · split
    · exact (h.settleClaim p none).answer _ _ _
    · refine State.KeepsRest.answer (State.KeepsRest.settleClaim (h.trans ?_) p none) _ _ _
      exact t.keepsRest_modUnit p rfl fun i => ⟨i.queue, i.duty, i.motor⟩

theorem State.keepsRest_claimBoth {s t : State} {l : LinkId} {a b : Port} {code : Byte}
    {e : Option Settlement × Option Settlement} (h : s.claimBoth l a b code = .ok (t, e)) :
    s.KeepsRest t ∧ (s.Resting → e.1 = none) ∧ (s.Resting → e.2 = none) := by
  unfold State.claimBoth at h
  repeat' split at h
  all_goals cases h
  rename_i first _ _ second
  obtain ⟨one, noneA⟩ := State.keepsRest_claimRule first
  obtain ⟨two, noneB⟩ := State.keepsRest_claimRule second
  exact ⟨one.trans two, noneA, fun i => noneB (one.resting i)⟩

theorem State.keepsRest_pairBody (s : State) (r : ReplyTo) (ps : List Byte) : s.KeepsRest (s.pairBody r ps) := by
  unfold State.pairBody
  split
  · split
    · exact s.keepsRest_answer _ _ _
    · split
      · exact s.keepsRest_answer _ _ _
      · rename_i a b _ _ _ _ t ea eb claim
        obtain ⟨claimed, noneA, noneB⟩ := State.keepsRest_claimBoth claim
        have settled {u : State} (keeps : s.KeepsRest u) : s.KeepsRest ((u.settleClaim a ea).settleClaim b eb) :=
          (keeps.settleClaim a noneA).settleClaim b noneB
        extract_lets
        split
        · exact (settled claimed).answer _ _ _
        · split
          · exact (settled claimed).answer _ _ _
          · exact (settled (claimed.trans (t.keepsRest_setPair _ fun _ r e => by cases e; rfl))).answer _ _ _
  · exact s.keepsRest_answer _ _ _

theorem State.movePairCheck_moving {s : State} {r : ReplyTo} {x : PairRec} {ps : List Byte} {y : PairSegment × Bool}
    (h : s.movePairCheck r x ps = .ok y) : ¬ s.Resting := fun i => by
  unfold State.movePairCheck at h
  repeat' split at h
  all_goals cases h
  rename_i halted brownout _ _
  rcases i.stopped with stopped | stopped
  · exact halted (.inl ((i.alike _).trans stopped))
  · exact brownout stopped

theorem State.KeepsRest.movePairBody {s t : State} (h : s.KeepsRest t) {q : PairId} {x : PairRec}
    (record : t.pairAt q = some x) {e : Option PairSettlement} (none : s.Resting → e = none) (r : ReplyTo)
    (ps : List Byte) : s.KeepsRest (t.movePairBody r q x e ps) := by
  unfold State.movePairBody
  split
  · exact (h.settlePairClaim record rfl rfl none).answer _ _ _
  · rename_i check
    extract_lets g u
    have placed : s.KeepsRest u := (h.mode.trans (t.pairWork_placePairSegment record g _ _
      (State.movePairCheck_room check)).keepsMode).moving fun i => State.movePairCheck_moving check (h.resting i)
    split
    · exact placed.answer _ _ _
    · exact placed.answer _ _ _

end Sys2Proof.Machine
end

section
/-! The port units keep a stopped machine at rest (chapters 1 and 2). -/

namespace Sys2Proof.Machine

/-! ## Samples, attachment and detachment (R5 to R11, R32) -/

theorem State.keepsRest_answerModes (s : State) (p : Port) (st : Status) : s.KeepsRest (s.answerModes p st) :=
  (s.linkWork_answers _ ModeWait.dest st).keepsRest.modPort p _

theorem State.keepsRest_answerWrites (s : State) (p : Port) (st : Status) : s.KeepsRest (s.answerWrites p st) :=
  (s.linkWork_answers _ WriteReq.dest st).keepsRest.modPort p _

theorem State.keepsRest_offerSample (s : State) (p : Port) : s.KeepsRest (s.offerSample p) := by
  unfold State.offerSample
  split
  · exact (s.keepsRest_offerUpdates _).trans (State.keepsRest_testConditions _ p _)
  · exact .refl s

theorem State.keepsRest_touchSample (s : State) (p : Port) (rxLow : Bool) : s.KeepsRest (s.touchSample p rxLow) :=
  (s.keepsRest_modPort p _).trans (State.keepsRest_offerSample _ p)

theorem State.keepsRest_attach (s : State) (p : Port) : s.KeepsRest (s.modUnit p MotionUnit.attach) :=
  s.keepsRest_modUnit p rfl fun _ => ⟨rfl, rfl, .inl rfl⟩

theorem State.keepsRest_attachPassive (s : State) (p : Port) (level : Level) (rxLow : Bool) :
    s.KeepsRest (s.attachPassive p level rxLow) := by
  unfold State.attachPassive
  extract_lets kind touch t u w
  have attached : s.KeepsRest u := (s.keepsRest_modPort p _).trans (t.keepsRest_attach p)
  refine State.KeepsRest.notifyAll (attached.trans ?_) _
  simp only [w]
  split
  · exact u.keepsRest_touchSample p rxLow
  · exact .refl u

theorem State.keepsRest_attachSerial (s : State) (p : Port) : s.KeepsRest (s.attachSerial p) :=
  (s.keepsRest_modPort p _).trans (State.keepsRest_attach _ p)

theorem State.keepsRest_attachAt (s : State) (p : Port) (level : Level) (rxLow : Bool) :
    s.KeepsRest (s.attachAt p level rxLow) := by
  unfold State.attachAt
  split
  · exact s.keepsRest_attachSerial p
  · exact s.keepsRest_attachPassive p level rxLow

theorem State.keepsRest_detach (s : State) (p : Port) (last : Notice) : s.KeepsRest (s.detach p last) := by
  unfold State.detach
  extract_lets t u
  have answered : s.KeepsRest t :=
    ((s.keepsRest_answerModes p _).trans (State.keepsRest_answerWrites _ p _)).modPort p _
  have gone : t.KeepsRest u := ((t.keepsRest_detachMotion p).trans
    (State.keepsRest_sourceLost _ p none)).trans (State.keepsRest_removeStreams _ p)
  exact (((answered.trans gone).setClaim p .free).modPort p _).notifyAll last

theorem State.keepsRest_faultPort (s : State) (p : Port) (state : PortState) (retry : Option Nat) (n : Notice) :
    s.KeepsRest (s.faultPort p state retry n) := by
  unfold State.faultPort
  extract_lets attached t
  have faulted : s.KeepsRest t := s.keepsRest_modPort p _
  split
  · exact faulted.trans (t.keepsRest_detach p n)
  · exact faulted.notifyAll n

theorem State.keepsRest_failAttempt (s : State) (p : Port) : s.KeepsRest (s.failAttempt p) := by
  unfold State.failAttempt
  split
  · split
    · exact s.keepsRest_faultPort p _ _ _
    · exact s.keepsRest_modPort p _
  · exact .refl s

theorem State.keepsRest_lossOf (s : State) (p : Port) : s.KeepsRest (s.lossOf p) := by
  unfold State.lossOf
  extract_lets t u
  have dropped : s.KeepsRest u := ((s.keepsRest_modPort p _).trans (t.keepsRest_answerModes p _)).modPort p _
  exact (dropped.trans (u.keepsRest_answerWrites p _)).modPort p _

/-! ## Chapter 1: power, probing, faults -/

theorem State.keepsRest_classify (s : State) (p : Port) (level : Level) (rxLow : Bool) :
    s.KeepsRest (s.classify p level rxLow) := by
  unfold State.classify
  extract_lets t
  have classified : s.KeepsRest t := s.keepsRest_modPort p _
  have detached : s.KeepsRest (t.detachPort p) := classified.trans (t.keepsRest_detach p _)
  have attach {u : State} (h : s.KeepsRest u) : s.KeepsRest (u.attachAt p level rxLow) :=
    h.trans (u.keepsRest_attachAt p level rxLow)
  split
  · split
    · exact classified.modPort p _
    · exact attach classified
  · split
    · exact classified
    · exact attach classified
  · split
    · exact detached.modPort p _
    · exact attach detached
  iterate 2
    split
    · exact detached.modPort p _
    · split
      · exact classified
      · exact attach detached
  iterate 2 exact classified

theorem State.keepsRest_probeStep (s : State) (p : Port) (level : Level) (rxLow : Bool) :
    s.KeepsRest (s.probeStep p level rxLow) := by
  unfold State.probeStep
  split
  · extract_lets t
    have read : s.KeepsRest t := s.keepsRest_modPort p _
    split
    · exact read.trans (t.keepsRest_classify p level rxLow)
    · split
      · exact read.trans (t.keepsRest_touchSample p rxLow)
      · exact read
  · exact .refl s

theorem State.keepsRest_tripStep (s : State) (p : Port) : s.KeepsRest (s.tripStep p) := by
  unfold State.tripStep
  split
  · extract_lets kept
    split
    · exact (s.keepsRest_modPort p _).trans (State.keepsRest_faultPort _ p _ _ _)
    · exact (s.keepsRest_modPort p _).trans (State.keepsRest_faultPort _ p _ _ _)
  · exact .refl s

theorem State.keepsRest_portResetBody (s : State) (r : ReplyTo) (ps : List Byte) : s.KeepsRest (s.portResetBody r ps) := by
  unfold State.portResetBody
  split
  · exact s.keepsRest_answer _ _ _
  · refine State.KeepsRest.answer ?_ _ _ _
    split
    · exact s.keepsRest_modPort _ _
    · exact .refl s

/-! ## Chapter 2: messages, handshakes, modes and writes -/

theorem State.keepsRest_logAndTap (s : State) (p : Port) (o : MsgOutcome) (bs : List Byte) :
    s.KeepsRest (s.logAndTap p o bs) := by
  unfold State.logAndTap
  extract_lets u t
  have logged : s.KeepsRest t := State.keepsRest_of_motion rfl rfl rfl
  split
  · split
    · exact logged.notify _ _
    · exact logged
  · exact logged

theorem State.keepsRest_endWrite (s : State) (p : Port) (st : Status) : s.KeepsRest (s.endWrite p st) := by
  unfold State.endWrite
  split
  · exact (s.keepsRest_answer _ st []).modPort p _
  · exact .refl s

theorem State.keepsRest_modeChanged (s : State) (p : Port) (old : Option Nat) (new : Nat) :
    s.KeepsRest (s.modeChanged p old new) := by
  unfold State.modeChanged
  extract_lets t
  have changed : s.KeepsRest t := State.keepsRest_of_motion rfl rfl rfl
  split
  · exact changed.trans (t.keepsRest_sourceLost p _)
  · exact changed

theorem State.keepsRest_applyData (s : State) (p : Port) (mode : Nat) (m : ModeDesc) (payload : List Byte) :
    s.KeepsRest (s.applyData p mode m payload) := by
  rw [State.applyData_eq]
  exact State.keepsRest_of_motion rfl rfl rfl

theorem State.keepsRest_confirmMode (s : State) (p : Port) (mode : Nat) (m : ModeDesc) (payload : List Byte) :
    s.KeepsRest (s.confirmMode p mode m payload) := by
  unfold State.confirmMode
  extract_lets old t u w
  have applied : s.KeepsRest u := ((s.keepsRest_modPort p _).trans (t.keepsRest_applyData p mode m payload)).trans
    (State.keepsRest_answerModes _ p .ok)
  refine State.KeepsRest.trans ?_ (w.keepsRest_offerSample p)
  simp only [w]
  split
  · exact applied
  · exact applied.trans (u.keepsRest_modeChanged p old mode)

theorem State.keepsRest_takeData (s : State) (p : Port) (payload : List Byte) : s.KeepsRest (s.takeData p payload) := by
  unfold State.takeData
  extract_lets u expected
  split
  · split
    · exact s.keepsRest_confirmMode p _ _ payload
    · exact (s.keepsRest_applyData p _ _ _).trans (State.keepsRest_offerSample _ p)
  · exact .refl s

theorem State.keepsRest_actActive (s : State) (p : Port) (o : MsgOutcome) (bs : List Byte) :
    s.KeepsRest (s.actActive p o bs) := by
  unfold State.actActive
  extract_lets t
  have kept : s.KeepsRest t := s.keepsRest_modPort p _
  split
  · exact (kept.modPort p _).trans (State.keepsRest_lossOf _ p)
  · split
    · exact kept.trans (t.keepsRest_takeData p _)
    · exact kept.trans (t.keepsRest_endWrite p _)
    · exact kept

theorem State.keepsRest_actDescribing (s : State) (p : Port) (o : MsgOutcome) (bs : List Byte) :
    s.KeepsRest (s.actDescribing p o bs) := by
  unfold State.actDescribing
  repeat' split
  · exact .refl s
  · exact .refl s
  · exact s.keepsRest_failAttempt p
  · exact s.keepsRest_modPort p _
  · exact s.keepsRest_failAttempt p
  · exact .refl s

theorem State.keepsRest_messageEnds (s : State) (p : Port) (o : MsgOutcome) (bs : List Byte) :
    s.KeepsRest (s.messageEnds p o bs) := by
  unfold State.messageEnds
  extract_lets t
  have logged : s.KeepsRest t := s.keepsRest_logAndTap p o bs
  split
  · exact logged.trans (t.keepsRest_actActive p o bs)
  · exact logged.trans (t.keepsRest_actDescribing p o bs)
  · exact logged

theorem State.keepsRest_messageStep (s : State) (p : Port) (bs : List Byte) (framing : Bool) :
    s.KeepsRest (s.messageStep p bs framing) := by
  unfold State.messageStep
  repeat' split
  · exact (s.keepsRest_modPort p _).trans (State.keepsRest_messageEnds _ p _ bs)
  · exact .refl s
  · exact s.keepsRest_messageEnds p _ bs
  · exact .refl s
  · exact .refl s

theorem State.keepsRest_gapStep (s : State) (p : Port) (bs : List Byte) : s.KeepsRest (s.gapStep p bs) := by
  unfold State.gapStep
  split
  · exact s.keepsRest_messageEnds p _ bs
  · exact .refl s

theorem State.keepsRest_attachDescribed (s : State) (p : Port) (typeId : BitVec 16) (head : Head)
    (modes : List ModeDesc) : s.KeepsRest (s.attachDescribed p typeId head modes) := by
  unfold State.attachDescribed
  extract_lets t u
  have recorded : s.KeepsRest t := State.keepsRest_of_motion rfl rfl rfl
  exact (recorded.trans (t.keepsRest_modUnit p rfl fun i => ⟨i.queue, i.duty, i.motor⟩)).notifyAll _

theorem State.keepsRest_redescribe (s : State) (p : Port) : s.KeepsRest (s.redescribe p) :=
  ((State.KeepsRest.refl s).notifyAll _).modPort p _

theorem State.keepsRest_ackStep (s : State) (p : Port) : s.KeepsRest (s.ackStep p) := by
  unfold State.ackStep
  extract_lets u
  split
  · split
    · split
      · exact (s.keepsRest_modPort p _).trans (State.keepsRest_redescribe _ p)
      · exact (((s.keepsRest_detach p _).modPort p _).trans (State.keepsRest_attach _ p)).trans
          (State.keepsRest_attachDescribed _ p _ _ _)
    · exact (s.keepsRest_modPort p _).trans (State.keepsRest_attachDescribed _ p _ _ _)
  · exact .refl s

theorem State.keepsRest_takeMode (s : State) (p : Port) (r : ReplyTo) (mode : Nat) :
    s.KeepsRest (s.takeMode p r mode) := by
  unfold State.takeMode
  extract_lets u
  split
  · exact s.keepsRest_answer _ _ _
  · split
    · exact s.keepsRest_answer _ _ _
    · split
      · exact s.keepsRest_modPort p _
      · exact (s.keepsRest_answerModes p _).modPort p _

theorem State.KeepsRest.setModeBody {s t : State} (h : s.KeepsRest t) {e : Option Settlement}
    (none : s.Resting → e = none) (r : ReplyTo) (p : Port) (ps : List Byte) : s.KeepsRest (t.setModeBody r p e ps) := by
  unfold State.setModeBody
  split
  · exact (h.settleClaim p none).answer _ _ _
  · exact (h.settleClaim p none).trans (State.keepsRest_takeMode _ p r _)

theorem State.keepsRest_modeTimerStep (s : State) (p : Port) : s.KeepsRest (s.modeTimerStep p) := by
  unfold State.modeTimerStep
  extract_lets u
  split
  · split
    · exact (s.keepsRest_modPort p _).trans (State.keepsRest_modeChanged _ p _ 0)
    · exact (s.keepsRest_modPort p _).trans (State.keepsRest_answerModes _ p _)
  · exact .refl s

theorem State.KeepsRest.portWriteBody {s t : State} (h : s.KeepsRest t) {e : Option Settlement}
    (none : s.Resting → e = none) (r : ReplyTo) (p : Port) (ps : List Byte) : s.KeepsRest (t.portWriteBody r p e ps) := by
  unfold State.portWriteBody
  extract_lets u n w
  have settled : s.KeepsRest w := h.settleClaim p none
  repeat' split
  iterate 4 exact settled.answer _ _ _
  exact settled.modPort p _

end Sys2Proof.Machine
end

section
/-! The stop of all motion, the STOP line and RESUME, the duty ceilings and the supply sample, and with them every command
and every step: O56 (R75 to R77, R90, R120). -/

namespace Sys2Proof.Machine

/-! ## Every unit and every pair (R75, R77) -/

/-- What the stop of all motion does to one unit. -/
def State.stopUnit (o : SegOutcome) (state : MotorState) (s : State) (p : Port) : State :=
  (s.endQueue p o o).settleUnit p state

theorem State.stopAll_eq (s : State) (o : SegOutcome) (state : MotorState) : s.stopAll o state
    = PairId.all.foldl (fun t q => t.endPairQueue q o o) (Port.all.foldl (State.stopUnit o state) s) := rfl

theorem State.unitWork_stopUnit (o : SegOutcome) {state : MotorState} (h : state ≠ .holding) (s : State) (p : Port) :
    s.UnitWork p (s.stopUnit o state p) := (s.unitWork_endQueue p o o).trans (State.unitWork_settleUnit _ p h)

theorem State.stopUnit_unit (o : SegOutcome) (state : MotorState) (s : State) (p : Port) :
    (s.stopUnit o state p).unit p = ({ s.unit p with
      queue := [], act := if (s.unit p).queue = [] then (s.unit p).act else none } : MotionUnit).settle
        (if (s.port p).drives then state else .coasting) := by
  have ports : (s.endQueue p o o).port p = s.port p := by
    rw [(s.unitWork_endQueue p o o).frame]; rfl
  rw [State.stopUnit, State.settleUnit, State.modUnit_unit_same, State.endQueue_unit, ports]

theorem State.endPairQueues_motion (s : State) (o : SegOutcome) :
    (PairId.all.foldl (fun t q => t.endPairQueue q o o) s).motion = s.motion :=
  foldl_induct (R := fun s t : State => t.motion = s.motion) (fun _ => rfl) (fun a b => b.trans a) _
    (fun t q _ => t.endPairQueue_motion q o o) s

/-- Every unit as the stop of all motion leaves it. -/
theorem State.stopAll_unit (s : State) (o : SegOutcome) {state : MotorState} (h : state ≠ .holding) (x : Port) :
    (s.stopAll o state).unit x = ({ s.unit x with
      queue := [], act := if (s.unit x).queue = [] then (s.unit x).act else none } : MotionUnit).settle
        (if (s.port x).drives then state else .coasting) := by
  obtain ⟨t, before, after⟩ := State.foldl_units (State.unitWork_stopUnit o h) x s
  have port : t.port x = s.port x := by rw [before.work.frame]; rfl
  rw [State.stopAll_eq, State.unit, State.endPairQueues_motion]
  exact after.unit.trans (by rw [State.stopUnit_unit, before.unit, port])

/-- Every pair's record as the stop of all motion leaves it. -/
theorem State.stopAll_pairAt (s : State) (o : SegOutcome) {state : MotorState} (h : state ≠ .holding) (q : PairId) :
    (s.stopAll o state).pairAt q = (s.pairAt q).map fun r => if r.queue = [] then r else r.emptied := by
  have units : (Port.all.foldl (State.stopUnit o state) s).pairs = s.pairs :=
    foldl_induct (R := fun s t : State => t.pairs = s.pairs) (fun _ => rfl) (fun a b => b.trans a) _
      (fun t p _ => by rw [(t.unitWork_stopUnit o h p).frame]) s
  obtain ⟨t, -, before, -, after⟩ := State.foldl_pairs (fun (t : State) y => t.pairWork_endPairQueue y o o) q
    (Port.all.foldl (State.stopUnit o state) s)
  have record : t.pairAt q = s.pairAt q := before.trans (congrArg (Three.get · q) units)
  rw [State.stopAll_eq, after]
  cases e : s.pairAt q with
  | none => rw [State.endPairQueue_of_none (record.trans e), record, e]; rfl
  | some r => rw [State.endPairQueue_pairAt (record.trans e)]; rfl

theorem State.stopAll_atRest (s : State) (o : SegOutcome) {state : MotorState} (h : state = .coasting ∨ state = .braking) :
    (s.stopAll o state).AtRest := by
  have moves : state ≠ .holding := by rcases h with rfl | rfl <;> decide
  refine ⟨fun p => ?_, fun q r e => ?_⟩
  · rw [s.stopAll_unit o moves]
    refine ⟨rfl, rfl, ?_⟩
    simp only [MotionUnit.settle]
    split
    · exact h
    · exact .inl rfl
  · rw [s.stopAll_pairAt o moves] at e
    obtain ⟨x, -, rfl⟩ := Option.map_eq_some_iff.mp e
    split
    · assumption
    · rfl

/-- Every unit takes a halt mode, and nothing else changes. -/
theorem State.setHalted_unit (s : State) (h : Bool) (x : Port) : (s.setHalted h).unit x = { s.unit x with halted := h } := by
  obtain ⟨t, before, after⟩ := State.foldl_units
    (fun (t : State) p => t.unitWork_modUnit p (f := fun m => { m with halted := h }) fun i => i) x s
  refine after.unit.trans ?_
  rw [State.modUnit_unit_same, before.unit]

theorem State.setHalted_frame (s : State) (h : Bool) : s.setHalted h = { s with motion := (s.setHalted h).motion } :=
  foldl_induct (R := fun s t : State => t = { s with motion := t.motion }) (fun _ => rfl)
    (fun a b => by rw [b, a]) Port.all (fun _ _ _ => rfl) s

theorem State.setHalted_atRest {s : State} (i : s.AtRest) (h : Bool) : (s.setHalted h).AtRest := by
  refine ⟨fun p => ?_, fun q r e => i.pairs q r ?_⟩
  · obtain ⟨queue, duty, motor⟩ := i.units p
    rw [State.setHalted_unit]
    exact ⟨queue, duty, motor⟩
  · rw [State.setHalted_frame] at e; exact e

theorem State.setHalted_alike (s : State) (h : Bool) : (s.setHalted h).HaltedAlike := fun p => by
  simp only [State.setHalted_unit]

/-! ## The STOP line and RESUME (R75, R76) -/

theorem State.haltInv_stopLineStep {s : State} (i : s.haltInv) : s.stopLineStep.haltInv := by
  unfold State.stopLineStep
  extract_lets t
  split
  · exact i
  · refine State.KeepsRest.haltInv ((State.KeepsRest.refl _).notifyAll _) ?_
    exact State.haltInv_iff.mpr ⟨State.setHalted_alike _ _, fun _ =>
      State.setHalted_atRest (t.stopAll_atRest .halted (.inr rfl)) true⟩

theorem State.haltInv_setHalted_false {s : State} (i : s.haltInv) : (s.setHalted false).haltInv := by
  refine State.haltInv_iff.mpr ⟨State.setHalted_alike _ _, fun stopped => State.setHalted_atRest ?_ false⟩
  rcases stopped with halted | brownout
  · rw [State.setHalted_unit] at halted; cases halted
  · rw [State.setHalted_frame] at brownout; exact (State.haltInv_iff.mp i).2 (.inr brownout)

theorem State.haltInv_resumeBody {s : State} (i : s.haltInv) (r : ReplyTo) : (s.resumeBody r).haltInv := by
  unfold State.resumeBody
  split
  · split
    · exact (s.keepsRest_answer _ _ _).haltInv i
    · exact (((State.KeepsRest.refl _).notifyAll _).answer _ _ _).haltInv (State.haltInv_setHalted_false i)
  · exact (s.keepsRest_answer _ _ _).haltInv i

/-! ## The duty ceilings (R90): a duty of 0 is within every ceiling of the drive's invariant -/

/-- The ceilings that a duty of 0 is within. -/
structure State.CeilingsUp (s : State) : Prop where
  limit : ∀ p, 0 ≤ (s.unit p).settings.dutyLimit
  supply : 0 ≤ s.supply.s

theorem State.ceilingsUp_of_driveInv {s : State} (h : s.driveInv) : s.CeilingsUp := by
  obtain ⟨-, -, ceiling, -, -, ports⟩ := h
  refine ⟨fun p => ?_, by omega⟩
  have := (ports p (Port.mem_all p)).1
  omega

theorem State.ceilingsUp_claimPort {s t : State} {l : LinkId} {p : Port} {code : Byte} {e : Option Settlement}
    (claim : s.claimPort l p code = .ok (t, e)) (h : s.CeilingsUp) : t.CeilingsUp := by
  unfold State.claimPort at claim
  repeat' split at claim
  · cases claim
  · cases claim
  · unfold State.claimRule at claim
    repeat' split at claim
    · cases claim; exact ⟨h.limit, h.supply⟩
    · cases claim; exact h
    · cases claim
    · cases claim
      have work := s.unitWork_endQueue p .takenOver .takenOver
      refine ⟨fun x => ?_, ?_⟩
      · change 0 ≤ ((s.endQueue p .takenOver .takenOver).unit x).settings.dutyLimit
        by_cases same : x = p
        · subst same; rw [State.endQueue_unit]; exact h.limit x
        · rw [work.unit_ne same]; exact h.limit x
      · change 0 ≤ (s.endQueue p .takenOver .takenOver).supply.s
        rw [work.frame]; exact h.supply

theorem clamp_ge {lo hi x : Int} (h : lo ≤ hi) : lo ≤ clamp lo hi x := by
  rw [clamp_eq_max_min h]; omega

/-- A given duty limit is at least 100; one that is not given stays (R99). -/
theorem RegSettings.given_dutyLimit {k : RegSettings} (h : 0 ≤ k.dutyLimit) (ps : List Byte) :
    0 ≤ (k.given ps).dutyLimit := by
  simp only [RegSettings.given, setting]
  split
  · exact le_trans (by decide) (clamp_ge (lo := 100) (hi := 1000) (by decide))
  · exact h

theorem State.KeepsRest.setRegulatorBody {s t : State} (h : s.KeepsRest t) (ceilings : t.CeilingsUp)
    {e : Option Settlement} (none : s.Resting → e = none) (r : ReplyTo) (p : Port) (ps : List Byte) :
    s.KeepsRest (t.setRegulatorBody r p e ps) := by
  unfold State.setRegulatorBody
  split
  · extract_lets u
    have set : t.KeepsRest u := by
      refine t.keepsRest_modUnit p ?_ fun i => ?_
      · simp only [MotionUnit.reduceDuty]; split <;> rfl
      · have limit := RegSettings.given_dutyLimit (ceilings.limit p) ps
        exact MotionUnit.reduceDuty_idle (m := { t.unit p with settings := (t.unit p).settings.given ps })
          ⟨i.queue, i.duty, i.motor⟩ limit ceilings.supply
    exact ((h.trans set).settleClaim p none).answer _ _ _
  · exact (h.settleClaim p none).answer _ _ _

/-! ## The supply sample (R90, R114, R120) -/

theorem voltageCeiling_nonneg (vf vsoft vhard : Int) : 0 ≤ voltageCeiling vf vsoft vhard := by
  unfold voltageCeiling
  split
  · decide
  · split
    · decide
    · have : 0 ≤ truncDiv (600 * (vf - vhard)) (vsoft - vhard) := Int.tdiv_nonneg (by omega) (by omega)
      omega

theorem currentCeiling_nonneg {ci : Int} (h : 0 ≤ ci) (iflt ilim : Int) : 0 ≤ currentCeiling ci iflt ilim := by
  unfold currentCeiling
  split
  · omega
  · split <;> omega

theorem MotionUnit.reduceDuty_kept (m : MotionUnit) (c : Int) :
    m.reduceDuty c = { m with reg := (m.reduceDuty c).reg } := by
  simp only [MotionUnit.reduceDuty]
  split <;> rfl

/-- Where every ceiling is up, the reduction of the duties moves no motor at rest. -/
theorem State.keepsRest_reduceDuties {s : State} (h : s.CeilingsUp) : s.KeepsRest s.reduceDuties := by
  refine (foldl_induct (R := fun s t : State => s.CeilingsUp → s.KeepsRest t ∧ t.CeilingsUp)
    (f := fun t p => t.modUnit p fun m => m.reduceDuty t.supply.s) (fun t i => ⟨.refl t, i⟩)
    (fun a b i => ?_) Port.all (fun t p _ i => ⟨?_, fun x => ?_, i.supply⟩) s h).1
  · obtain ⟨first, up⟩ := a i
    obtain ⟨second, up⟩ := b up
    exact ⟨first.trans second, up⟩
  · refine t.keepsRest_modUnit p ?_ fun idle => MotionUnit.reduceDuty_idle idle (i.limit p) i.supply
    rw [MotionUnit.reduceDuty_kept]
  · rw [State.modUnit_unit]
    split
    · rw [MotionUnit.reduceDuty_kept]; exact i.limit p
    · exact i.limit x

theorem State.haltInv_changeSupplyState {s : State} (i : s.haltInv) (new : SupplyState) :
    (s.changeSupplyState new).haltInv := by
  obtain ⟨alike, rest⟩ := State.haltInv_iff.mp i
  unfold State.changeSupplyState
  extract_lets old _ t u w
  have entered : u.haltInv := by
    refine State.haltInv_iff.mpr ?_
    simp only [u]
    split
    · have stopped := t.stopAll_atRest .brownout (state := .coasting) (.inl rfl)
      have halted (p : Port) : ((t.stopAll .brownout .coasting).unit p).halted = (s.unit p).halted := by
        rw [t.stopAll_unit .brownout (by decide)]; rfl
      have quiet := State.keepsRest_of_tables ((t.stopAll .brownout .coasting).tables_endVoices .brownout)
        (by rw [State.endVoices_supply])
      refine ⟨quiet.mode.alike fun p => by rw [halted, halted, alike p], fun _ => ?_⟩
      exact stopped.of_tables (State.tables_endVoices _ _)
    · rename_i other
      refine ⟨alike, fun stopped => ?_⟩
      obtain ⟨units, pairs⟩ := rest (.inl (stopped.resolve_right other))
      exact ⟨units, pairs⟩
  refine State.KeepsRest.haltInv (State.KeepsRest.notifyAll ?_ _) entered
  simp only [w]
  split
  · exact State.keepsRest_of_tables u.tables_startWarning (by rw [State.startWarning_supply])
  · exact .refl u

theorem State.haltInv_supplySampleStep {s : State} (drive : s.driveInv) (i : s.haltInv) (vbat : Nat) (isense : Int) :
    (s.supplySampleStep vbat isense).haltInv := by
  unfold State.supplySampleStep
  extract_lets m t u
  have up : (s.setSupply m).CeilingsUp := by
    refine ⟨(State.ceilingsUp_of_driveInv drive).limit, ?_⟩
    have voltage := voltageCeiling_nonneg m.vf m.vsoft m.vhard
    have current := currentCeiling_nonneg (show 0 ≤ s.supply.ci by have := drive.1; omega) m.iflt m.ilim
    exact le_min voltage current
  have sampled : t.haltInv :=
    ((State.keepsRest_of_motion rfl rfl rfl).trans (State.keepsRest_reduceDuties up)).haltInv i
  refine (u.keepsRest_offerUpdates _).haltInv ?_
  simp only [u]
  split
  · exact sampled
  · exact State.haltInv_changeSupplyState sampled _

/-! ## Resets and commands -/

/-- A reset leaves every unit idle, no pair and the supply NORMAL or LOW. -/
theorem State.haltInv_restart (s : State) (stop : Bool) (vbat : Nat) (isense : Int) :
    (s.restart stop vbat isense).haltInv := by
  have unit (p : Port) : (s.restart stop vbat isense).unit p = (s.unit p).restart stop := Six.get_map _ _ _
  refine State.haltInv_iff.mpr ⟨fun p => by rw [unit, unit]; rfl, fun _ => ⟨fun p => ?_, fun q r e => ?_⟩⟩
  · rw [unit]; exact ⟨rfl, rfl, .inl rfl⟩
  · simp [State.pairAt, State.restart] at e

theorem State.haltInv_serve {s : State} (i : s.haltInv) (l : LinkId) (tag : Byte) (code : Nat) (ps : List Byte)
    {body : ReplyTo → State → State}
    (h : ∀ r (t : State), t.motion = s.motion → t.supply = s.supply → t.haltInv → (body r t).haltInv) :
    (s.serve l tag code ps body).haltInv := by
  unfold State.serve
  split
  · exact i
  · rename_i t take
    have tables := State.tables_take take
    have supply := State.take_supply take
    have taken : t.haltInv := (State.keepsRest_of_tables tables (by rw [supply])).haltInv i
    extract_lets r
    split
    · exact h r t (congrArg Tables.motion tables) supply taken
    · exact (t.keepsRest_answer _ _ _).haltInv taken

/-- A request whose part keeps a stopped machine at rest. -/
theorem State.haltInv_serve_rest {s : State} (i : s.haltInv) (l : LinkId) (tag : Byte) (code : Nat) (ps : List Byte)
    {body : ReplyTo → State → State} (h : ∀ r (t : State), t.KeepsRest (body r t)) :
    (s.serve l tag code ps body).haltInv :=
  State.haltInv_serve i l tag code ps fun r t _ _ => (h r t).haltInv

/-- A request whose part leaves units, pairs and supply state as they are. -/
theorem State.haltInv_serve_same {s : State} (i : s.haltInv) (l : LinkId) (tag : Byte) (code : Nat) (ps : List Byte)
    {body : ReplyTo → State → State} (h : ∀ r (t : State), (body r t).tables = t.tables)
    (supply : ∀ r (t : State), (body r t).supply.state = t.supply.state) : (s.serve l tag code ps body).haltInv :=
  State.haltInv_serve_rest i l tag code ps fun r t => State.keepsRest_of_tables (h r t) (supply r t)

theorem State.CeilingsUp.of_motion {s t : State} (motion : t.motion = s.motion) (supply : t.supply = s.supply)
    (h : s.CeilingsUp) : t.CeilingsUp :=
  ⟨fun p => by rw [State.unit, motion]; exact h.limit p, by rw [supply]; exact h.supply⟩

theorem State.keepsRest_setRegulator {s : State} (up : s.CeilingsUp) (r : ReplyTo) (ps : List Byte) :
    s.KeepsRest (s.claiming r ps fun t p e => t.setRegulatorBody r p e ps) := by
  unfold State.claiming
  split
  · exact s.keepsRest_answer _ _ _
  · split
    · exact s.keepsRest_answer _ _ _
    · rename_i claim
      obtain ⟨keeps, none⟩ := State.keepsRest_claimPort claim
      exact keeps.setRegulatorBody (State.ceilingsUp_claimPort claim up) none r _ ps

/-! ## Requests about streams and ports that move nothing -/

theorem State.keepsRest_subscribeBody (s : State) (r : ReplyTo) (ps : List Byte) : s.KeepsRest (s.subscribeBody r ps) := by
  unfold State.subscribeBody
  repeat' split
  · exact s.keepsRest_answer _ _ _
  · exact s.keepsRest_answer _ _ _
  · extract_lets
    split
    · exact s.keepsRest_answer _ _ _
    · rename_i joined
      refine State.KeepsRest.answer ?_ _ _ _
      unfold State.joinStream at joined
      split at joined
      · cases joined; exact s.keepsRest_setStreams _
      · obtain ⟨m, -, e⟩ := Option.map_eq_some_iff.mp joined
        cases e; exact s.keepsRest_setStreams _

theorem State.keepsRest_unsubscribeBody (s : State) (r : ReplyTo) (ps : List Byte) :
    s.KeepsRest (s.unsubscribeBody r ps) := by
  unfold State.unsubscribeBody
  repeat' split
  · extract_lets members t
    have dropped : s.KeepsRest t := State.keepsRest_of_tables rfl rfl
    exact (dropped.trans (t.keepsRest_setStreams _)).answer _ _ _
  · exact s.keepsRest_answer _ _ _
  · exact s.keepsRest_answer _ _ _

theorem State.keepsRest_listStreamsBody (s : State) (r : ReplyTo) (ps : List Byte) :
    s.KeepsRest (s.listStreamsBody r ps) := by
  unfold State.listStreamsBody
  split
  · exact s.keepsRest_answer _ _ _
  · exact s.keepsRest_answer _ _ _

theorem State.keepsRest_portInfoBody (s : State) (r : ReplyTo) (ps : List Byte) : s.KeepsRest (s.portInfoBody r ps) := by
  unfold State.portInfoBody
  repeat' split
  all_goals exact s.keepsRest_answer _ _ _

/-! ## Every command and every step -/

theorem exec_keepsHalt (i : Instr) {s : State} (drive : s.driveInv) (halt : s.haltInv) :
    ∃ t, exec i s = .next t ∧ t.haltInv := by
  have same {t : State} (h : t.tables = s.tables) (supply : t.supply.state = s.supply.state) : t.haltInv :=
    (State.keepsRest_of_tables h supply).haltInv halt
  have keeps {t : State} (h : s.KeepsRest t) : t.haltInv := h.haltInv halt
  have served := @State.haltInv_serve_rest s halt
  have served_same := @State.haltInv_serve_same s halt
  cases i with
  | powerOnReset stop vbat isense => exact ⟨_, rfl, s.haltInv_restart stop vbat isense⟩
  | portPowerRestore p =>
    refine ⟨_, rfl, keeps ?_⟩
    split
    · exact s.keepsRest_modPort p _
    · exact .refl s
  | scanComplete =>
    refine ⟨_, rfl, keeps ?_⟩
    unfold State.scanCompleteStep
    split
    · exact State.keepsRest_of_tables (by simp) (by simp)
    · exact .refl s
  | selFall l => exact ⟨_, rfl, same (by simp) (by simp)⟩
  | selRise l clocked midByte => exact ⟨_, rfl, same rfl rfl⟩
  | ageTick l => exact ⟨_, rfl, keeps (s.keepsRest_ageTickStep l)⟩
  | unknownRequest l tag code ps => exact ⟨_, rfl, same (by simp) (by simp)⟩
  | requestWithoutCode l tag => exact ⟨_, rfl, same (by simp) (by simp)⟩
  | identify l tag ps => exact ⟨_, rfl, served_same l tag _ ps (by simp) (by simp)⟩
  | setLink l tag ps => exact ⟨_, rfl, served_same l tag _ ps (by simp) (by simp)⟩
  | clearFlags l tag ps => exact ⟨_, rfl, served_same l tag _ ps (by simp) (by simp)⟩
  | resetArm l tag ps => exact ⟨_, rfl, served_same l tag _ ps (by simp) (by simp)⟩
  | leave l tag ps => exact ⟨_, rfl, served l tag _ ps fun r t => t.keepsRest_leaveStep r⟩
  | reset l tag ps stop vbat isense =>
    refine ⟨_, rfl, State.haltInv_serve halt l tag _ ps fun r t _ _ taken => ?_⟩
    unfold State.resetStep
    split
    · exact t.haltInv_restart stop vbat isense
    · exact (t.keepsRest_answer _ _ _).haltInv taken
  | portInfo l tag ps => exact ⟨_, rfl, served l tag _ ps fun r t => t.keepsRest_portInfoBody r ps⟩
  | readValue l tag ps =>
    refine ⟨_, rfl, served l tag _ ps fun r t => ?_⟩
    repeat' split
    all_goals exact t.keepsRest_answer _ _ _
  | setMode l tag ps =>
    exact ⟨_, rfl, served l tag _ ps fun r t => t.keepsRest_claiming r ps fun _ p _ h none =>
      h.setModeBody none r p ps⟩
  | portWrite l tag ps =>
    exact ⟨_, rfl, served l tag _ ps fun r t => t.keepsRest_claiming r ps fun _ p _ h none =>
      h.portWriteBody none r p ps⟩
  | setTap l tag ps =>
    refine ⟨_, rfl, served l tag _ ps fun r t => ?_⟩
    split
    · refine State.KeepsRest.answer ?_ _ _ _
      exact t.keepsRest_modPort _ _
    · exact t.keepsRest_answer _ _ _
  | readLog l tag ps =>
    refine ⟨_, rfl, served l tag _ ps fun r t => ?_⟩
    split
    · exact t.keepsRest_answer _ _ _
    · refine State.KeepsRest.answer ?_ _ _ _
      exact t.keepsRest_modPort _ _
  | portReset l tag ps => exact ⟨_, rfl, served l tag _ ps fun r t => t.keepsRest_portResetBody r ps⟩
  | lock l tag ps => exact ⟨_, rfl, served l tag _ ps fun r t => t.keepsRest_lockBody r ps⟩
  | unlock l tag ps => exact ⟨_, rfl, served l tag _ ps fun r t => t.keepsRest_unlockBody r ps⟩
  | release l tag ps => exact ⟨_, rfl, served l tag _ ps fun r t => t.keepsRest_releaseBody r ps⟩
  | move l tag ps =>
    exact ⟨_, rfl, served l tag _ ps fun r t => t.keepsRest_claiming r ps fun _ p _ h none =>
      h.moveBody none r p ps⟩
  | stop l tag ps =>
    exact ⟨_, rfl, served l tag _ ps fun r t => t.keepsRest_claiming r ps fun _ p _ h none =>
      h.stopBody none r p ps⟩
  | setRegulator l tag ps =>
    refine ⟨_, rfl, State.haltInv_serve halt l tag _ ps fun r t motion supply taken => ?_⟩
    have up := State.CeilingsUp.of_motion motion supply (State.ceilingsUp_of_driveInv drive)
    exact (t.keepsRest_setRegulator up r ps).haltInv taken
  | setPosition l tag ps =>
    exact ⟨_, rfl, served l tag _ ps fun r t => t.keepsRest_claiming r ps fun _ p _ h none =>
      h.setPositionBody none r p ps⟩
  | resume l tag ps => exact ⟨_, rfl, State.haltInv_serve halt l tag _ ps fun r _ _ _ taken =>
    State.haltInv_resumeBody taken r⟩
  | pair l tag ps => exact ⟨_, rfl, served l tag _ ps fun r t => t.keepsRest_pairBody r ps⟩
  | unpair l tag ps =>
    exact ⟨_, rfl, served l tag _ ps fun r t => t.keepsRest_claimingPair r _ fun u q _ _ h _ _ =>
      (h.trans (u.keepsRest_dissolvePair q _)).answer _ _ _⟩
  | movePair l tag ps =>
    refine ⟨_, rfl, served l tag _ ps fun r t => t.keepsRest_claimingPair r _
      fun u q x e h none ⟨x', record, _⟩ => ?_⟩
    rw [record]
    exact h.movePairBody record none r ps
  | motionStatus l tag ps =>
    refine ⟨_, rfl, served l tag _ ps fun r t => ?_⟩
    split
    · exact t.keepsRest_answer _ _ _
    · exact t.keepsRest_answer _ _ _
  | supplyStatus l tag ps => exact ⟨_, rfl, served_same l tag _ ps (by simp) (by simp)⟩
  | setSupply l tag ps =>
    exact ⟨_, rfl, served_same l tag _ ps (fun r t => by simp) fun r t => t.setSupplyBody_supplyState r ps⟩
  | subscribe l tag ps => exact ⟨_, rfl, served l tag _ ps fun r t => t.keepsRest_subscribeBody r ps⟩
  | unsubscribe l tag ps => exact ⟨_, rfl, served l tag _ ps fun r t => t.keepsRest_unsubscribeBody r ps⟩
  | listStreams l tag ps => exact ⟨_, rfl, served l tag _ ps fun r t => t.keepsRest_listStreamsBody r ps⟩
  | clipBegin l tag ps => exact ⟨_, rfl, served_same l tag _ ps (by simp) (by simp)⟩
  | clipData l tag ps => exact ⟨_, rfl, served_same l tag _ ps (by simp) (by simp)⟩
  | clipEnd l tag ps => exact ⟨_, rfl, served_same l tag _ ps (by simp) (by simp)⟩
  | clipDelete l tag ps => exact ⟨_, rfl, served_same l tag _ ps (by simp) (by simp)⟩
  | clipInfo l tag ps guardHigh => exact ⟨_, rfl, served_same l tag _ ps (by simp) (by simp)⟩
  | clipRead l tag ps => exact ⟨_, rfl, served_same l tag _ ps (by simp) (by simp)⟩
  | setProtect l tag ps guardHigh => exact ⟨_, rfl, served_same l tag _ ps (by simp) (by simp)⟩
  | play l tag ps => exact ⟨_, rfl, served_same l tag _ ps (by simp) (by simp)⟩
  | stopVoice l tag ps => exact ⟨_, rfl, served_same l tag _ ps (by simp) (by simp)⟩
  | setVolume l tag ps => exact ⟨_, rfl, served_same l tag _ ps (by simp) (by simp)⟩
  | voiceStatus l tag ps => exact ⟨_, rfl, served_same l tag _ ps (by simp) (by simp)⟩
  | probeEvent p level rxLow => exact ⟨_, rfl, keeps (s.keepsRest_probeStep p level rxLow)⟩
  | overcurrentTrip p => exact ⟨_, rfl, keeps (s.keepsRest_tripStep p)⟩
  | retryTimerExpiry p =>
    refine ⟨_, rfl, keeps ?_⟩
    split
    · exact s.keepsRest_modPort p _
    · exact .refl s
  | messageOutcome p bs framing => exact ⟨_, rfl, keeps (s.keepsRest_messageStep p bs framing)⟩
  | gapTimeout p bs => exact ⟨_, rfl, keeps (s.keepsRest_gapStep p bs)⟩
  | ackSent p => exact ⟨_, rfl, keeps (s.keepsRest_ackStep p)⟩
  | attemptTimerExpiry p =>
    refine ⟨_, rfl, keeps ?_⟩
    repeat' split
    · exact s.keepsRest_failAttempt p
    · exact .refl s
    · exact .refl s
  | keepAliveExpiry p => exact ⟨_, rfl, keeps (s.keepsRest_modPort p _)⟩
  | silenceLoss p =>
    refine ⟨_, rfl, keeps ?_⟩
    split
    · exact s.keepsRest_lossOf p
    · exact .refl s
  | modeTimerExpiry p => exact ⟨_, rfl, keeps (s.keepsRest_modeTimerStep p)⟩
  | writeTimerExpiry p =>
    refine ⟨_, rfl, keeps ?_⟩
    split
    · exact s.keepsRest_endWrite p _
    · exact .refl s
  | encoderTransition p a b =>
    exact ⟨_, rfl, keeps (s.keepsRest_modUnit p rfl fun i => ⟨i.queue, i.duty, i.motor⟩)⟩
  | regulationEvent p => exact ⟨_, rfl, keeps (s.keepsRest_regulationStep p)⟩
  | stopLineAssert => exact ⟨_, rfl, State.haltInv_stopLineStep halt⟩
  | stopLineRelease => exact ⟨_, rfl, same rfl rfl⟩
  | supplySample vbat isense => exact ⟨_, rfl, State.haltInv_supplySampleStep drive halt vbat isense⟩
  | warningTimerExpiry => exact ⟨_, rfl, same (by simp) s.warningTimerStep_supplyState⟩
  | jobStart =>
    refine ⟨_, rfl, keeps ?_⟩
    unfold State.jobStartStep
    split
    · exact State.keepsRest_of_tables (by simp) (by simp)
    · exact .refl s
  | cleanupStart => exact ⟨_, rfl, same (by simp) (by simp)⟩
  | programComplete =>
    refine ⟨_, rfl, keeps ?_⟩
    unfold State.programCompleteStep
    split
    · exact State.keepsRest_of_tables (by simp) (by simp)
    · exact .refl s
  | eraseComplete =>
    refine ⟨_, rfl, keeps ?_⟩
    unfold State.eraseCompleteStep
    split
    · exact State.keepsRest_of_tables (by simp) (by simp)
    · exact .refl s
  | eraseSuspend =>
    refine ⟨_, rfl, keeps ?_⟩
    unfold State.eraseSuspendStep
    split
    · exact State.keepsRest_of_tables (by simp) (by simp)
    · exact .refl s
  | suspendComplete =>
    refine ⟨_, rfl, keeps ?_⟩
    unfold State.suspendCompleteStep
    split
    · exact State.keepsRest_of_tables (by simp) (by simp)
    · exact .refl s
  | arrayReadComplete => exact ⟨_, rfl, same (by simp) (by simp)⟩
  | outputSample => exact ⟨_, rfl, same (by simp) (by simp)⟩
  | firstDescLeadByte p => exact ⟨_, rfl, keeps (s.keepsRest_modPort p _)⟩
  | idleGapAfterFramingError p => exact ⟨_, rfl, keeps (s.keepsRest_modPort p _)⟩

/-- Settles O56: a stopped machine stays at rest command by command (`exec_keepsHalt`), and a millisecond moves no motor. -/
theorem everyStepKeepsHalt : Obligations.EveryStepKeepsHalt := by
  intro s t drive halt h
  unfold step at h
  split at h
  · cases h; exact (State.keepsRest_of_motion (t := s.tick) rfl rfl rfl).haltInv halt
  · rename_i i rest _
    obtain ⟨u, e, keeps⟩ := exec_keepsHalt i (s := { s with pending := rest }) drive halt
    obtain rfl : u = t := by rw [e] at h; cases h; rfl
    exact keeps

end Sys2Proof.Machine
end

section
/-! STOP (R73, R74): O31. -/

namespace Sys2Proof.Machine

/-- A port with a device, in the states that the motion statements name. -/
theorem PortUnit.hasDevice_of_attached {u : PortUnit} (h : u.state ∈ [PortState.passive, .active, .describing]) :
    u.noDevice = false := by
  refine PortUnit.hasDevice_of_mem ?_
  simp only [List.mem_cons, List.not_mem_nil, or_false] at h ⊢
  tauto

/-! ## SEGMENT_ENDs of a queue that ends with two outcomes (R64, R73, R74) -/

/-- The SEGMENT_ENDs of a queue: the active segment with one outcome and its time, then the waiting ones with another. -/
def State.queueEnds (s : State) (p : Port) (a w : SegOutcome) (g : Segment) (rest : List Segment) : List Notice :=
  s.segmentEnd none a (s.elapsed p) (p, g) :: rest.map fun k => s.segmentEnd none w 0 (p, k)

theorem State.queueEnds_length (s : State) (p : Port) (a w : SegOutcome) (g : Segment) (rest : List Segment) :
    (s.queueEnds p a w g rest).length = (g :: rest).length := by simp [State.queueEnds]

/-- The notice that stands at a place of the queue's end. -/
theorem State.queueEnds_getElem {s : State} {p : Port} {g k : Segment} {rest : List Segment} {n : Nat}
    (at_ : (g :: rest)[n]? = some k) (a w : SegOutcome) :
    (s.queueEnds p a w g rest)[n]? = some (s.segmentEnd none (if n = 0 then a else w)
      (if n = 0 then s.elapsed p else 0) (p, k)) := by
  cases n with
  | zero =>
    obtain rfl : g = k := by simpa using at_
    rfl
  | succ n =>
    rw [List.getElem?_cons_succ] at at_
    rw [State.queueEnds, List.getElem?_cons_succ, List.getElem?_map, at_]
    rfl

/-- They stand last in their issuer's queue, in order, where it has room. -/
theorem State.endQueue_notices {s : State} {l : LinkId} {p : Port} {g : Segment} {rest : List Segment} {a w : SegOutcome}
    (queue : (s.unit p).queue = g :: rest) (reportsA : ∀ k : Segment, k.reports a = true)
    (reportsW : ∀ k : Segment, k.reports w = true) (active : (s.link l).state = .active)
    (issuers : ∀ k ∈ g :: rest, k.issuer = l) (room : (s.link l).notices.length + (g :: rest).length ≤ 32) :
    ((s.endQueue p a w).link l).notices = (s.link l).notices ++ s.queueEnds p a w g rest := by
  rw [List.length_cons] at room
  have work := s.linkWork_endNotice p none g a (s.elapsed p)
  have first := State.endNotice_notices (s := s) (q := none) active reportsA (by omega) (x := (p, g)) (issuers g (by simp))
    (s.elapsed p)
  have others := State.endNotices_notices (s := s.endNotice p none g a (s.elapsed p)) (q := none)
    ((work.links l).state.trans active) reportsW (xs := rest.map fun k => (p, k))
    (by simpa using fun k h => issuers k (List.mem_cons_of_mem g h))
    (by rw [first, List.length_append, List.length_singleton, List.length_map]; omega)
  rw [List.foldl_map, first, work.segmentEnd, List.map_map, List.append_assoc] at others
  rw [State.endQueue_of_cons queue]
  exact others

/-! ## STOP (R74) -/

theorem PortUnit.stopCheck_ok {u : PortUnit} {x a : Byte} {e : EndAction} (code : EndAction.ofCode a.toNat = some e)
    (drives : u.drives = true) (holds : e = .hold → u.encoderMotor = true) : u.stopCheck [x, a] = .ok e := by
  have serves : ¬ (u.drives = false ∨ (e = .hold ∧ u.encoderMotor = false)) := by
    rintro (h | ⟨h, k⟩)
    · rw [drives] at h; cases h
    · rw [holds h] at k; cases k
  unfold PortUnit.stopCheck
  rw [show byteAt [x, a] 1 = a.toNat from rfl, code]
  exact if_neg serves

section
variable (s : State) (p : Port) (e : EndAction)

theorem State.claimWork_stopMotion : s.ClaimWork (s.stopMotion p e) := by
  unfold State.stopMotion
  exact (s.claimWork_endQueue p _ _).trans (State.claimWork_modUnit _ p _)

theorem State.unitWork_stopMotion : s.UnitWork p (s.stopMotion p e) := by
  unfold State.stopMotion
  exact (s.unitWork_endQueue p _ _).trans (State.unitWork_modUnit _ p fun i => MotionUnit.endAction_inv i _ _ _)

theorem State.stopMotion_unit : (s.stopMotion p e).unit p = ({ s.unit p with
    queue := [], act := if (s.unit p).queue = [] then (s.unit p).act else none } : MotionUnit).endAction e
      (s.unit p).holdPosition ((s.port p).holdCreep (s.unit p).queue.head?) := by
  unfold State.stopMotion
  rw [State.modUnit_unit_same, State.endQueue_unit]

theorem State.stopMotion_links : (s.stopMotion p e).links = (s.endQueue p .stopped .flushed).links := rfl

end

/-- The whole of the segments' queue is told to its issuers: STOPPED and FLUSHED. -/
theorem State.sendsEnd_stopMotion {s : State} {p : Port} {g : Segment} {rest : List Segment}
    (queue : (s.unit p).queue = g :: rest) (e : EndAction) :
    s.sendsEnd (s.stopMotion p e) p none g .stopped ∧ ∀ k ∈ rest, s.sendsEnd (s.stopMotion p e) p none k .flushed := by
  have ended := (s.unitWork_endQueue p .stopped .flushed).links
  have after : (s.endQueue p .stopped .flushed).LinksGrow (s.stopMotion p e) := .of_links (s.stopMotion_links p e)
  exact ⟨ended.sendsEnd_before after (State.sendsEnd_endQueue_active queue rfl),
    fun k mem => ended.sendsEnd_before after (State.sendsEnd_endQueue_waiting queue mem rfl)⟩

/-- STOP on a port its link holds is answered OK after the stop, if it stops anything. -/
theorem State.stopBody_ok {s : State} {r : ReplyTo} {p : Port} {x a : Byte} {e : EndAction}
    (check : (s.port p).stopCheck [x, a] = .ok e) (c : Option Settlement) :
    s.stopBody r p c [x, a] = (if (s.unit p).halted = true ∨ s.supply.state = .brownout then s
      else s.stopMotion p e).answer r .ok [] := by
  unfold State.stopBody
  rw [check]
  simp only
  split <;> rfl

/-- Settles O31: the claim step lets the holder through, and its STOP is `State.stopMotion` where the machine runs. -/
theorem stopEndsMotion : Obligations.StopEndsMotion := by
  intro l tag a p s m e asked code hm single held state drives holds
  subst hm
  obtain ⟨A, hA⟩ : ∃ A, A = s.accepted l tag 0x31 := ⟨_, rfl⟩
  have unit (x : Port) : A.unit x = s.unit x := by rw [hA]; rfl
  have port (x : Port) : A.port x = s.port x := by rw [hA]; rfl
  have served := State.serve_held asked rfl (portAt_num p _) (PortUnit.hasDevice_of_attached state) single held
    fun r t q c => t.stopBody r q c [BitVec.ofNat 8 p.num, a]
  have body := State.stopBody_ok (s := A) (r := ⟨l, (s.link l).activation, tag, BitVec.ofNat 8 0x31⟩)
    (x := BitVec.ofNat 8 p.num) (by rw [port]; exact PortUnit.stopCheck_ok code drives holds) none
  rw [unit, show A.supply = s.supply by rw [hA]; rfl] at body
  rw [← hA, body] at served
  constructor
  · intro stopped
    rw [if_pos stopped, hA] at served
    exact congrArg Host.Outcome.next (served.trans (s.accepted_answer l tag 0x31 .ok []))
  · intro normal powered
    rw [if_neg (by simp [normal, powered])] at served
    have answered := (A.stopMotion p e).linkWork_answer ⟨l, (s.link l).activation, tag, BitVec.ofNat 8 0x31⟩ .ok []
    obtain ⟨frame, replies⟩ := State.ClaimWork.answered (s := s) (t := A.stopMotion p e)
      (by rw [← hA]; exact A.claimWork_stopMotion p e) .ok [] rfl
    have kept : (A.stopMotion p e).claims = s.claims ∧ (A.stopMotion p e).pairs = s.pairs := by
      rw [(A.unitWork_stopMotion p e).frame, hA]; exact ⟨rfl, rfl⟩
    obtain ⟨claims, pairs⟩ := kept
    rw [State.answer_claims, claims, State.answer_pairs, pairs] at frame
    have own := (answered.unit p).trans (A.stopMotion_unit p e)
    rw [unit] at own
    refine ⟨_, congrArg Host.Outcome.next served, ?_, ?_, ?_, ?_, ?_, ?_, fun h => ?_, fun h => ?_, fun g rest queue => ?_,
      fun active issuers room => ?_, replies, fun x other => ?_, frame⟩
    · rw [own, MotionUnit.endAction_kept]
    · rw [own, MotionUnit.endAction_kept]
    · rw [own, MotionUnit.endAction_kept]
    · rw [own]; exact (MotionUnit.endAction_ramp _ _ _ _).1
    · rw [own]; exact (MotionUnit.endAction_ramp _ _ _ _).2
    · rw [own]; cases e <;> rfl
    · rw [own, h]; rfl
    · rw [own]
      cases e
      · exact ⟨rfl, rfl⟩
      · exact ⟨rfl, rfl⟩
      · exact absurd rfl h
    · subst hA
      obtain ⟨first, others⟩ := State.sendsEnd_stopMotion (s := s.accepted l tag 0x31) queue e
      have grows := ((s.accepted l tag 0x31).unitWork_stopMotion p e).links
      exact ⟨State.sendsEnd_answered grows first _ _ _,
        fun k mem => State.sendsEnd_answered grows (others k mem) _ _ _⟩
    · have notices : (A.link l).notices = (s.link l).notices := by rw [hA]; exact s.accepted_link_notices l l tag _
      have still : (A.link l).state = .active := by rw [hA]; exact (s.accepted_link_state l l tag _).trans active
      rw [State.answer_link_notices, ← notices]
      rw [← unit, ← notices] at room
      rw [← unit] at issuers ⊢
      rw [← port]
      cases queue : (A.unit p).queue with
      | nil =>
        refine ⟨[], ?_, rfl, fun n g at_ => by simp at at_⟩
        rw [State.link, State.stopMotion_links, State.endQueue_of_nil queue, List.append_nil]; rfl
      | cons g rest =>
        rw [queue] at issuers room
        refine ⟨A.queueEnds p .stopped .flushed g rest, ?_, A.queueEnds_length p _ _ g rest, fun n k at_ => ?_⟩
        · rw [State.link, State.stopMotion_links]
          exact State.endQueue_notices queue (fun _ => rfl) (fun _ => rfl) still issuers room
        · rw [State.queueEnds_getElem at_, show s.now = A.now by rw [hA]; rfl]
          rfl
    · rw [answered.unit, (A.unitWork_stopMotion p e).unit_ne other, unit]

end Sys2Proof.Machine
end

section
/-! The STOP line and RESUME (R58, R75, R76): O32. -/

namespace Sys2Proof.Machine

/-- Every unit is HALTED, or one is NORMAL. -/
theorem State.allHalted_iff (s : State) :
    (Port.all.all fun p => (s.unit p).halted) = true ↔ ∀ p, (s.unit p).halted = true := by
  simp [List.all_eq_true, Port.mem_all]

theorem State.anyHalted_iff (s : State) : s.anyHalted = true ↔ ∃ p, (s.unit p).halted = true := by
  simp [State.anyHalted, List.any_eq_true, Port.mem_all]

/-- A notice for each ACTIVE link stands last in its queue, unless the queue is full. -/
theorem State.notifyAll_last (s : State) (n : Notice) {l : LinkId} (active : (s.link l).state = .active) :
    32 ≤ ((s.notifyAll n).link l).notices.length ∨ ((s.notifyAll n).link l).notices.getLast? = some n :=
  (s.notifyAll_arrives n active).symm.imp And.right id

theorem State.setHalted_pairAt (s : State) (h : Bool) (q : PairId) : (s.setHalted h).pairAt q = s.pairAt q := by
  rw [State.setHalted_frame]; rfl

theorem State.notifyAll_unit (s : State) (n : Notice) (x : Port) : (s.notifyAll n).unit x = s.unit x := rfl

theorem State.notifyAll_pairAt (s : State) (n : Notice) (q : PairId) : (s.notifyAll n).pairAt q = s.pairAt q := rfl

theorem State.setHalted_link (s : State) (h : Bool) (l : LinkId) : (s.setHalted h).link l = s.link l := by
  rw [State.setHalted_frame]; rfl

theorem State.setHalted_notifyAll_frame (s : State) (h : Bool) (n : Notice) : (s.setHalted h).notifyAll n = { s with
    motion := ((s.setHalted h).notifyAll n).motion, links := ((s.setHalted h).notifyAll n).links } := by
  conv_lhs => rw [State.setHalted_frame]
  rfl

/-! ## The STOP line (R75) -/

/-- What an assertion of the STOP line does while a unit is NORMAL, but for the line itself. -/
def State.haltAll (s : State) : State := ((s.stopAll .halted .braking).setHalted true).notifyAll (.haltState true true)

theorem State.stopLineStep_normal {s : State} {p : Port} (normal : (s.unit p).halted = false) :
    s.stopLineStep = ({ s with stopLine := true } : State).haltAll := by
  have some : ¬ (Port.all.all fun p => (({ s with stopLine := true } : State).unit p).halted) = true := fun all => by
    have := (State.allHalted_iff _).mp all p
    rw [show (({ s with stopLine := true } : State).unit p).halted = (s.unit p).halted from rfl, normal] at this
    cases this
  unfold State.stopLineStep
  exact if_neg some

theorem State.haltAll_frame (s : State) : s.haltAll = { s with
    motion := s.haltAll.motion, pairs := s.haltAll.pairs, links := s.haltAll.links } := by
  obtain ⟨u, hu⟩ : ∃ u, u = s.stopAll .halted .braking := ⟨_, rfl⟩
  have stopped : u = { s with motion := u.motion, pairs := u.pairs, links := u.links } :=
    hu ▸ (s.motionWork_stopAll .halted (state := .braking) (by decide)).frame
  obtain ⟨v, hv⟩ : ∃ v, v = (u.setHalted true).notifyAll (.haltState true true) := ⟨_, rfl⟩
  have told : v = { u with motion := v.motion, links := v.links } := hv ▸ u.setHalted_notifyAll_frame true _
  have pairs : v.pairs = u.pairs := by rw [told]
  rw [State.haltAll, ← hu, ← hv, pairs]
  conv_lhs => rw [told, stopped]

theorem State.haltAll_unit (s : State) (x : Port) : s.haltAll.unit x = { s.unit x with
    halted := true, queue := [], act := if (s.unit x).queue = [] then (s.unit x).act else none
    motor := if (s.port x).drives then .braking else .coasting, hold := none
    reg := { (s.unit x).reg with duty := 0, clamped := false, holdCreep := none } } := by
  rw [State.haltAll, State.notifyAll_unit, State.setHalted_unit, s.stopAll_unit .halted (by decide)]
  rfl

theorem State.haltAll_pairAt (s : State) (q : PairId) :
    s.haltAll.pairAt q = (s.pairAt q).map fun r => if r.queue = [] then r else r.emptied := by
  rw [State.haltAll, State.notifyAll_pairAt, State.setHalted_pairAt, s.stopAll_pairAt .halted (by decide)]

theorem State.haltAll_told (s : State) {l : LinkId} (active : (s.link l).state = .active) :
    32 ≤ (s.haltAll.link l).notices.length ∨ (s.haltAll.link l).notices.getLast? = some (.haltState true true) := by
  refine State.notifyAll_last _ _ ?_
  rw [State.setHalted_link]
  exact ((s.motionWork_stopAll .halted (state := .braking) (by decide)).links l).state.trans active

/-! ## RESUME (R76) -/

theorem State.claimWork_setHalted (s : State) (h : Bool) : s.ClaimWork (s.setHalted h) := by
  rw [State.setHalted_frame]
  exact ⟨rfl, fun _ => rfl⟩

theorem State.claimWork_notifyAll (s : State) (n : Notice) : s.ClaimWork (s.notifyAll n) :=
  (s.claimWork_notify .cl0 n).trans (State.claimWork_notify _ .cl1 n)

/-- RESUME with the line released: every unit is NORMAL and each link is told. -/
def State.resumed (s : State) : State := (s.setHalted false).notifyAll (.haltState false false)

theorem State.claimWork_resumed (s : State) : s.ClaimWork s.resumed :=
  (s.claimWork_setHalted false).trans (State.claimWork_notifyAll _ _)

theorem State.resumed_frame (s : State) : s.resumed = { s with motion := s.resumed.motion, links := s.resumed.links } :=
  s.setHalted_notifyAll_frame false _

section
variable {s : State} (r : ReplyTo)

theorem State.resumeBody_normal (normal : ∀ p, (s.unit p).halted = false) : s.resumeBody r = s.answer r .ok [] := by
  have none : ¬ s.anyHalted = true := by simp [State.anyHalted_iff, normal]
  exact if_neg none

theorem State.resumeBody_asserted (halted : ∃ p, (s.unit p).halted = true) (line : s.stopLine = true) :
    s.resumeBody r = s.answer r .halted [] := by
  rw [State.resumeBody, if_pos (s.anyHalted_iff.mpr halted), if_pos line]

theorem State.resumeBody_released (halted : ∃ p, (s.unit p).halted = true) (line : s.stopLine = false) :
    s.resumeBody r = s.resumed.answer r .ok [] := by
  rw [State.resumeBody, if_pos (s.anyHalted_iff.mpr halted), line]
  rfl

end

/-- Settles O32: an assertion is `State.haltAll`, and RESUME is answered by the halt states and the line. -/
theorem haltAndResume : Obligations.HaltAndResume := by
  refine ⟨fun s all => ?_, fun s ⟨p, normal⟩ => ?_, fun s => rfl, fun l tag s asked => ⟨fun none => ?_, fun some on => ?_,
    fun some off => ?_⟩⟩
  · exact congrArg Host.Outcome.next (if_pos ((State.allHalted_iff _).mpr all))
  · obtain ⟨t, ht⟩ : ∃ t : State, t = { s with stopLine := true } := ⟨_, rfl⟩
    have unit (x : Port) : t.unit x = s.unit x := by rw [ht]; rfl
    have port (x : Port) : t.port x = s.port x := by rw [ht]; rfl
    have pair (q : PairId) : t.pairAt q = s.pairAt q := by rw [ht]; rfl
    refine ⟨t.haltAll, congrArg Host.Outcome.next (ht ▸ State.stopLineStep_normal normal), ?_, fun x => ?_, fun q r e => ?_,
      fun q => ?_, fun l active => t.haltAll_told (by rw [ht]; exact active), ?_⟩
    · rw [State.haltAll_frame, ht]
    · rw [State.haltAll_unit, unit, port]
      exact ⟨rfl, rfl, rfl, rfl, rfl, rfl, rfl⟩
    · rw [State.haltAll_pairAt] at e
      obtain ⟨x, -, rfl⟩ := Option.map_eq_some_iff.mp e
      split
      · assumption
      · rfl
    · rw [State.haltAll_pairAt, pair, Option.isSome_map]
    · conv_lhs => rw [State.haltAll_frame, ht]
      rw [ht]
  · refine congrArg Host.Outcome.next ((State.serve_asked asked rfl _).trans ?_)
    exact (State.resumeBody_normal (s := s.accepted l tag 0x34) _ none).trans (s.accepted_answer l tag 0x34 .ok [])
  · refine congrArg Host.Outcome.next ((State.serve_asked asked rfl _).trans ?_)
    exact (State.resumeBody_asserted (s := s.accepted l tag 0x34) _ some on).trans (s.accepted_answer l tag 0x34 .halted [])
  · obtain ⟨A, hA⟩ : ∃ A, A = s.accepted l tag 0x34 := ⟨_, rfl⟩
    have resumed := State.resumeBody_released (s := s.accepted l tag 0x34)
      ⟨l, (s.link l).activation, tag, BitVec.ofNat 8 0x34⟩ some off
    have answered := A.resumed.linkWork_answer ⟨l, (s.link l).activation, tag, BitVec.ofNat 8 0x34⟩ .ok []
    have kept : A.resumed.claims = s.claims ∧ A.resumed.pairs = s.pairs := by
      rw [State.resumed_frame, hA]
      exact ⟨rfl, rfl⟩
    obtain ⟨claims, pairs⟩ := kept
    obtain ⟨frame, replies⟩ := State.ClaimWork.answered (s := s) (t := A.resumed)
      (by rw [← hA]; exact A.claimWork_resumed) .ok [] rfl
    rw [State.answer_claims, claims, State.answer_pairs, pairs] at frame
    refine ⟨_, congrArg Host.Outcome.next ((State.serve_asked asked rfl _).trans (hA ▸ resumed)), fun p => ?_, replies,
      fun k active => ?_, frame⟩
    · rw [answered.unit, State.resumed, State.notifyAll_unit, State.setHalted_unit, hA]
      rfl
    · rw [State.answer_link_notices]
      refine State.notifyAll_last _ _ ?_
      rw [State.setHalted_link, hA]
      exact (s.accepted_link_state l k tag 0x34).trans active

end Sys2Proof.Machine
end

section
/-! SET_REGULATOR, SET_POSITION, MOTION_STATUS and the encoder (R78, R79, R81, R90, R99, R186): O33. -/

namespace Sys2Proof.Machine

/-! ## SET_REGULATOR (R90, R99) -/

theorem PortUnit.drives_of_encoderMotor {u : PortUnit} (h : u.encoderMotor = true) : u.drives = true := by
  simp [PortUnit.drives, h]

/-- An encoder motor takes every setting. -/
theorem PortUnit.servesSettings_encoder {u : PortUnit} (h : u.encoderMotor = true) (ps : List Byte) :
    u.servesSettings ps = true := by
  simp [PortUnit.servesSettings, PortUnit.drives_of_encoderMotor h, h]

/-- A unit that takes settings: a duty above the new ceiling is brought to it with its sign kept. -/
theorem MotionUnit.reduceDuty_given (m : MotionUnit) (k : RegSettings) (supply : Int) :
    ({ m with settings := k } : MotionUnit).reduceDuty supply = { m with
      settings := k
      reg := if min k.dutyLimit supply < mag m.reg.duty then
          { m.reg with duty := clampMag (min k.dutyLimit supply) m.reg.duty, clamped := true }
        else m.reg } := by
  unfold MotionUnit.reduceDuty ceilingOf
  extract_lets c
  split <;> rfl

/-- SET_REGULATOR on an encoder motor, of a request that took nothing over. -/
theorem State.setRegulatorBody_encoder {s : State} {p : Port} (encoder : (s.port p).encoderMotor = true) (r : ReplyTo)
    {ps : List Byte} {k : RegSettings} {c : Int} (hk : k = (s.unit p).settings.given ps)
    (hc : c = min k.dutyLimit s.supply.s) :
    s.setRegulatorBody r p none ps = (s.setUnit p { s.unit p with
        settings := k
        reg := if c < mag (s.unit p).reg.duty then
            { (s.unit p).reg with duty := clampMag c (s.unit p).reg.duty, clamped := true }
          else (s.unit p).reg }).answer r (if anySettingClamped ps then .adjusted else .ok) k.bytes := by
  unfold State.setRegulatorBody
  rw [if_pos (PortUnit.servesSettings_encoder encoder ps)]
  simp only [State.modUnit, ← hk, MotionUnit.reduceDuty_given, ← hc, State.setUnit_unit_same]
  rfl

/-- A request that answers at once after a change of one unit. -/
theorem State.accepted_setUnit_answer (s : State) (l : LinkId) (tag : Byte) (code : Nat) (p : Port) (m : MotionUnit)
    (st : Status) (payload : List Byte) :
    ((s.accepted l tag code).setUnit p m).answer ⟨l, (s.link l).activation, tag, BitVec.ofNat 8 code⟩ st payload
      = (s.setUnit p m).replied l tag code st payload :=
  (s.setUnit p m).accepted_answer l tag code st payload

/-! ## SET_POSITION (R78) -/

/-- A byte put below a value in little-endian order. -/
theorem BitVec.toNat_append_byte {n : Nat} (x : BitVec n) (y : Byte) : (x ++ y).toNat = y.toNat + 256 * x.toNat := by
  rw [BitVec.toNat_append, ← Nat.shiftLeft_add_eq_or_of_lt y.isLt, Nat.shiftLeft_eq]
  omega

/-- The four bytes of a position, the lowest first. -/
theorem longAt_position (x x0 x1 x2 x3 : Byte) :
    BitVec.ofNat 32 (longAt [x, x0, x1, x2, x3] 1) = x3 ++ x2 ++ x1 ++ x0 := by
  refine BitVec.eq_of_toNat_eq ?_
  rw [BitVec.toNat_ofNat, BitVec.toNat_append_byte, BitVec.toNat_append_byte, BitVec.toNat_append_byte]
  simp only [longAt, List.drop_succ_cons, List.drop_zero, List.take_succ_cons, List.take_zero, leValue]
  omega

theorem MotionUnit.positioning_iff (m : MotionUnit) :
    m.positioning = true ↔ m.motor = .holding ∨ (m.queue.head?.any fun g => g.work.positioning) = true := by
  simp [MotionUnit.positioning]

/-- SET_POSITION on an encoder motor, of a request that took nothing over. -/
theorem State.setPositionBody_encoder {s : State} {p : Port} (encoder : (s.port p).encoderMotor = true) (r : ReplyTo)
    (ps : List Byte) {x : BitVec 32} (hx : BitVec.ofNat 32 (longAt ps 1) = x) : s.setPositionBody r p none ps
      = if (s.unit p).motor = .holding ∨ ((s.unit p).queue.head?.any fun g => g.work.positioning) = true then
          s.answer r .moving []
        else (s.setUnit p { s.unit p with position := x, reg := (s.unit p).reg.refillAt x }).answer r .ok [] := by
  have motor : ¬ (s.port p).encoderMotor = false := by simp [encoder]
  subst hx
  unfold State.setPositionBody
  rw [if_neg motor]
  simp only [MotionUnit.positioning_iff]
  rfl

/-! ## MOTION_STATUS (R79, R186) -/

theorem optTag_eq (o : Option Byte) : optTag o = [BitVec.ofNat 8 o.isSome.toNat, o.getD 0] := by cases o <;> rfl

theorem optLong_eq (o : Option Nat) : optLong o = BitVec.ofNat 8 o.isSome.toNat :: le4 (o.getD 0) := by cases o <;> rfl

/-- The report of a port, every field at its fixed length. -/
theorem State.motionBytes_eq (s : State) (p : Port) : s.motionBytes p =
    [Config.haltModeCode (s.unit p).halted, Config.motorStateCode (s.unit p).motor]
      ++ (BitVec.ofNat 8 ((s.reportedPosition p).map BitVec.toNat).isSome.toNat
        :: le4 (((s.reportedPosition p).map BitVec.toNat).getD 0))
      ++ le4i (if (s.port p).encoderMotor then (s.unit p).reg.speed else 0) ++ le2i (s.unit p).reg.duty
      ++ [BitVec.ofNat 8 ((s.activeWork p).1.map fun a => a.1.tag).isSome.toNat,
        ((s.activeWork p).1.map fun a => a.1.tag).getD 0]
      ++ [(((s.activeWork p).1.map fun a => a.1.work.kind.code).map (BitVec.ofNat 8)).getD 0xFF]
      ++ (BitVec.ofNat 8 ((s.activeWork p).1.map fun a => a.2).isSome.toNat
        :: le4 (((s.activeWork p).1.map fun a => a.2).getD 0))
      ++ [BitVec.ofNat 8 (s.activeWork p).2]
      ++ (BitVec.ofNat 8 ((s.unit p).hold.map BitVec.toNat).isSome.toNat :: le4 (((s.unit p).hold.map BitVec.toNat).getD 0))
      ++ [BitVec.ofNat 8 (holderCode (s.claim p).holder)] ++ [BitVec.ofNat 8 (s.claim p).locked.toNat]
      ++ [(((s.pairOf p).map PairId.num).map (BitVec.ofNat 8)).getD 0xFF] := by
  rw [← optTag_eq, ← optByte_eq, ← optByte_eq, ← optLong_eq, ← optLong_eq, ← optLong_eq]
  rfl

section
variable (s : State) (p : Port)

theorem State.motionBytes_length : (s.motionBytes p).length = 30 := by rw [State.motionBytes_eq]; rfl

theorem State.motionBytes_position : ((s.motionBytes p).drop 2).take 9
    = optPos (s.reportedPosition p) ++ le4i (if (s.port p).encoderMotor then (s.unit p).reg.speed else 0) := by
  rw [State.motionBytes_eq, optPos, optLong_eq]; rfl

theorem State.motionBytes_duty : ((s.motionBytes p).drop 11).take 2 = le2i (s.unit p).reg.duty := by
  rw [State.motionBytes_eq]; rfl

theorem State.motionBytes_work : ((s.motionBytes p).drop 13).take 9
    = optTag ((s.activeWork p).1.map fun a => a.1.tag) ++ optByte ((s.activeWork p).1.map fun a => a.1.work.kind.code)
      ++ optLong ((s.activeWork p).1.map fun a => a.2) ++ byteOf (s.activeWork p).2 := by
  rw [State.motionBytes_eq, optTag_eq, optByte_eq, optLong_eq]; rfl

theorem State.motionBytes_hold : ((s.motionBytes p).drop 22).take 5 = optPos (s.unit p).hold := by
  rw [State.motionBytes_eq, optPos, optLong_eq]; rfl

theorem State.motionBytes_claim : (s.motionBytes p).drop 27 = [BitVec.ofNat 8 (holderCode (s.claim p).holder),
    BitVec.ofNat 8 (s.claim p).locked.toNat, (((s.pairOf p).map PairId.num).map (BitVec.ofNat 8)).getD 0xFF] := by
  rw [State.motionBytes_eq]; rfl

end

theorem exec_motionStatus {l : LinkId} {tag : Byte} {p : Port} {s : State}
    (asked : s.asked l tag 0x38 [BitVec.ofNat 8 p.num]) : exec (.motionStatus l tag [BitVec.ofNat 8 p.num]) s
      = .next (s.replied l tag 0x38 .ok (s.motionBytes p)) := by
  change Host.Outcome.next (s.serve l tag 0x38 _ _) = _
  rw [State.serve_asked asked rfl]
  simp only [portAt_num]
  exact congrArg Host.Outcome.next (s.accepted_answer l tag 0x38 .ok (s.motionBytes p))

/-! ## The encoder (R81) -/

/-- A change of neither line counts nothing. -/
theorem quadCount_neither (a b : Bool) : quadCount a b a b = 0 := by cases a <;> cases b <;> rfl

/-- A change of both lines at once counts nothing. -/
theorem quadCount_both (a b : Bool) : quadCount a b (!a) (!b) = 0 := by cases a <;> cases b <;> rfl

/-- ENCA changes: ENCA leads where the lines then differ. -/
theorem quadCount_encA (a b : Bool) : quadCount a b (!a) b = if (!a) = b then -1 else 1 := by
  cases a <;> cases b <;> rfl

/-- ENCB changes: it follows ENCA where the lines then agree. -/
theorem quadCount_encB (a b : Bool) : quadCount a b a (!b) = if a = (!b) then 1 else -1 := by
  cases a <;> cases b <;> rfl

/-- Settles O33: each request by the lemma of its part, the report by the lemmas of its fields, the encoder by its count. -/
theorem positionSettingsAndStatus : Obligations.PositionSettingsAndStatus := by
  refine ⟨⟨fun l tag ps p s m k c asked length port single held state encoder hm hk hc => ?_,
    fun l tag x0 x1 x2 x3 p s m x asked hx single held state encoder hm => ?_, fun l tag p s asked => ?_⟩,
    fun p a b s => ?_⟩
  · subst hm
    have allowed : lengthAllowed 0x32 ps = some true := by simp [lengthAllowed, length]
    have served := State.serve_held asked allowed port (PortUnit.hasDevice_of_attached state) single held
      fun r t q e => t.setRegulatorBody r q e ps
    have body := State.setRegulatorBody_encoder (s := s.accepted l tag 0x32) encoder
      ⟨l, (s.link l).activation, tag, BitVec.ofNat 8 0x32⟩ hk hc
    refine ⟨_, ?_, congrArg Host.Outcome.next ((served.trans body).trans
      (s.accepted_setUnit_answer l tag 0x32 p _ (if anySettingClamped ps then .adjusted else .ok) k.bytes))⟩
    split
    · exact .inr rfl
    · exact .inl rfl
  · subst hm
    have served := State.serve_held asked rfl (portAt_num p _) (PortUnit.hasDevice_of_attached state) single held
      fun r t q e => t.setPositionBody r q e [BitVec.ofNat 8 p.num, x0, x1, x2, x3]
    have body := State.setPositionBody_encoder (s := s.accepted l tag 0x33) encoder
      ⟨l, (s.link l).activation, tag, BitVec.ofNat 8 0x33⟩ _
      ((longAt_position (BitVec.ofNat 8 p.num) x0 x1 x2 x3).trans hx.symm)
    refine congrArg Host.Outcome.next ((served.trans body).trans ?_)
    split
    · rename_i moving
      exact (s.accepted_answer l tag 0x33 .moving []).trans (if_pos moving).symm
    · rename_i moving
      exact (s.accepted_setUnit_answer l tag 0x33 p _ .ok []).trans (if_neg moving).symm
  · refine ⟨_, exec_motionStatus asked, rfl, s.motionBytes_length p, ?_, s.motionBytes_duty p,
      fun single => ⟨fun g rest queue => ?_, fun queue => ?_⟩, fun q r g rest paired record queue => ?_, ?_, ?_⟩
    · rw [State.motionBytes_position, State.reportedPosition]
      cases (s.port p).encoderMotor
      · exact (by decide : optPos none ++ le4i 0 = [0, 0, 0, 0, 0, 0, 0, 0, 0])
      · rfl
    · have work : s.activeWork p = (some (g, s.elapsed p), rest.length) := by
        simp [State.activeWork, single, queue]
      rw [State.motionBytes_work, work]
      rfl
    · have work : s.activeWork p = (none, 0) := by simp [State.activeWork, single, queue]
      rw [State.motionBytes_work, work]
      rfl
    · have work : s.activeWork p = (some (g.seg, s.pairElapsed r), rest.length) := by
        simp [State.activeWork, paired, record, queue]
      rw [State.motionBytes_work, work]
      rfl
    · rw [State.motionBytes_hold]
      cases (s.unit p).hold <;> rfl
    · rw [State.motionBytes_claim]
      refine congrArg₂ List.cons ?_ (congrArg₂ List.cons ?_ (congrArg (fun x => [x]) ?_))
      · cases (s.claim p).holder with
        | none => rfl
        | some i => cases i <;> rfl
      · cases (s.claim p).locked <;> rfl
      · cases s.pairOf p <;> rfl
  · refine ⟨quadCount (s.unit p).encA (s.unit p).encB a b, rfl, ?_, ?_, ?_, ?_⟩
    · rintro rfl rfl
      exact quadCount_neither _ _
    · intro ha hb
      obtain rfl := Bool.eq_not_iff.mpr ha.symm
      obtain rfl := Bool.eq_not_iff.mpr hb.symm
      exact quadCount_both _ _
    · rintro ha rfl
      obtain rfl := Bool.eq_not_iff.mpr ha.symm
      exact quadCount_encA _ _
    · rintro rfl hb
      obtain rfl := Bool.eq_not_iff.mpr hb.symm
      exact quadCount_encB _ _

end Sys2Proof.Machine
end

section
/-! MOVE (R60 to R65): O30. -/

namespace Sys2Proof.Machine

/-! ## The checks of MOVE (R60, R62) -/

theorem State.condValid_iff {s : State} {c : StopCond} : s.condValid c = true ↔ (s.port c.source).sample.isSome = true
    ∧ c.index < (((s.port c.source).modeDesc c.mode).map ModeDesc.valueCount).getD 0 := by
  unfold State.condValid
  cases (s.port c.source).modeDesc c.mode <;> simp

/-- The stop condition of a MOVE is accepted where it can be decided. -/
theorem State.condAccepted_iff {s : State} {ports : List Port} {c : Option StopCond} :
    s.condAccepted ports c = true ↔ ∀ x ∈ c, s.decides ports x := by
  cases c with
  | none => simp [State.condAccepted]
  | some x => simp [State.condAccepted, State.condValid_iff, State.decides]

theorem PortUnit.serves_of {u : PortUnit} {g : Segment} (drives : u.drives = true)
    (kind : u.encoderMotor = true ∨ (g.work.regulated = false ∧ g.endAction ≠ .hold)) : u.serves g = true := by
  obtain encoder | ⟨family, ends⟩ := kind
  · simp [PortUnit.serves, drives, encoder]
  · simp [PortUnit.serves, drives, family, ends]

section
variable {s : State} {r : ReplyTo} {p : Port} {ps : List Byte} {g : Segment} {replace : Bool}

/-- A MOVE whose values, device and machine state are accepted is refused for its condition or for want of room alone. -/
theorem State.moveCheck_eq (block : blockSegment r.link r.tag ps 1 = some g) (placement : placementAt ps 27 = some replace)
    (serves : (s.port p).serves g = true) (normal : (s.unit p).halted = false) (powered : s.supply.state ≠ .brownout) :
    s.moveCheck r p ps = if s.condAccepted [p] g.cond = false then .error .badParam
      else if replace = false ∧ 4 ≤ (s.unit p).queue.length then .error .queueFull else .ok (g, replace) := by
  simp [State.moveCheck, block, placement, serves, normal, powered]

theorem State.moveBody_refused {st : Status} (check : s.moveCheck r p ps = .error st) :
    s.moveBody r p none ps = s.answer r st [] := by
  unfold State.moveBody
  rw [check]
  rfl

/-- An accepted MOVE that took nothing over: the segment in range is placed, and OK or ADJUSTED answered (R61). -/
theorem State.moveBody_placed {g' : Segment} (check : s.moveCheck r p ps = .ok (g, replace))
    (hg : g' = g.inRange (s.port p).maxSpeed) : s.moveBody r p none ps
      = (s.placeSegment p g' replace none).answer r (if g' = g then .ok else .adjusted)
        (if g' = g then [] else g'.appliedBytes) := by
  subst hg
  unfold State.moveBody
  rw [check]
  simp only [Option.map_none]
  split <;> rfl

end

@[simp] theorem State.setUnit_setUnit (s : State) (p : Port) (m n : MotionUnit) :
    (s.setUnit p m).setUnit p n = s.setUnit p n := by
  simp [State.setUnit]

/-! ## The start of a segment (R63 to R65) -/

/-- A motor that a segment starts: the segment alone is queued, with its activation record, and the regulator is loaded as
the motor stood. -/
def MotionUnit.started (m : MotionUnit) (g : Segment) (a : Activation) (prev : Option Bool) : MotionUnit :=
  { m with
    queue := [g], act := some a, motor := .running, hold := none
    reg := { m.regulatorStart prev g.work.regulated with holdCreep := none } }

/-- The first segment of a queue becomes active where its condition can be decided. -/
theorem State.activate_valid {s : State} {p : Port} {g : Segment} (queue : (s.unit p).queue = [g])
    (valid : (g.cond.all fun c => s.condValid c) = true) (prev : Option Bool) :
    s.activate p prev = s.setUnit p ((s.unit p).started g (s.activation p g) prev) := by
  unfold State.activate
  rw [queue]
  simp only [valid, if_true, State.modUnit, State.setUnit_setUnit, State.setUnit_unit_same]
  rw [MotionUnit.started, ← queue]
  rfl

/-- A segment that is placed first: every other one ends, and it starts. -/
theorem State.placeSegment_first {s : State} {p : Port} {g : Segment} {replace : Bool}
    (first : replace = true ∨ (s.unit p).queue = []) (valid : (g.cond.all fun c => s.condValid c) = true)
    (taken : Option Segment) : s.placeSegment p g replace taken = (s.endQueue p .replaced .flushed).setUnit p
      ((s.unit p).started g (s.activation p g) (((s.unit p).queue.head?.or taken).map fun x => x.work.regulated)) := by
  obtain ⟨u, hu⟩ : ∃ u, u = s.endQueue p .replaced .flushed := ⟨_, rfl⟩
  have frame := (s.unitWork_endQueue p .replaced .flushed).frame
  have unit := s.endQueue_unit p .replaced .flushed
  rw [← hu] at frame unit ⊢
  have ports (x : Port) : u.port x = s.port x := by rw [frame]; rfl
  have decided : (g.cond.all fun c => (u.modUnit p fun m => { m with queue := [g] }).condValid c) = true := by
    simpa only [State.condValid, State.modUnit_port, ports] using valid
  have record : (u.modUnit p fun m => { m with queue := [g] }).activation p g = s.activation p g := by
    simp only [State.activation, State.baseline, State.modUnit_port, ports, State.modUnit_unit_same, unit]
    rw [frame]
    rfl
  unfold State.placeSegment
  simp only [if_pos first, ← hu]
  rw [State.activate_valid (by rw [State.modUnit_unit_same]) decided, record, State.modUnit_unit_same, unit]
  rw [State.modUnit, State.setUnit_setUnit]
  rfl

/-- A segment appended behind others waits. -/
theorem State.placeSegment_append {s : State} {p : Port} (some : 1 ≤ (s.unit p).queue.length) (g : Segment)
    (taken : Option Segment) :
    s.placeSegment p g false taken = s.setUnit p { s.unit p with queue := (s.unit p).queue ++ [g] } := by
  have waits : ¬ (false = true ∨ (s.unit p).queue = []) := by
    rintro (h | h)
    · cases h
    · rw [h] at some; cases some
  unfold State.placeSegment
  exact if_neg waits

/-- The regulator of a first segment, in the words of the statement (R65, step 3). -/
theorem MotionUnit.regulatorStart_none (m : MotionUnit) (regulated : Bool) : m.regulatorStart none regulated = { m.reg with
    acc := clampMag 32000000 (if regulated then m.reg.speed * 1000
      else if m.motor = .coasting ∨ m.motor = .braking then 0 else m.reg.duty * 1000)
    integral := if regulated = true ∧ m.motor ≠ .holding then 0 else m.reg.integral } := by
  unfold MotionUnit.regulatorStart
  cases motor : m.motor <;> cases regulated <;> simp [loadAcc] <;> rfl

/-- Within one family a running motor keeps its ramp accumulator and integral. -/
theorem MotionUnit.regulatorStart_running {m : MotionUnit} (motor : m.motor = .running) (regulated : Bool) :
    m.regulatorStart (some regulated) regulated = m.reg := by
  unfold MotionUnit.regulatorStart
  rw [motor]
  cases regulated <;> rfl

/-- A condition that can be decided on a port not named can be decided. -/
theorem State.condValid_of_decides {s : State} {ports : List Port} {c : Option StopCond} (h : ∀ x ∈ c, s.decides ports x) :
    (c.all fun x => s.condValid x) = true := by
  cases c with
  | none => rfl
  | some x =>
    obtain ⟨-, record, index⟩ := h x rfl
    exact State.condValid_iff.mpr ⟨record, index⟩

/-- The unit that a first segment starts, in the words of the statement (R65). -/
theorem MotionUnit.started_first (m : MotionUnit) (g : Segment) (a : Activation) : m.started g a none = { m with
    queue := [g], motor := .running, hold := none, act := some a
    reg := { m.reg with
      acc := clampMag 32000000 (if g.work.regulated then m.reg.speed * 1000
        else if m.motor = .coasting ∨ m.motor = .braking then 0 else m.reg.duty * 1000)
      integral := if g.work.regulated = true ∧ m.motor ≠ .holding then 0 else m.reg.integral
      holdCreep := none } } := by
  rw [MotionUnit.started, MotionUnit.regulatorStart_none]

/-! ## MOVE of the link that holds the port -/

section
variable {s : State} {l : LinkId} {tag : Byte} {ps : List Byte} {p : Port} {g g' : Segment} {replace : Bool}

/-- The request of a MOVE as it is taken. -/
def State.moveRequest (s : State) (l : LinkId) (tag : Byte) : ReplyTo := ⟨l, (s.link l).activation, tag, BitVec.ofNat 8 0x30⟩

theorem exec_move_held (asked : s.asked l tag 0x30 ps) (length : ps.length = 28) (port : portAt ps 0 = some p)
    (single : s.pairOf p = none) (held : (s.claim p).holder = some l)
    (state : (s.port p).state ∈ [PortState.passive, .active, .describing]) :
    exec (.move l tag ps) s = .next ((s.accepted l tag 0x30).moveBody (s.moveRequest l tag) p none ps) := by
  have allowed : lengthAllowed 0x30 ps = some true := by simp [lengthAllowed, length]
  exact congrArg Host.Outcome.next (State.serve_held asked allowed port (PortUnit.hasDevice_of_attached state) single held
    fun r t q e => t.moveBody r q e ps)

/-- A decided segment that is placed first starts as its request is taken. -/
theorem State.placeSegment_starts (decided : ∀ c ∈ g.cond, s.decides [p] c) (hg : g' = g.inRange (s.port p).maxSpeed)
    (first : replace = true ∨ (s.unit p).queue = []) : (s.accepted l tag 0x30).placeSegment p g' replace none
      = ((s.accepted l tag 0x30).endQueue p .replaced .flushed).setUnit p ((s.unit p).started g'
        (s.activation p g') ((s.unit p).queue.head?.map fun x => x.work.regulated)) := by
  have valid : (g'.cond.all fun c => s.condValid c) = true := hg ▸ State.condValid_of_decides decided
  have placed := State.placeSegment_first (s := s.accepted l tag 0x30) first valid none
  rw [Option.or_none] at placed
  exact placed

/-- What the check of a MOVE finds. -/
structure State.MoveReady (s : State) (l : LinkId) (tag : Byte) (ps : List Byte) (p : Port) (g : Segment) (replace : Bool) :
    Prop where
  block : blockSegment l tag ps 1 = some g
  placement : placementAt ps 27 = some replace
  serves : (s.port p).serves g = true
  normal : (s.unit p).halted = false
  powered : s.supply.state ≠ .brownout

variable (ready : s.MoveReady l tag ps p g replace)
include ready

theorem State.MoveReady.check : (s.accepted l tag 0x30).moveCheck (s.moveRequest l tag) p ps
    = if s.condAccepted [p] g.cond = false then .error .badParam
      else if replace = false ∧ 4 ≤ (s.unit p).queue.length then .error .queueFull else .ok (g, replace) :=
  State.moveCheck_eq (s := s.accepted l tag 0x30) ready.block ready.placement ready.serves ready.normal ready.powered

/-- A condition that cannot be decided is refused. -/
theorem State.MoveReady.undecided (h : ∃ c ∈ g.cond, ¬ s.decides [p] c) :
    (s.accepted l tag 0x30).moveBody (s.moveRequest l tag) p none ps = s.replied l tag 0x30 .badParam [] := by
  obtain ⟨c, mem, cannot⟩ := h
  have refused : s.condAccepted [p] g.cond = false :=
    Bool.eq_false_iff.mpr fun k => cannot (State.condAccepted_iff.mp k c mem)
  have check := ready.check
  rw [if_pos refused] at check
  exact (State.moveBody_refused check).trans (s.accepted_answer l tag 0x30 .badParam [])

section
variable (decided : ∀ c ∈ g.cond, s.decides [p] c)
include decided

/-- APPEND behind four segments finds no room. -/
theorem State.MoveReady.full (long : 4 ≤ (s.unit p).queue.length) (append : replace = false) :
    (s.accepted l tag 0x30).moveBody (s.moveRequest l tag) p none ps = s.replied l tag 0x30 .queueFull [] := by
  have check := ready.check
  rw [if_neg (by simp [State.condAccepted_iff.mpr decided]), if_pos ⟨append, long⟩] at check
  exact (State.moveBody_refused check).trans (s.accepted_answer l tag 0x30 .queueFull [])

/-- A MOVE with a decided condition and room is placed. -/
theorem State.MoveReady.placed (room : replace = true ∨ (s.unit p).queue.length < 4)
    (hg : g' = g.inRange (s.port p).maxSpeed) : (s.accepted l tag 0x30).moveBody (s.moveRequest l tag) p none ps
      = ((s.accepted l tag 0x30).placeSegment p g' replace none).answer (s.moveRequest l tag)
        (if g' = g then .ok else .adjusted) (if g' = g then [] else g'.appliedBytes) := by
  have check := ready.check
  have roomy : ¬ (replace = false ∧ 4 ≤ (s.unit p).queue.length) := by
    rintro ⟨rfl, long⟩
    obtain h | h := room
    · cases h
    · omega
  rw [if_neg (by simp [State.condAccepted_iff.mpr decided]), if_neg roomy] at check
  exact State.moveBody_placed (s := s.accepted l tag 0x30) check hg

end
end

/-- Settles O30: the claim step lets the holder through, and each case of the statement is an outcome of the check of
MOVE. -/
theorem moveQueuesOrReplaces : Obligations.MoveQueuesOrReplaces := by
  refine ⟨fun l tag ps p s u m g g' replace asked length port block placement hu hm single held state drives kind normal
    powered hg => ?_, fun l tag ps p s m g old rest asked length port block decided placement hm single held state encoder
    normal powered motor queue => ?_⟩
  · subst hu hm
    have run := exec_move_held asked length port single held state
    have ready : s.MoveReady l tag ps p g replace := ⟨block, placement, PortUnit.serves_of drives kind, normal, powered⟩
    refine ⟨fun cannot => run.trans (congrArg Host.Outcome.next (ready.undecided cannot)), fun decided empty => ?_,
      fun decided some few append => ?_,
      fun decided long append => run.trans (congrArg Host.Outcome.next (ready.full decided long append))⟩
    · have room : (s.unit p).queue.length < 4 := by rw [empty]; decide
      have starts := State.placeSegment_starts (l := l) (tag := tag) (replace := replace) decided hg (.inr empty)
      rw [State.endQueue_of_nil (by exact empty), empty] at starts
      rw [run, ready.placed decided (.inr room) hg, starts]
      refine congrArg Host.Outcome.next ((s.accepted_setUnit_answer l tag 0x30 p _ _ _).trans ?_)
      rw [List.head?_nil, Option.map_none, MotionUnit.started_first]
      subst hg
      rfl
    · subst append
      rw [run, ready.placed decided (.inr (by omega)) hg, State.placeSegment_append (by exact some)]
      exact congrArg Host.Outcome.next (s.accepted_setUnit_answer l tag 0x30 p _ _ _)
  · subst hm
    have run := exec_move_held asked length port single held state
    have ready : s.MoveReady l tag ps p g true :=
      ⟨block, placement, PortUnit.serves_of (PortUnit.drives_of_encoderMotor encoder) (.inl encoder), normal, powered⟩
    obtain ⟨A, hA⟩ : ∃ A, A = s.accepted l tag 0x30 := ⟨_, rfl⟩
    obtain ⟨g', hg⟩ : ∃ g', g' = g.inRange (s.port p).maxSpeed := ⟨_, rfl⟩
    obtain ⟨x, hx⟩ : ∃ x, x = (s.unit p).started g' (s.activation p g') (some old.work.regulated) := ⟨_, rfl⟩
    have starts := State.placeSegment_starts (l := l) (tag := tag) (replace := true) decided hg (.inl rfl)
    rw [queue, List.head?_cons, Option.map_some, ← hx, ← hA] at starts
    rw [ready.placed decided (.inl rfl) hg, ← hA, starts] at run
    have unit (y : Port) : A.unit y = s.unit y := by rw [hA]; rfl
    have ended := A.unitWork_endQueue p .replaced .flushed
    have answered := ((A.endQueue p .replaced .flushed).setUnit p x).linkWork_answer (s.moveRequest l tag)
      (if g' = g then .ok else .adjusted) (if g' = g then [] else g'.appliedBytes)
    have own := (answered.unit p).trans (State.setUnit_unit_same _ p x)
    refine ⟨_, run, ?_⟩
    rw [own, ← hg]
    refine ⟨by rw [hx]; rfl, by rw [hx]; rfl, by rw [hx]; rfl, by rw [hx]; rfl, by rw [hx]; rfl, by rw [hx, hg]; rfl,
      fun family => ?_, fun active first others room => ?_, fun y other => ?_, ?_⟩
    · have same : g'.work.regulated = old.work.regulated := by rw [hg]; exact family.symm
      have keeps := MotionUnit.regulatorStart_running motor old.work.regulated
      rw [hx, MotionUnit.started, same, keeps]
      exact ⟨rfl, rfl⟩
    · have told := State.endQueue_notices (s := A) (p := p) (l := l) (a := .replaced) (w := .flushed)
        ((congrArg MotionUnit.queue (unit p)).trans queue) (fun _ => rfl) (fun _ => rfl)
        (by rw [hA]; exact (s.accepted_link_state l l tag _).trans active)
        (by simpa [first] using others) (by rw [hA, State.accepted_link_notices, ← queue]; exact room)
      refine ⟨A.queueEnds p .replaced .flushed old rest, ?_, ?_, ⟨_, rfl, rfl, rfl, rfl⟩, fun n mem => ?_⟩
      · rw [State.answer_link_notices, ← s.accepted_link_notices l l tag 0x30, ← hA]
        exact told
      · rw [State.queueEnds_length, queue]
      · obtain ⟨k, -, rfl⟩ := List.mem_map.mp (show n ∈ rest.map _ from mem)
        exact ⟨_, rfl, rfl, rfl⟩
    · rw [answered.unit, State.setUnit_unit_ne _ _ _ other, ended.unit_ne other, unit]
    · obtain ⟨frame, -⟩ := State.ClaimWork.answered (s := s) (l := l) (tag := tag) (code := 0x30)
        (by rw [← hA]; exact (A.claimWork_endQueue p .replaced .flushed).trans (State.claimWork_modUnit _ p fun _ => x))
        (if g' = g then .ok else .adjusted) (if g' = g then [] else g'.appliedBytes) rfl
      have kept : (A.endQueue p .replaced .flushed).claims = s.claims
          ∧ (A.endQueue p .replaced .flushed).pairs = s.pairs := by
        rw [ended.frame, hA]; exact ⟨rfl, rfl⟩
      obtain ⟨claims, pairs⟩ := kept
      rw [State.answer_claims, State.answer_pairs, State.modUnit_claims, State.modUnit_pairs, claims, pairs] at frame
      exact frame

end Sys2Proof.Machine
end

section
/-! The duty ceilings (R90, R116, R117): the bounds of the supply monitor, the duty of a unit within its port's ceiling,
and the operations of the units and pairs that keep them. -/

namespace Sys2Proof.Machine

/-! ## The bounds (R90, R116, R117) -/

/-- The current ceiling and the supply ceiling within their bounds, the volume ceiling formed from the supply ceiling. -/
structure Supply.Bounded (m : Supply) : Prop where
  current : 250 ≤ m.ci ∧ m.ci ≤ 1000
  ceiling : 250 ≤ m.s ∧ m.s ≤ 1000
  volume : m.volCeil = truncDiv (m.s * 256) 1000

/-- A unit whose duty is within the ceiling that its duty limit and the supply ceiling `c` form. -/
structure MotionUnit.Within (c : Int) (m : MotionUnit) : Prop where
  limit : 100 ≤ m.settings.dutyLimit ∧ m.settings.dutyLimit ≤ 1000
  duty : mag m.reg.duty ≤ ceilingOf m.settings.dutyLimit c

/-- The invariant of the drive, by its parts. -/
structure State.Within (s : State) : Prop where
  supply : s.supply.Bounded
  units : ∀ p, (s.unit p).Within s.supply.s

theorem State.within_iff {s : State} : s.Within ↔ s.driveInv := by
  constructor
  · intro ⟨⟨current, ceiling, volume⟩, units⟩
    exact ⟨current.1, current.2, ceiling.1, ceiling.2, volume, fun p _ =>
      ⟨(units p).limit.1, (units p).limit.2, (units p).duty⟩⟩
  · intro ⟨ciLow, ciHigh, low, high, volume, units⟩
    refine ⟨⟨⟨ciLow, ciHigh⟩, ⟨low, high⟩, volume⟩, fun p => ?_⟩
    obtain ⟨limitLow, limitHigh, duty⟩ := units p (Port.mem_all p)
    exact ⟨⟨limitLow, limitHigh⟩, duty⟩

/-! ## A unit's duty within its ceiling (R90) -/

theorem mag_clampMag_le {c : Int} (h : 0 ≤ c) (x : Int) : mag (clampMag c x) ≤ c := by
  rw [clampMag, clamp_eq_max_min (by omega), mag]
  omega

section
variable {c : Int} {m : MotionUnit}

theorem MotionUnit.Within.ceiling_nonneg (h : m.Within c) : 0 ≤ ceilingOf m.settings.dutyLimit c :=
  le_trans (Int.natCast_nonneg _) h.duty

theorem MotionUnit.Within.of_duty (h : m.Within c) {n : MotionUnit} (settings : n.settings = m.settings)
    (duty : n.reg.duty = m.reg.duty) : n.Within c :=
  ⟨settings ▸ h.limit, by rw [duty, settings]; exact h.duty⟩

theorem MotionUnit.Within.settle (h : m.Within c) (state : MotorState) : (m.settle state).Within c :=
  ⟨h.limit, h.ceiling_nonneg⟩

theorem MotionUnit.Within.endAction (h : m.Within c) (a : EndAction) (position : BitVec 32) (creep : Int) :
    (m.endAction a position creep).Within c := by
  cases a with
  | coast => exact h.settle .coasting
  | brake => exact h.settle .braking
  | hold => exact h.of_duty rfl rfl

theorem MotionUnit.regulatorStart_duty (m : MotionUnit) (prev : Option Bool) (regulated : Bool) :
    (m.regulatorStart prev regulated).duty = m.reg.duty := by
  unfold MotionUnit.regulatorStart
  extract_lets r
  repeat' split
  all_goals rfl

theorem MotionUnit.Within.pairStart (h : m.Within c) (lead : Bool) (prev : Option Lead) :
    (m.pairStart lead prev).Within c := h.of_duty rfl (m.regulatorStart_duty _ true)

/-- A unit with its settings' duty limit in range whose duty was just put inside the ceiling. -/
theorem MotionUnit.within_clamped {n : MotionUnit} (limit : 100 ≤ n.settings.dutyLimit ∧ n.settings.dutyLimit ≤ 1000)
    (up : 0 ≤ c) {x : Int} (duty : n.reg.duty = clampMag (ceilingOf n.settings.dutyLimit c) x) : n.Within c := by
  refine ⟨limit, ?_⟩
  rw [duty]
  exact mag_clampMag_le (le_min (by omega) up) x

/-- The duty that a speed target gives is inside the ceiling, whatever it was before (R90). -/
theorem MotionUnit.within_drive {sup : Supply} (up : 0 ≤ sup.s)
    (limit : 100 ≤ m.settings.dutyLimit ∧ m.settings.dutyLimit ≤ 1000) (target : Int) : (m.drive sup target).Within sup.s :=
  MotionUnit.within_clamped limit up rfl

/-- The reduction to a new ceiling puts every duty inside it (R90). -/
theorem MotionUnit.within_reduceDuty (up : 0 ≤ c) (limit : 100 ≤ m.settings.dutyLimit ∧ m.settings.dutyLimit ≤ 1000) :
    (m.reduceDuty c).Within c := by
  unfold MotionUnit.reduceDuty
  extract_lets ceiling
  split
  · exact MotionUnit.within_clamped limit up rfl
  · rename_i inside
    exact ⟨limit, not_lt.mp inside⟩

theorem RegSettings.fresh_dutyLimit : 100 ≤ RegSettings.fresh.dutyLimit ∧ RegSettings.fresh.dutyLimit ≤ 1000 := by decide

theorem MotionUnit.within_attach (up : 0 ≤ c) (m : MotionUnit) : m.attach.Within c :=
  ⟨RegSettings.fresh_dutyLimit, le_min (show (0 : Int) ≤ 1000 by decide) up⟩

theorem MotionUnit.within_restart (up : 0 ≤ c) (m : MotionUnit) (stop : Bool) : (m.restart stop).Within c :=
  ⟨RegSettings.fresh_dutyLimit, le_min (show (0 : Int) ≤ 1000 by decide) up⟩

/-- The duty limit that SET_REGULATOR leaves is in its range: a given one is clamped to it (R99). -/
theorem MotionUnit.Within.given_dutyLimit (h : m.Within c) (ps : List Byte) :
    100 ≤ (m.settings.given ps).dutyLimit ∧ (m.settings.given ps).dutyLimit ≤ 1000 := by
  obtain ⟨limit, -⟩ := h
  simp only [RegSettings.given, setting]
  split
  · rw [clamp_eq_max_min (by decide)]; omega
  · exact limit

/-- The default duty limit lies above no duty that was within a limit before it (R90, R98). -/
theorem MotionUnit.Within.descriptorDefaults (h : m.Within c) (head : Head) :
    (m.descriptorDefaults head).Within c := by
  refine ⟨RegSettings.fresh_dutyLimit, le_trans h.duty ?_⟩
  exact min_le_min_right c h.limit.2

theorem MotionUnit.rampStage_settings (m : MotionUnit) (g : Segment) (phase : Phase) (dir d : Int) :
    (m.rampStage g phase dir d).1.settings = m.settings := by
  unfold MotionUnit.rampStage
  split <;> rfl

end

/-! ## Changes of the state -/

section
variable {s : State} (h : s.Within)
include h

theorem State.Within.up : 0 ≤ s.supply.s := le_trans (by decide) h.supply.ceiling.1

/-- What leaves the units, and of the supply monitor its ceilings, as they are keeps the bounds. -/
theorem State.Within.of_motion {t : State} (motion : t.motion = s.motion) (supply : t.supply = s.supply) : t.Within :=
  ⟨supply ▸ h.supply, fun p => by rw [State.unit, motion, supply]; exact h.units p⟩

theorem State.Within.of_tables {t : State} (tables : t.tables = s.tables) (supply : t.supply = s.supply) : t.Within :=
  h.of_motion (congrArg Tables.motion tables) supply

theorem State.Within.linkWork {t : State} (w : s.LinkWork t) : t.Within := h.of_motion w.motion (by rw [w.frame])

theorem State.Within.setUnit (p : Port) {m : MotionUnit} (k : m.Within s.supply.s) : (s.setUnit p m).Within := by
  refine ⟨h.supply, fun x => ?_⟩
  rw [State.setUnit_unit]
  split
  · exact k
  · exact h.units x

theorem State.Within.modUnit (p : Port) {f : MotionUnit → MotionUnit}
    (k : (s.unit p).Within s.supply.s → (f (s.unit p)).Within s.supply.s) : (s.modUnit p f).Within :=
  h.setUnit p (k (h.units p))

/-- Work on one unit keeps the bounds where the unit is within its ceiling. -/
theorem State.Within.unitWork {p : Port} {t : State} (w : s.UnitWork p t) (k : (t.unit p).Within s.supply.s) :
    t.Within := by
  rw [w.frame]
  exact (h.setUnit p k).of_motion rfl rfl

theorem State.Within.setPair (q : PairId) (r : Option PairRec) : (s.setPair q r).Within := h.of_motion rfl rfl

theorem State.Within.modPair (q : PairId) (f : PairRec → PairRec) : (s.modPair q f).Within := h.setPair q _

theorem State.Within.setClaim (p : Port) (c : Claim) : (s.setClaim p c).Within := h.of_motion rfl rfl

theorem State.Within.modPort (p : Port) (f : PortUnit → PortUnit) : (s.modPort p f).Within := h.of_motion rfl rfl

theorem State.Within.setStreams (es : List StreamEntry) : (s.setStreams es).Within := h.of_motion rfl rfl

theorem State.Within.notify (l : LinkId) (n : Notice) : (s.notify l n).Within := h.of_motion rfl rfl

theorem State.Within.notifyAll (n : Notice) : (s.notifyAll n).Within := h.of_motion rfl rfl

theorem State.Within.answer (r : ReplyTo) (st : Status) (payload : List Byte) : (s.answer r st payload).Within :=
  h.linkWork (s.linkWork_answer r st payload)

end

/-- What keeps the bounds step by step keeps them through a fold. -/
theorem State.Within.foldl {β : Type} {f : State → β → State} (k : ∀ t x, State.Within t → (f t x).Within) (xs : List β)
    {s : State} (h : s.Within) : (xs.foldl f s).Within :=
  foldl_induct (R := fun s t => State.Within s → State.Within t) (fun _ i => i) (fun a b i => b (a i)) xs
    (fun t x _ => k t x) s h

/-! ## The operations of a unit (R65 to R72) -/

section
variable {s : State} (h : s.Within)
include h

theorem State.Within.endQueue (p : Port) (a w : SegOutcome) : (s.endQueue p a w).Within := by
  refine h.unitWork (s.unitWork_endQueue p a w) ?_
  rw [State.endQueue_unit]
  exact (h.units p).of_duty rfl rfl

theorem State.Within.abortSegment (p : Port) (o : SegOutcome) : (s.abortSegment p o).Within := by
  unfold State.abortSegment
  split
  · exact h
  · exact (h.endQueue p o .flushed).modUnit p fun i => i.endAction _ _ _

theorem State.Within.activate (p : Port) (prev : Option Bool) : (s.activate p prev).Within := by
  unfold State.activate
  split
  · exact h
  · extract_lets t
    have recorded : t.Within := h.modUnit p fun i => i.of_duty rfl rfl
    split
    · exact recorded.modUnit p fun i => i.of_duty rfl ((t.unit p).regulatorStart_duty _ _)
    · exact recorded.abortSegment p _

theorem State.Within.finishSegment (p : Port) (o : SegOutcome) : (s.finishSegment p o).Within := by
  unfold State.finishSegment
  split
  · exact h
  · exact h.abortSegment p o
  · exact ((h.linkWork (s.linkWork_endNotice p none _ o _)).modUnit p fun i => i.of_duty rfl rfl).activate p _

theorem State.Within.settleUnit (p : Port) (state : MotorState) : (s.settleUnit p state).Within :=
  h.modUnit p fun i => i.settle _

theorem State.Within.settleClaim (p : Port) (e : Option Settlement) : (s.settleClaim p e).Within := by
  unfold State.settleClaim
  split
  · exact h.modUnit p fun i => i.endAction _ _ _
  · exact h

theorem State.Within.placeSegment (p : Port) (g : Segment) (replace : Bool) (taken : Option Segment) :
    (s.placeSegment p g replace taken).Within := by
  unfold State.placeSegment
  extract_lets held prev
  split
  · exact ((h.endQueue p _ _).modUnit p fun i => i.of_duty rfl rfl).activate p _
  · exact h.modUnit p fun i => i.of_duty rfl rfl

theorem State.Within.stopMotion (p : Port) (a : EndAction) : (s.stopMotion p a).Within := by
  unfold State.stopMotion
  exact (h.endQueue p _ _).modUnit p fun i => i.endAction _ _ _

/-! ## The operations of a pair (R106 to R111) -/

theorem State.Within.endPairQueue (q : PairId) (a w : SegOutcome) : (s.endPairQueue q a w).Within :=
  h.of_motion (s.endPairQueue_motion q a w) (by rw [(s.pairWork_endPairQueue q a w).frame])

theorem State.Within.pairEndAction (r : PairRec) (g : PairSegment) (hold : BitVec 32) :
    (s.pairEndAction r g hold).Within := by
  unfold State.pairEndAction
  exact (h.modUnit (r.leadPort g) fun i => i.endAction _ _ _).modUnit (r.partnerPort g) fun i => i.endAction _ _ _

theorem State.Within.settlePair (r : PairRec) (state : MotorState) : (s.settlePair r state).Within :=
  (h.modUnit r.portA fun i => i.settle state).modUnit r.portB fun i => i.settle state

theorem State.Within.settlePairClaim (r : PairRec) (e : Option PairSettlement) : (s.settlePairClaim r e).Within := by
  unfold State.settlePairClaim
  split
  · exact h.pairEndAction r _ _
  · exact h

theorem State.Within.abortPair (q : PairId) (o : SegOutcome) : (s.abortPair q o).Within := by
  unfold State.abortPair
  repeat' split
  · exact h
  · exact h
  · exact (h.endPairQueue q o .flushed).pairEndAction _ _ _

theorem State.Within.carryRamp (r : PairRec) (g : PairSegment) (prev : Option Lead) : (s.carryRamp r g prev).Within := by
  unfold State.carryRamp
  split
  · exact h.modUnit _ fun i => i.of_duty rfl rfl
  · exact h

theorem State.Within.activatePair (q : PairId) (prev : Option Lead) : (s.activatePair q prev).Within := by
  unfold State.activatePair
  repeat' split
  · exact h
  · exact h
  · exact (((h.modPair q _).carryRamp _ _ prev).modUnit _ fun i => i.pairStart true prev).modUnit _
      fun i => i.pairStart false prev
  · exact (h.modPair q _).abortPair q _

theorem State.Within.finishPair (q : PairId) (o : SegOutcome) : (s.finishPair q o).Within := by
  unfold State.finishPair
  repeat' split
  · exact h
  · exact h
  · exact h.abortPair q o
  · exact ((h.linkWork (s.linkWork_pairNotice q _ _ o _)).modPair q _).activatePair q _

theorem State.Within.dissolvePair (q : PairId) (o : SegOutcome) : (s.dissolvePair q o).Within := by
  unfold State.dissolvePair
  split
  · exact h
  · exact ((h.endPairQueue q o o).settlePair _ .coasting).setPair q none

theorem State.Within.placePairSegment (q : PairId) (x : PairRec) (g : PairSegment) (replace : Bool)
    (taken : Option PairSegment) : (s.placePairSegment q x g replace taken).Within := by
  unfold State.placePairSegment
  extract_lets prev
  split
  · exact ((h.endPairQueue q _ _).modPair q _).activatePair q _
  · exact h.modPair q _

/-! ## Events taken by every unit and pair (R67, R69, R75, R77) -/

theorem State.Within.testConditions (p : Port) (r : SampleRec) : (s.testConditions p r).Within := by
  rw [State.testConditions_eq]
  refine State.Within.foldl (fun t q i => ?_) _ (State.Within.foldl (fun t x i => ?_) _ h)
  · unfold State.pairMeets
    repeat' split
    · exact i.finishPair q _
    all_goals exact i
  · unfold State.unitMeets
    repeat' split
    · exact i.finishSegment x _
    all_goals exact i

theorem State.Within.sourceLost (p : Port) (mode : Option Nat) : (s.sourceLost p mode).Within := by
  rw [State.sourceLost_eq]
  refine State.Within.foldl (fun t q i => ?_) _ (State.Within.foldl (fun t x i => ?_) _ h)
  · unfold State.pairLoses
    repeat' split
    · exact i.abortPair q _
    all_goals exact i
  · unfold State.unitLoses
    repeat' split
    · exact i.abortSegment x _
    all_goals exact i

theorem State.Within.stopAll (o : SegOutcome) (state : MotorState) : (s.stopAll o state).Within := by
  rw [State.stopAll_eq]
  exact State.Within.foldl (fun t q i => i.endPairQueue q o o) _
    (State.Within.foldl (fun t p i => (i.endQueue p o o).settleUnit p state) _ h)

theorem State.Within.setHalted (halted : Bool) : (s.setHalted halted).Within :=
  State.Within.foldl (fun _ p i => i.modUnit p fun j => j.of_duty rfl rfl) _ h

theorem State.Within.detachMotion (p : Port) : (s.detachMotion p).Within := by
  unfold State.detachMotion
  split
  · exact h.dissolvePair _ _
  · exact (h.endQueue p _ _).modUnit p fun i => i.settle _

/-! ## The regulation event (R82 to R109) -/

theorem State.Within.stallPort (p : Port) (g : Segment) : (s.stallPort p g).Within := by
  unfold State.stallPort
  split
  · exact h.modUnit p fun i => i.of_duty rfl rfl
  · exact h.finishSegment p _
  · exact h.abortSegment p _

theorem State.Within.regulatePort (p : Port) (g : Segment) (a : Activation) (d : Int) (count : Nat) :
    (s.regulatePort p g a d count).Within := by
  unfold State.regulatePort
  extract_lets m
  split
  rename_i phase dir _
  extract_lets count'
  split
  rename_i m1 target ramped
  have settings : m1.settings = m.settings := by
    have := m.rampStage_settings g phase dir d
    rwa [ramped] at this
  extract_lets m2 timer a' t
  have driven : t.Within :=
    h.setUnit p (MotionUnit.within_clamped (settings ▸ (h.units p).limit) h.up rfl)
  split
  · exact driven.stallPort p g
  · exact driven

theorem State.Within.regulateSingle (p : Port) : (s.regulateSingle p).Within := by
  unfold State.regulateSingle
  extract_lets m
  split
  · extract_lets d count
    repeat' split
    · exact h.finishSegment p _
    · exact h.regulatePort p _ _ _ _
    · exact h.modUnit p fun i => MotionUnit.within_clamped i.limit h.up rfl
  · exact h.modUnit p fun i => MotionUnit.within_clamped i.limit h.up rfl
  · exact h
  · exact h.modUnit p fun i => ⟨i.limit, i.ceiling_nonneg⟩

theorem State.Within.drivePaired (q : PairId) (r : PairRec) (g : PairSegment) (side : Lead) (target : Int) :
    (s.drivePaired q r g side target).Within := by
  unfold State.drivePaired
  extract_lets p m timer t
  have driven : t.Within :=
    (h.setUnit p (MotionUnit.within_drive h.up (h.units p).limit target)).modPair q _
  repeat' split
  · exact driven.modPair q _
  · exact driven.finishPair q _
  · exact driven.abortPair q _
  · exact driven

theorem State.Within.regulateLead (q : PairId) (r : PairRec) (g : PairSegment) (a : PairActivation) :
    (s.regulateLead q r g a).Within := by
  unfold State.regulateLead
  extract_lets p m d
  split
  · exact h.finishPair q _
  · split
    split
    extract_lets reg v r'
    have ramped : (s.setUnit p { m with reg := reg }).Within := h.setUnit p ((h.units p).of_duty rfl rfl)
    exact (ramped.setPair q r').drivePaired q r' g _ _

theorem State.Within.regulatePartner (q : PairId) (r : PairRec) (g : PairSegment) : (s.regulatePartner q r g).Within :=
  (h.modUnit _ fun i => i.of_duty rfl rfl).drivePaired q r g _ _

theorem State.Within.offerUpdates (us : List Update) : (s.offerUpdates us).Within := by
  rw [State.offerUpdates_frame]
  exact h.of_motion rfl rfl

theorem State.Within.offerMotion (p : Port) : (s.offerMotion p).Within := by
  unfold State.offerMotion
  split
  · exact h.offerUpdates _
  · exact h

theorem State.Within.regulationStep (p : Port) : (s.regulationStep p).Within := by
  unfold State.regulationStep
  extract_lets t u
  have estimated : t.Within := h.modUnit p fun i => i.of_duty rfl rfl
  refine State.Within.offerMotion ?_ p
  simp only [u]
  repeat' split
  · exact estimated.regulateLead _ _ _ _
  · exact estimated.regulatePartner _ _ _
  all_goals exact estimated.regulateSingle p

end

end Sys2Proof.Machine
end

section
/-! The duty ceilings kept by the claims, the requests and the port units (R45 to R54, R60 to R79, R102 to R111, chapters 1
and 2). -/

namespace Sys2Proof.Machine

section
variable {s : State} (h : s.Within)
include h

/-! ## Claims (R45 to R54) -/

theorem State.Within.claimRule {t : State} {l : LinkId} {p : Port} {code : Byte} {e : Option Settlement}
    (claim : s.claimRule l p code = .ok (t, e)) : t.Within := by
  unfold State.claimRule at claim
  repeat' split at claim
  all_goals cases claim
  · exact h.setClaim p _
  · exact h
  · exact ((h.endQueue p _ _).setClaim p _).notify _ _

theorem State.Within.claiming (r : ReplyTo) (ps : List Byte) {body : State → Port → Option Settlement → State}
    (k : ∀ t p e, State.Within t → (body t p e).Within) : (s.claiming r ps body).Within := by
  unfold State.claiming
  split
  · exact h.answer _ _ _
  · split
    · exact h.answer _ _ _
    · rename_i claim
      unfold State.claimPort at claim
      repeat' split at claim
      · cases claim
      · cases claim
      · exact k _ _ _ (h.claimRule claim)

theorem State.Within.setPairClaims (r : PairRec) (c : Claim) : (s.setPairClaims r c).Within :=
  (h.setClaim _ c).setClaim _ c

theorem State.Within.claimPair {t : State} {l : LinkId} {q : PairId} {r : PairRec} {code : Byte}
    {e : Option PairSettlement} (claim : s.claimPair l q r code = .ok (t, e)) : t.Within := by
  unfold State.claimPair at claim
  repeat' split at claim
  all_goals cases claim
  · exact h.setPairClaims r _
  · exact h
  · exact (((h.endPairQueue q _ _).setPairClaims r _).notify _ _).notify _ _

theorem State.Within.claimingPair (r : ReplyTo) (id : Nat)
    {body : State → PairId → PairRec → Option PairSettlement → State}
    (k : ∀ t q x e, State.Within t → (body t q x e).Within) : (s.claimingPair r id body).Within := by
  unfold State.claimingPair
  repeat' split
  · exact h.answer _ _ _
  · exact h.answer _ _ _
  · exact h.answer _ _ _
  · rename_i claim
    exact k _ _ _ _ (h.claimPair claim)

theorem State.Within.lockBody (r : ReplyTo) (ps : List Byte) : (s.lockBody r ps).Within := by
  unfold State.lockBody
  split
  · exact h.claiming r _ fun t p e i => ((i.setClaim p _).settleClaim p e).answer _ _ _
  · exact h.claimingPair r _ fun t q x e i => (((i.setClaim _ _).setClaim _ _).settlePairClaim x e).answer _ _ _
  · exact h.answer _ _ _

theorem State.Within.unlockBody (r : ReplyTo) (ps : List Byte) : (s.unlockBody r ps).Within := by
  unfold State.unlockBody
  split
  · exact h.answer _ _ _
  · exact (h.setClaim _ _).answer _ _ _
  · exact ((h.setClaim _ _).setClaim _ _).answer _ _ _

theorem State.Within.freePort (p : Port) (o : SegOutcome) (state : MotorState) : (s.freePort p o state).Within :=
  ((h.endQueue p o o).settleUnit p state).setClaim p _

theorem State.Within.freePair (q : PairId) (r : PairRec) (o : SegOutcome) (state : MotorState) :
    (s.freePair q r o state).Within := ((h.endPairQueue q o o).settlePair r state).setPairClaims r _

theorem State.Within.releaseBody (r : ReplyTo) (ps : List Byte) : (s.releaseBody r ps).Within := by
  unfold State.releaseBody
  split
  · exact h.answer _ _ _
  · exact (h.freePort _ _ _).answer _ _ _
  · exact (h.freePair _ _ _ _).answer _ _ _

theorem State.Within.releasePort (l : LinkId) (p : Port) : (s.releasePort l p).Within := by
  unfold State.releasePort
  extract_lets state
  repeat' split
  · exact h.freePair _ _ _ _
  · exact h
  · exact h.freePort p _ _
  · exact h

/-! ## Links (R180, R181) -/

theorem State.Within.undoLink (l : LinkId) : (s.undoLink l).Within := by
  have released : (s.releaseClaims l).Within := State.Within.foldl (fun t p i => i.releasePort l p) _ h
  exact (released.setStreams _).of_tables (by simp [State.undoLink]; rfl) (by simp [State.undoLink]; rfl)

theorem State.Within.modLink (l : LinkId) (f : Link → Link) : (s.modLink l f).Within := h.of_motion rfl rfl

theorem State.Within.ageTickStep (l : LinkId) : (s.ageTickStep l).Within := by
  unfold State.ageTickStep
  split
  · extract_lets t
    have ticked : t.Within := h.modLink l _
    split
    · exact ((ticked.modLink l _).undoLink l).notify _ _
    · exact ticked
  · exact h

theorem State.Within.leaveStep (r : ReplyTo) : (s.leaveStep r).Within := by
  unfold State.leaveStep
  exact (((h.modLink r.link _).undoLink r.link).notify _ _).modLink r.link _

/-! ## Requests of the motion units (R60 to R79) -/

theorem State.Within.moveBody (r : ReplyTo) (p : Port) (e : Option Settlement) (ps : List Byte) :
    (s.moveBody r p e ps).Within := by
  unfold State.moveBody
  split
  · exact (h.settleClaim p e).answer _ _ _
  · extract_lets g t
    have placed : t.Within := h.placeSegment p g _ _
    split
    · exact placed.answer _ _ _
    · exact placed.answer _ _ _

theorem State.Within.stopBody (r : ReplyTo) (p : Port) (e : Option Settlement) (ps : List Byte) :
    (s.stopBody r p e ps).Within := by
  unfold State.stopBody
  repeat' split
  · exact (h.settleClaim p e).answer _ _ _
  · exact h.answer _ _ _
  · exact (h.stopMotion p _).answer _ _ _

theorem State.Within.setPositionBody (r : ReplyTo) (p : Port) (e : Option Settlement) (ps : List Byte) :
    (s.setPositionBody r p e ps).Within := by
  unfold State.setPositionBody
  repeat' split
  · exact (h.settleClaim p e).answer _ _ _
  · exact (h.settleClaim p e).answer _ _ _
  · exact ((h.modUnit p fun i => i.of_duty rfl rfl).settleClaim p e).answer _ _ _

theorem State.Within.resumeBody (r : ReplyTo) : (s.resumeBody r).Within := by
  unfold State.resumeBody
  repeat' split
  · exact h.answer _ _ _
  · exact ((h.setHalted false).notifyAll _).answer _ _ _
  · exact h.answer _ _ _

theorem State.Within.stopLineStep : s.stopLineStep.Within := by
  unfold State.stopLineStep
  extract_lets t
  have asserted : t.Within := h.of_motion rfl rfl
  split
  · exact asserted
  · exact ((asserted.stopAll _ _).setHalted true).notifyAll _

theorem State.Within.setRegulatorBody (r : ReplyTo) (p : Port) (e : Option Settlement) (ps : List Byte) :
    (s.setRegulatorBody r p e ps).Within := by
  unfold State.setRegulatorBody
  split
  · have set := h.modUnit p (f := fun m => ({ m with settings := m.settings.given ps }).reduceDuty s.supply.s)
      fun i => MotionUnit.within_reduceDuty h.up (i.given_dutyLimit ps)
    exact (set.settleClaim p e).answer _ _ _
  · exact (h.settleClaim p e).answer _ _ _

/-! ## Requests of the pairs (R102 to R111) -/

theorem State.Within.claimBoth {t : State} {l : LinkId} {a b : Port} {code : Byte}
    {e : Option Settlement × Option Settlement} (claim : s.claimBoth l a b code = .ok (t, e)) : t.Within := by
  unfold State.claimBoth at claim
  repeat' split at claim
  all_goals cases claim
  rename_i first _ _ second
  exact (h.claimRule first).claimRule second

theorem State.Within.pairBody (r : ReplyTo) (ps : List Byte) : (s.pairBody r ps).Within := by
  unfold State.pairBody
  split
  · split
    · exact h.answer _ _ _
    · split
      · exact h.answer _ _ _
      · rename_i a b _ _ _ _ t ea eb claim
        have claimed : t.Within := h.claimBoth claim
        extract_lets
        repeat' split
        · exact ((claimed.settleClaim a ea).settleClaim b eb).answer _ _ _
        · exact ((claimed.settleClaim a ea).settleClaim b eb).answer _ _ _
        · exact (((claimed.setPair _ _).settleClaim a ea).settleClaim b eb).answer _ _ _
  · exact h.answer _ _ _

theorem State.Within.movePairBody (r : ReplyTo) (q : PairId) (x : PairRec) (e : Option PairSettlement)
    (ps : List Byte) : (s.movePairBody r q x e ps).Within := by
  unfold State.movePairBody
  split
  · exact (h.settlePairClaim x e).answer _ _ _
  · extract_lets g t
    have placed : t.Within := h.placePairSegment q x g _ _
    split
    · exact placed.answer _ _ _
    · exact placed.answer _ _ _

/-! ## Samples, attachment and detachment (R5 to R11, R32) -/

theorem State.Within.answerModes (p : Port) (st : Status) : (s.answerModes p st).Within :=
  (h.linkWork (s.linkWork_answers _ ModeWait.dest st)).modPort p _

theorem State.Within.answerWrites (p : Port) (st : Status) : (s.answerWrites p st).Within :=
  (h.linkWork (s.linkWork_answers _ WriteReq.dest st)).modPort p _

theorem State.Within.offerSample (p : Port) : (s.offerSample p).Within := by
  unfold State.offerSample
  split
  · exact (h.offerUpdates _).testConditions p _
  · exact h

theorem State.Within.touchSample (p : Port) (rxLow : Bool) : (s.touchSample p rxLow).Within :=
  (h.modPort p _).offerSample p

theorem State.Within.attach (p : Port) : (s.modUnit p MotionUnit.attach).Within :=
  h.modUnit p fun _ => MotionUnit.within_attach h.up _

theorem State.Within.attachAt (p : Port) (level : Level) (rxLow : Bool) : (s.attachAt p level rxLow).Within := by
  unfold State.attachAt
  split
  · exact (h.modPort p _).attach p
  · unfold State.attachPassive
    extract_lets kind touch t u w
    have attached : u.Within := (h.modPort p _).attach p
    refine State.Within.notifyAll ?_ _
    simp only [w]
    split
    · exact attached.touchSample p rxLow
    · exact attached

theorem State.Within.removeStreams (p : Port) : (s.removeStreams p).Within := by
  rw [State.removeStreams_frame]
  exact h.of_motion rfl rfl

theorem State.Within.detach (p : Port) (last : Notice) : (s.detach p last).Within := by
  unfold State.detach
  extract_lets t u
  have answered : t.Within := ((h.answerModes p _).answerWrites p _).modPort p _
  have gone : u.Within := ((answered.detachMotion p).sourceLost p none).removeStreams p
  exact ((gone.setClaim p _).modPort p _).notifyAll last

theorem State.Within.faultPort (p : Port) (state : PortState) (retry : Option Nat) (n : Notice) :
    (s.faultPort p state retry n).Within := by
  unfold State.faultPort
  extract_lets attached t
  have faulted : t.Within := h.modPort p _
  split
  · exact faulted.detach p n
  · exact faulted.notifyAll n

theorem State.Within.failAttempt (p : Port) : (s.failAttempt p).Within := by
  unfold State.failAttempt
  repeat' split
  · exact h.faultPort p _ _ _
  · exact h.modPort p _
  · exact h

theorem State.Within.lossOf (p : Port) : (s.lossOf p).Within :=
  ((((h.modPort p _).answerModes p _).modPort p _).answerWrites p _).modPort p _

/-! ## Chapter 1: power, probing, faults -/

theorem State.Within.classify (p : Port) (level : Level) (rxLow : Bool) : (s.classify p level rxLow).Within := by
  unfold State.classify
  extract_lets t
  have classified : t.Within := h.modPort p _
  have detached : (t.detachPort p).Within := classified.detach p _
  split
  · split
    · exact classified.modPort p _
    · exact classified.attachAt p level rxLow
  · split
    · exact classified
    · exact classified.attachAt p level rxLow
  · split
    · exact detached.modPort p _
    · exact detached.attachAt p level rxLow
  iterate 2
    repeat' split
    · exact detached.modPort p _
    · exact classified
    · exact detached.attachAt p level rxLow
  iterate 2 exact classified

theorem State.Within.probeStep (p : Port) (level : Level) (rxLow : Bool) : (s.probeStep p level rxLow).Within := by
  unfold State.probeStep
  extract_lets t
  have read : t.Within := h.modPort p _
  repeat' split
  · exact read.classify p level rxLow
  · exact read.touchSample p rxLow
  · exact read
  · exact h

theorem State.Within.tripStep (p : Port) : (s.tripStep p).Within := by
  unfold State.tripStep
  extract_lets kept
  repeat' split
  · exact (h.modPort p _).faultPort p _ _ _
  · exact (h.modPort p _).faultPort p _ _ _
  · exact h

theorem State.Within.portResetBody (r : ReplyTo) (ps : List Byte) : (s.portResetBody r ps).Within := by
  unfold State.portResetBody
  split
  · exact h.answer _ _ _
  · refine State.Within.answer ?_ _ _ _
    split
    · exact h.modPort _ _
    · exact h

/-! ## Chapter 2: messages, handshakes, modes and writes -/

theorem State.Within.logAndTap (p : Port) (o : MsgOutcome) (bs : List Byte) : (s.logAndTap p o bs).Within := by
  unfold State.logAndTap
  extract_lets u t
  have logged : t.Within := h.of_motion rfl rfl
  repeat' split
  · exact logged.notify _ _
  · exact logged
  · exact logged

theorem State.Within.endWrite (p : Port) (st : Status) : (s.endWrite p st).Within := by
  unfold State.endWrite
  split
  · exact (h.answer _ st []).modPort p _
  · exact h

theorem State.Within.modeChanged (p : Port) (old : Option Nat) (new : Nat) : (s.modeChanged p old new).Within := by
  unfold State.modeChanged
  extract_lets t
  have changed : t.Within := (h.notifyAll _).setStreams _
  split
  · exact changed.sourceLost p _
  · exact changed

theorem State.Within.applyData (p : Port) (mode : Nat) (m : ModeDesc) (payload : List Byte) :
    (s.applyData p mode m payload).Within := by
  rw [State.applyData_eq]
  exact h.of_motion rfl rfl

theorem State.Within.confirmMode (p : Port) (mode : Nat) (m : ModeDesc) (payload : List Byte) :
    (s.confirmMode p mode m payload).Within := by
  unfold State.confirmMode
  extract_lets old t u w
  have applied : u.Within := ((h.modPort p _).applyData p mode m payload).answerModes p .ok
  refine State.Within.offerSample ?_ p
  simp only [w]
  split
  · exact applied
  · exact applied.modeChanged p old mode

theorem State.Within.takeData (p : Port) (payload : List Byte) : (s.takeData p payload).Within := by
  unfold State.takeData
  extract_lets u expected
  repeat' split
  · exact h.confirmMode p _ _ payload
  · exact (h.applyData p _ _ _).offerSample p
  · exact h

theorem State.Within.actActive (p : Port) (o : MsgOutcome) (bs : List Byte) : (s.actActive p o bs).Within := by
  unfold State.actActive
  extract_lets t
  have kept : t.Within := h.modPort p _
  repeat' split
  · exact (kept.modPort p _).lossOf p
  · exact kept.takeData p _
  · exact kept.endWrite p _
  · exact kept

theorem State.Within.actDescribing (p : Port) (o : MsgOutcome) (bs : List Byte) : (s.actDescribing p o bs).Within := by
  unfold State.actDescribing
  repeat' split
  · exact h
  · exact h
  · exact h.failAttempt p
  · exact h.modPort p _
  · exact h.failAttempt p
  · exact h

theorem State.Within.messageEnds (p : Port) (o : MsgOutcome) (bs : List Byte) : (s.messageEnds p o bs).Within := by
  unfold State.messageEnds
  extract_lets t
  have logged : t.Within := h.logAndTap p o bs
  split
  · exact logged.actActive p o bs
  · exact logged.actDescribing p o bs
  · exact logged

theorem State.Within.messageStep (p : Port) (bs : List Byte) (framing : Bool) : (s.messageStep p bs framing).Within := by
  unfold State.messageStep
  repeat' split
  · exact (h.modPort p _).messageEnds p _ bs
  · exact h
  · exact h.messageEnds p _ bs
  · exact h
  · exact h

theorem State.Within.gapStep (p : Port) (bs : List Byte) : (s.gapStep p bs).Within := by
  unfold State.gapStep
  split
  · exact h.messageEnds p _ bs
  · exact h

theorem State.Within.attachDescribed (p : Port) (typeId : BitVec 16) (head : Head) (modes : List ModeDesc) :
    (s.attachDescribed p typeId head modes).Within := by
  have described : (s.bumpFree.modPort p fun u => { u with
      kind := .serial, typeId := some typeId, desc := some ⟨some head, modes⟩, mode := some 0
      sample := some (emptySample (Config.freeWord s.freeCount)) }).Within := h.of_motion rfl rfl
  exact (described.modUnit p fun i => i.descriptorDefaults head).notifyAll _

theorem State.Within.ackStep (p : Port) : (s.ackStep p).Within := by
  unfold State.ackStep
  extract_lets u
  repeat' split
  · exact ((h.modPort p _).notifyAll _).modPort p _
  · exact (((h.detach p _).modPort p _).attach p).attachDescribed p _ _ _
  · exact (h.modPort p _).attachDescribed p _ _ _
  · exact h

theorem State.Within.takeMode (p : Port) (r : ReplyTo) (mode : Nat) : (s.takeMode p r mode).Within := by
  unfold State.takeMode
  extract_lets u
  repeat' split
  · exact h.answer _ _ _
  · exact h.answer _ _ _
  · exact h.modPort p _
  · exact (h.answerModes p _).modPort p _

theorem State.Within.setModeBody (r : ReplyTo) (p : Port) (e : Option Settlement) (ps : List Byte) :
    (s.setModeBody r p e ps).Within := by
  unfold State.setModeBody
  split
  · exact (h.settleClaim p e).answer _ _ _
  · exact (h.settleClaim p e).takeMode p r _

theorem State.Within.modeTimerStep (p : Port) : (s.modeTimerStep p).Within := by
  unfold State.modeTimerStep
  extract_lets u
  repeat' split
  · exact (h.modPort p _).modeChanged p _ 0
  · exact (h.modPort p _).answerModes p _
  · exact h

theorem State.Within.portWriteBody (r : ReplyTo) (p : Port) (e : Option Settlement) (ps : List Byte) :
    (s.portWriteBody r p e ps).Within := by
  unfold State.portWriteBody
  extract_lets u n t
  have settled : t.Within := h.settleClaim p e
  repeat' split
  iterate 4 exact settled.answer _ _ _
  exact settled.modPort p _

/-! ## Requests that move nothing -/

theorem State.Within.subscribeBody (r : ReplyTo) (ps : List Byte) : (s.subscribeBody r ps).Within := by
  unfold State.subscribeBody
  repeat' split
  · exact h.answer _ _ _
  · exact h.answer _ _ _
  · extract_lets
    split
    · exact h.answer _ _ _
    · rename_i joined
      refine State.Within.answer ?_ _ _ _
      unfold State.joinStream at joined
      split at joined
      · cases joined; exact h.setStreams _
      · obtain ⟨m, -, e⟩ := Option.map_eq_some_iff.mp joined
        cases e; exact h.setStreams _

theorem State.Within.unsubscribeBody (r : ReplyTo) (ps : List Byte) : (s.unsubscribeBody r ps).Within := by
  unfold State.unsubscribeBody
  repeat' split
  · exact ((h.modLink _ _).setStreams _).answer _ _ _
  · exact h.answer _ _ _
  · exact h.answer _ _ _

theorem State.Within.listStreamsBody (r : ReplyTo) (ps : List Byte) : (s.listStreamsBody r ps).Within := by
  unfold State.listStreamsBody
  split <;> exact h.answer _ _ _

theorem State.Within.portInfoBody (r : ReplyTo) (ps : List Byte) : (s.portInfoBody r ps).Within := by
  unfold State.portInfoBody
  repeat' split
  all_goals exact h.answer _ _ _

end

end Sys2Proof.Machine
end

section
/-! The supply monitor keeps its ceilings in their bounds and every duty within them (R90, R114 to R117), and with it every
command and every step: O55. -/

namespace Sys2Proof.Machine

/-! ## The supply sample (R114 to R120) -/

theorem voltageCeiling_bounds (vf vsoft vhard : Int) :
    400 ≤ voltageCeiling vf vsoft vhard ∧ voltageCeiling vf vsoft vhard ≤ 1000 := by
  unfold voltageCeiling
  split
  · decide
  · split
    · decide
    · have low : 0 ≤ truncDiv (600 * (vf - vhard)) (vsoft - vhard) := Int.tdiv_nonneg (by omega) (by omega)
      have high : truncDiv (600 * (vf - vhard)) (vsoft - vhard) ≤ 600 := by
        rw [truncDiv, Int.tdiv_eq_ediv_of_nonneg (by omega)]
        exact Int.ediv_le_of_le_mul (by omega) (by omega)
      omega

theorem currentCeiling_bounds {ci : Int} (h : 250 ≤ ci ∧ ci ≤ 1000) (iflt ilim : Int) :
    250 ≤ currentCeiling ci iflt ilim ∧ currentCeiling ci iflt ilim ≤ 1000 := by
  unfold currentCeiling
  repeat' split
  all_goals omega

/-- The ceilings that follow from a current ceiling in its bounds (R115 to R117). -/
theorem Supply.bounded_ceilings {m : Supply} (h : 250 ≤ m.ci ∧ m.ci ≤ 1000) : m.ceilings.Bounded := by
  have voltage := voltageCeiling_bounds m.vf m.vsoft m.vhard
  have current := currentCeiling_bounds h m.iflt m.ilim
  exact ⟨current, ⟨le_min (by omega) current.1, le_trans (min_le_right _ _) current.2⟩, rfl⟩

theorem Supply.bounded_firstSample {m : Supply} (h : 250 ≤ m.ci ∧ m.ci ≤ 1000) (vbat : Nat) (isense : Int) :
    (m.firstSample vbat isense).Bounded := by
  unfold Supply.firstSample
  extract_lets r c
  have first : c.Bounded := Supply.bounded_ceilings h
  split
  · exact ⟨first.current, first.ceiling, first.volume⟩
  · exact ⟨first.current, first.ceiling, first.volume⟩

/-- After the reduction to a new supply ceiling every duty is within it, whatever ceiling held before (R90). -/
theorem State.within_reduceDuties {s : State} (supply : s.supply.Bounded)
    (limits : ∀ p, 100 ≤ (s.unit p).settings.dutyLimit ∧ (s.unit p).settings.dutyLimit ≤ 1000) :
    s.reduceDuties.Within := by
  have frame : s.reduceDuties = { s with motion := s.reduceDuties.motion } :=
    foldl_induct (R := fun s t : State => t = { s with motion := t.motion }) (fun _ => rfl)
      (fun a b => by rw [b, a]) Port.all (fun _ _ _ => rfl) s
  have up : 0 ≤ s.supply.s := le_trans (by decide) supply.ceiling.1
  have kept : s.reduceDuties.supply = s.supply := by rw [frame]
  refine ⟨kept ▸ supply, fun x => ?_⟩
  rw [kept]
  obtain ⟨t, before, after⟩ := State.foldl_units
    (fun t p => t.unitWork_modUnit p (f := fun m => m.reduceDuty t.supply.s) fun i => MotionUnit.reduceDuty_inv i _) x s
  have held : t.supply = s.supply := by rw [before.work.frame]
  rw [State.reduceDuties, after.unit, State.modUnit_unit_same, before.unit, held]
  exact MotionUnit.within_reduceDuty up (limits x)

theorem State.Within.changeSupplyState {s : State} (h : s.Within) (new : SupplyState) :
    (s.changeSupplyState new).Within := by
  unfold State.changeSupplyState
  extract_lets old warning t u w
  have set : t.Within := ⟨⟨h.supply.current, h.supply.ceiling, h.supply.volume⟩, h.units⟩
  have entered : u.Within := by
    simp only [u]
    split
    · exact (set.stopAll _ _).of_tables (State.tables_endVoices _ _) (State.endVoices_supply _ _)
    · exact set
  refine State.Within.notifyAll ?_ _
  simp only [w]
  split
  · exact entered.of_tables u.tables_startWarning u.startWarning_supply
  · exact entered

theorem State.Within.supplySampleStep {s : State} (h : s.Within) (vbat : Nat) (isense : Int) :
    (s.supplySampleStep vbat isense).Within := by
  unfold State.supplySampleStep
  extract_lets m t u
  have sampled : t.Within :=
    State.within_reduceDuties (s := s.setSupply m) (Supply.bounded_ceilings h.supply.current) fun p => (h.units p).limit
  refine State.Within.offerUpdates ?_ _
  simp only [u]
  split
  · exact sampled
  · exact sampled.changeSupplyState _

theorem State.Within.setSupplyBody {s : State} (h : s.Within) (r : ReplyTo) (ps : List Byte) :
    (s.setSupplyBody r ps).Within := by
  unfold State.setSupplyBody
  extract_lets m w wGiven new clamped
  have set : (s.setSupply new).Within := ⟨⟨h.supply.current, h.supply.ceiling, h.supply.volume⟩, h.units⟩
  split
  · exact h.answer _ _ _
  · split
    · exact set.answer _ _ _
    · exact h.answer _ _ _

theorem State.Within.warningTimerStep {s : State} (h : s.Within) : s.warningTimerStep.Within := by
  unfold State.warningTimerStep
  split
  · have warned : s.startWarning.Within := h.of_tables s.tables_startWarning s.startWarning_supply
    exact ⟨⟨warned.supply.current, warned.supply.ceiling, warned.supply.volume⟩, warned.units⟩
  · exact h

/-! ## Resets and requests -/

theorem State.within_restart (s : State) (stop : Bool) (vbat : Nat) (isense : Int) :
    (s.restart stop vbat isense).Within := by
  have supply := Supply.bounded_firstSample (m := Supply.afterReset) (by decide) vbat isense
  refine ⟨supply, fun p => ?_⟩
  rw [State.unit, State.restart, Six.get_map]
  exact MotionUnit.within_restart (le_trans (by decide) supply.ceiling.1) _ stop

theorem State.Within.serve {s : State} (h : s.Within) (l : LinkId) (tag : Byte) (code : Nat) (ps : List Byte)
    {body : ReplyTo → State → State} (k : ∀ r t, State.Within t → (body r t).Within) :
    (s.serve l tag code ps body).Within := by
  unfold State.serve
  split
  · exact h
  · rename_i take
    have taken := h.of_tables (State.tables_take take) (State.take_supply take)
    extract_lets r
    split
    · exact k r _ taken
    · exact taken.answer _ _ _

/-- A request whose part leaves the units and the supply monitor as they are. -/
theorem State.Within.serve_same {s : State} (h : s.Within) (l : LinkId) (tag : Byte) (code : Nat) (ps : List Byte)
    {body : ReplyTo → State → State} (tables : ∀ r t, (body r t).tables = t.tables)
    (supply : ∀ r t, (body r t).supply = t.supply) : (s.serve l tag code ps body).Within :=
  h.serve l tag code ps fun r t i => i.of_tables (tables r t) (supply r t)

/-! ## Every command and every step -/

theorem exec_within (i : Instr) {s : State} (h : s.Within) : ∃ t, exec i s = .next t ∧ t.Within := by
  have same {t : State} (tables : t.tables = s.tables) (supply : t.supply = s.supply) : t.Within :=
    h.of_tables tables supply
  have served := @State.Within.serve s h
  have served_same := @State.Within.serve_same s h
  cases i with
  | powerOnReset stop vbat isense => exact ⟨_, rfl, s.within_restart stop vbat isense⟩
  | portPowerRestore p =>
    refine ⟨_, rfl, ?_⟩
    split
    · exact h.modPort p _
    · exact h
  | scanComplete =>
    refine ⟨_, rfl, ?_⟩
    unfold State.scanCompleteStep
    split
    · exact same (by simp) (by simp)
    · exact h
  | selFall l => exact ⟨_, rfl, same (by simp) (by simp)⟩
  | selRise l clocked midByte => exact ⟨_, rfl, same rfl rfl⟩
  | ageTick l => exact ⟨_, rfl, h.ageTickStep l⟩
  | unknownRequest l tag code ps => exact ⟨_, rfl, same (by simp) (by simp)⟩
  | requestWithoutCode l tag => exact ⟨_, rfl, same (by simp) (by simp)⟩
  | identify l tag ps => exact ⟨_, rfl, served_same l tag _ ps (by simp) (by simp)⟩
  | setLink l tag ps => exact ⟨_, rfl, served_same l tag _ ps (by simp) (by simp)⟩
  | clearFlags l tag ps => exact ⟨_, rfl, served_same l tag _ ps (by simp) (by simp)⟩
  | resetArm l tag ps => exact ⟨_, rfl, served_same l tag _ ps (by simp) (by simp)⟩
  | leave l tag ps => exact ⟨_, rfl, served l tag _ ps fun r t i => i.leaveStep r⟩
  | reset l tag ps stop vbat isense =>
    refine ⟨_, rfl, served l tag _ ps fun r t i => ?_⟩
    unfold State.resetStep
    split
    · exact t.within_restart stop vbat isense
    · exact i.answer _ _ _
  | portInfo l tag ps => exact ⟨_, rfl, served l tag _ ps fun r t i => i.portInfoBody r ps⟩
  | readValue l tag ps =>
    refine ⟨_, rfl, served l tag _ ps fun r t i => ?_⟩
    repeat' split
    all_goals exact i.answer _ _ _
  | setMode l tag ps =>
    exact ⟨_, rfl, served l tag _ ps fun r t i => i.claiming r ps fun u p e j => j.setModeBody r p e ps⟩
  | portWrite l tag ps =>
    exact ⟨_, rfl, served l tag _ ps fun r t i => i.claiming r ps fun u p e j => j.portWriteBody r p e ps⟩
  | setTap l tag ps =>
    refine ⟨_, rfl, served l tag _ ps fun r t i => ?_⟩
    split
    · exact (i.modPort _ _).answer _ _ _
    · exact i.answer _ _ _
  | readLog l tag ps =>
    refine ⟨_, rfl, served l tag _ ps fun r t i => ?_⟩
    split
    · exact i.answer _ _ _
    · exact (i.modPort _ _).answer _ _ _
  | portReset l tag ps => exact ⟨_, rfl, served l tag _ ps fun r t i => i.portResetBody r ps⟩
  | lock l tag ps => exact ⟨_, rfl, served l tag _ ps fun r t i => i.lockBody r ps⟩
  | unlock l tag ps => exact ⟨_, rfl, served l tag _ ps fun r t i => i.unlockBody r ps⟩
  | release l tag ps => exact ⟨_, rfl, served l tag _ ps fun r t i => i.releaseBody r ps⟩
  | move l tag ps =>
    exact ⟨_, rfl, served l tag _ ps fun r t i => i.claiming r ps fun u p e j => j.moveBody r p e ps⟩
  | stop l tag ps =>
    exact ⟨_, rfl, served l tag _ ps fun r t i => i.claiming r ps fun u p e j => j.stopBody r p e ps⟩
  | setRegulator l tag ps =>
    exact ⟨_, rfl, served l tag _ ps fun r t i => i.claiming r ps fun u p e j => j.setRegulatorBody r p e ps⟩
  | setPosition l tag ps =>
    exact ⟨_, rfl, served l tag _ ps fun r t i => i.claiming r ps fun u p e j => j.setPositionBody r p e ps⟩
  | resume l tag ps => exact ⟨_, rfl, served l tag _ ps fun r t i => i.resumeBody r⟩
  | pair l tag ps => exact ⟨_, rfl, served l tag _ ps fun r t i => i.pairBody r ps⟩
  | unpair l tag ps =>
    exact ⟨_, rfl, served l tag _ ps fun r t i => i.claimingPair r _ fun u q x e j =>
      (j.dissolvePair q _).answer _ _ _⟩
  | movePair l tag ps =>
    exact ⟨_, rfl, served l tag _ ps fun r t i => i.claimingPair r _ fun u q x e j => j.movePairBody r q _ e ps⟩
  | motionStatus l tag ps =>
    refine ⟨_, rfl, served l tag _ ps fun r t i => ?_⟩
    split <;> exact i.answer _ _ _
  | supplyStatus l tag ps => exact ⟨_, rfl, served_same l tag _ ps (by simp) (by simp)⟩
  | setSupply l tag ps => exact ⟨_, rfl, served l tag _ ps fun r t i => i.setSupplyBody r ps⟩
  | subscribe l tag ps => exact ⟨_, rfl, served l tag _ ps fun r t i => i.subscribeBody r ps⟩
  | unsubscribe l tag ps => exact ⟨_, rfl, served l tag _ ps fun r t i => i.unsubscribeBody r ps⟩
  | listStreams l tag ps => exact ⟨_, rfl, served l tag _ ps fun r t i => i.listStreamsBody r ps⟩
  | clipBegin l tag ps => exact ⟨_, rfl, served_same l tag _ ps (by simp) (by simp)⟩
  | clipData l tag ps => exact ⟨_, rfl, served_same l tag _ ps (by simp) (by simp)⟩
  | clipEnd l tag ps => exact ⟨_, rfl, served_same l tag _ ps (by simp) (by simp)⟩
  | clipDelete l tag ps => exact ⟨_, rfl, served_same l tag _ ps (by simp) (by simp)⟩
  | clipInfo l tag ps guardHigh => exact ⟨_, rfl, served_same l tag _ ps (by simp) (by simp)⟩
  | clipRead l tag ps => exact ⟨_, rfl, served_same l tag _ ps (by simp) (by simp)⟩
  | setProtect l tag ps guardHigh => exact ⟨_, rfl, served_same l tag _ ps (by simp) (by simp)⟩
  | play l tag ps => exact ⟨_, rfl, served_same l tag _ ps (by simp) (by simp)⟩
  | stopVoice l tag ps => exact ⟨_, rfl, served_same l tag _ ps (by simp) (by simp)⟩
  | setVolume l tag ps => exact ⟨_, rfl, served_same l tag _ ps (by simp) (by simp)⟩
  | voiceStatus l tag ps => exact ⟨_, rfl, served_same l tag _ ps (by simp) (by simp)⟩
  | probeEvent p level rxLow => exact ⟨_, rfl, h.probeStep p level rxLow⟩
  | overcurrentTrip p => exact ⟨_, rfl, h.tripStep p⟩
  | retryTimerExpiry p =>
    refine ⟨_, rfl, ?_⟩
    split
    · exact h.modPort p _
    · exact h
  | messageOutcome p bs framing => exact ⟨_, rfl, h.messageStep p bs framing⟩
  | gapTimeout p bs => exact ⟨_, rfl, h.gapStep p bs⟩
  | ackSent p => exact ⟨_, rfl, h.ackStep p⟩
  | attemptTimerExpiry p =>
    refine ⟨_, rfl, ?_⟩
    repeat' split
    · exact h.failAttempt p
    · exact h
    · exact h
  | keepAliveExpiry p => exact ⟨_, rfl, h.modPort p _⟩
  | silenceLoss p =>
    refine ⟨_, rfl, ?_⟩
    split
    · exact h.lossOf p
    · exact h
  | modeTimerExpiry p => exact ⟨_, rfl, h.modeTimerStep p⟩
  | writeTimerExpiry p =>
    refine ⟨_, rfl, ?_⟩
    split
    · exact h.endWrite p _
    · exact h
  | encoderTransition p a b => exact ⟨_, rfl, h.modUnit p fun i => i.of_duty rfl rfl⟩
  | regulationEvent p => exact ⟨_, rfl, h.regulationStep p⟩
  | stopLineAssert => exact ⟨_, rfl, h.stopLineStep⟩
  | stopLineRelease => exact ⟨_, rfl, same rfl rfl⟩
  | supplySample vbat isense => exact ⟨_, rfl, h.supplySampleStep vbat isense⟩
  | warningTimerExpiry => exact ⟨_, rfl, h.warningTimerStep⟩
  | jobStart =>
    refine ⟨_, rfl, ?_⟩
    unfold State.jobStartStep
    split
    · exact same (by simp) (by simp)
    · exact h
  | cleanupStart => exact ⟨_, rfl, same (by simp) (by simp)⟩
  | programComplete =>
    refine ⟨_, rfl, ?_⟩
    unfold State.programCompleteStep
    split
    · exact same (by simp) (by simp)
    · exact h
  | eraseComplete =>
    refine ⟨_, rfl, ?_⟩
    unfold State.eraseCompleteStep
    split
    · exact same (by simp) (by simp)
    · exact h
  | eraseSuspend =>
    refine ⟨_, rfl, ?_⟩
    unfold State.eraseSuspendStep
    split
    · exact same (by simp) (by simp)
    · exact h
  | suspendComplete =>
    refine ⟨_, rfl, ?_⟩
    unfold State.suspendCompleteStep
    split
    · exact same (by simp) (by simp)
    · exact h
  | arrayReadComplete => exact ⟨_, rfl, same (by simp) (by simp)⟩
  | outputSample => exact ⟨_, rfl, same (by simp) (by simp)⟩
  | firstDescLeadByte p => exact ⟨_, rfl, h.modPort p _⟩
  | idleGapAfterFramingError p => exact ⟨_, rfl, h.modPort p _⟩

/-- Settles O55: every command keeps the ceilings in their bounds and every duty within them (`exec_within`), and a
millisecond changes neither. -/
theorem everyStepKeepsDrive : Obligations.EveryStepKeepsDrive := by
  intro s t drive h
  have within : s.Within := State.within_iff.mpr drive
  refine State.within_iff.mp ?_
  unfold step at h
  split at h
  · cases h; exact ⟨⟨within.supply.current, within.supply.ceiling, within.supply.volume⟩, within.units⟩
  · rename_i i rest _
    obtain ⟨u, e, keeps⟩ := exec_within i (s := { s with pending := rest }) ⟨within.supply, within.units⟩
    obtain rfl : u = t := by rw [e] at h; cases h; rfl
    exact keeps

end Sys2Proof.Machine
end


section
/-! The regulation event of a unit that runs its own queue (R82 to R97): its stages as equations, and the ends and the
succession of its segments. -/

namespace Sys2Proof.Machine

/-! ## The event and its offer to the subscription table (R82, R127) -/

theorem State.offerMotion_frame (s : State) (p : Port) :
    s.offerMotion p = { s with links := (s.offerMotion p).links, streams := (s.offerMotion p).streams } := by
  unfold State.offerMotion
  split
  · conv_lhs => rw [State.offerUpdates_frame]
    rw [State.offerUpdates_frame]
  · rfl

@[simp] theorem State.offerMotion_unit (s : State) (p x : Port) : (s.offerMotion p).unit x = s.unit x := by
  rw [State.offerMotion_frame]; rfl

theorem State.linksGrow_offerMotion (s : State) (p : Port) : s.LinksGrow (s.offerMotion p) := by
  unfold State.offerMotion
  split
  · exact s.linksGrow_offerUpdates _
  · exact .refl s

/-- An entry of another port emits on no update of this one (R131). -/
theorem StreamEntry.emission_of_port {e : StreamEntry} {p : Port} (other : e.key.port ≠ some p) {us : List Update}
    (port : ∀ u ∈ us, u.port = some p) (now : BitVec 32) : e.emission us now = none := by
  refine List.find?_eq_none.mpr fun u mem => ?_
  have unfollowed : e.follows u = false := by simp [StreamEntry.follows, port u mem, other]
  simp [unfollowed]

/-- With no entry for the port the offer tells no link. -/
theorem State.offerMotion_links {s : State} {p : Port} (none : ∀ e ∈ s.streams, e.key.port ≠ some p) :
    (s.offerMotion p).links = s.links := by
  unfold State.offerMotion
  split
  · unfold State.offerUpdates
    refine foldl_induct (R := fun s t : State => t.links = s.links) (fun _ => rfl) (fun a b => b.trans a) s.streams
      (fun t e mem => ?_) _
    rw [StreamEntry.emission_of_port (none e mem) (by simp)]
  · rfl

/-- The state after the speed estimate (R83). -/
def State.estimated (s : State) (p : Port) : State := s.modUnit p MotionUnit.estimate

theorem State.estimated_unit (s : State) (p : Port) : (s.estimated p).unit p = (s.unit p).estimate :=
  s.modUnit_unit_same p _

theorem State.unitWork_estimated (s : State) (p : Port) : s.UnitWork p (s.estimated p) := s.unitWork_modUnit p fun i => i

theorem exec_regulationEvent_single {s : State} {p : Port} (single : s.pairOf p = none) :
    exec (.regulationEvent p) s = .next (((s.estimated p).regulateSingle p).offerMotion p) := by
  have alone : (s.modUnit p MotionUnit.estimate).pairOf p = none := single
  refine congrArg Host.Outcome.next ?_
  unfold State.regulationStep
  simp only [alone]
  rfl

/-- Work on the unit, then the offer: every other unit and block is as before. -/
theorem State.UnitWork.offerMotion {s u : State} {p : Port} (w : s.UnitWork p u) : u.offerMotion p = { s with
    motion := s.motion.set p ((u.offerMotion p).unit p), links := (u.offerMotion p).links
    streams := (u.offerMotion p).streams } := by
  rw [State.offerMotion_unit, u.offerMotion_frame p]
  generalize (u.offerMotion p).links = links, (u.offerMotion p).streams = streams
  conv_lhs => rw [w.frame]

/-! ## The ends of segments (R68, R71 to R73) -/

theorem State.abortSegment_links (s : State) (p : Port) (o : SegOutcome) :
    (s.abortSegment p o).links = (s.endQueue p o .flushed).links := by
  unfold State.abortSegment
  split
  · rename_i empty; rw [State.endQueue_of_nil empty]
  · rfl

section
variable {s : State} {p : Port} {g : Segment} {rest : List Segment} (queue : (s.unit p).queue = g :: rest)
include queue

/-- An ended queue leaves the motor to the end action of the segment that was active (R72). -/
theorem State.abortSegment_ended (o : SegOutcome) : ((s.abortSegment p o).unit p).queue = []
    ∧ ((s.abortSegment p o).unit p).act = none
    ∧ ((s.abortSegment p o).unit p).endedBy g.endAction (s.unit p).holdPosition := by
  refine ⟨s.abortSegment_queue p o, ?_, ?_⟩
  · rw [State.abortSegment_unit queue, MotionUnit.endAction_kept]
  · rw [State.abortSegment_unit queue]
    exact MotionUnit.endAction_endedBy _ _ _ _

theorem State.sendsEnd_abortSegment {o : SegOutcome} (reported : g.reports o = true) :
    s.sendsEnd (s.abortSegment p o) p none g o :=
  (s.unitWork_endQueue p o .flushed).links.sendsEnd_before (.of_links (s.abortSegment_links p o))
    (State.sendsEnd_endQueue_active queue reported)

theorem State.sendsEnd_abortSegment_waiting (o : SegOutcome) {k : Segment} (mem : k ∈ rest) :
    s.sendsEnd (s.abortSegment p o) p none k .flushed :=
  (s.unitWork_endQueue p o .flushed).links.sendsEnd_before (.of_links (s.abortSegment_links p o))
    (State.sendsEnd_endQueue_waiting queue mem rfl)

theorem State.finishSegment_of_cons {h : Segment} {more : List Segment} (waiting : rest = h :: more) (o : SegOutcome) :
    s.finishSegment p o = ((s.endNotice p none g o (s.elapsed p)).modUnit p fun m =>
      { m with queue := rest, act := none }).activate p (some g.work.regulated) := by
  unfold State.finishSegment
  rw [queue, waiting]

theorem State.sendsEnd_finishSegment {o : SegOutcome} (reported : g.reports o = true) :
    s.sendsEnd (s.finishSegment p o) p none g o := by
  cases waiting : rest with
  | nil =>
    rw [State.finishSegment_of_single (waiting ▸ queue)]
    exact State.sendsEnd_abortSegment queue reported
  | cons h more =>
    rw [State.finishSegment_of_cons queue waiting]
    exact (s.linkWork_endNotice p none g o _).links.sendsEnd_before
      (State.LinksGrow.trans (t := (s.endNotice p none g o (s.elapsed p)).modUnit p fun m =>
        { m with queue := rest, act := none }) (.of_links rfl) (State.unitWork_activate _ p _).links) (s.sendsEnd_endNotice p none reported _)

/-- A segment that is first in the queue and can be decided starts, the others waiting behind it (R65). -/
theorem State.activate_first (valid : (g.cond.all fun c => s.condValid c) = true) (prev : Option Bool) :
    (s.activate p prev).unit p
      = { (s.unit p).started g (s.activation p g) prev with queue := (s.unit p).queue } := by
  have decided : (g.cond.all fun c => (s.modUnit p fun m => { m with act := some (s.activation p g) }).condValid c) = true :=
    valid
  unfold State.activate
  rw [queue]
  simp only [if_pos valid, State.modUnit_unit_same]
  rw [← queue]
  rfl

/-- Where one waits that can be decided, the end of the active segment starts it (R71). -/
theorem State.finishSegment_next {h : Segment} {more : List Segment} (waiting : rest = h :: more)
    (valid : (h.cond.all fun c => s.condValid c) = true) (o : SegOutcome) :
    (s.finishSegment p o).unit p
      = { (s.unit p).started h (s.activation p h) (some g.work.regulated) with queue := rest } := by
  obtain ⟨t, ht⟩ : ∃ t, t = (s.endNotice p none g o (s.elapsed p)).modUnit p fun m =>
    { m with queue := rest, act := none } := ⟨_, rfl⟩
  have told := s.linkWork_endNotice p none g o (s.elapsed p)
  have unit : t.unit p = { s.unit p with queue := rest, act := none } := by
    rw [ht, State.modUnit_unit_same, told.unit]
  have ports (x : Port) : t.port x = s.port x := by rw [ht, State.modUnit_port, told.frame]; rfl
  have now : t.now = s.now := by rw [ht, State.modUnit_now, told.frame]
  have record : t.activation p h = s.activation p h := by
    simp only [State.activation, State.baseline, ports, unit, now]
  have decided : (h.cond.all fun c => t.condValid c) = true := by simpa only [State.condValid, ports] using valid
  rw [State.finishSegment_of_cons queue waiting, ← ht,
    State.activate_first (rest := more) (by rw [unit, waiting]) decided, record, unit]
  rfl

end

/-- The ramp accumulator and the integral of a segment that follows another on a running motor (R65, step 3). -/
theorem MotionUnit.regulatorStart_after {m : MotionUnit} (running : m.motor = .running) (prev regulated : Bool) :
    m.regulatorStart (some prev) regulated = { m.reg with
      acc := if regulated = prev then m.reg.acc
        else clampMag 32000000 (if regulated then m.reg.speed * 1000 else m.reg.duty * 1000)
      integral := if regulated = true ∧ prev = false then 0 else m.reg.integral } := by
  unfold MotionUnit.regulatorStart
  rw [running]
  cases prev <;> cases regulated <;> simp [loadAcc]

/-! ## The stages of the event (R84 to R97) -/

/-- The distance of a unit's position from its segment's target (R93). -/
def Activation.distance (a : Activation) (position : BitVec 32) : Int := (a.target.map fun t => wrapDiff t position).getD 0

/-- The active segment's limit is reached: its time has passed, or it has settled at its target (R66, R95). -/
def Segment.limitReached (g : Segment) (a : Activation) (now : Nat) (d : Int) : Prop :=
  g.timeUp (now - a.start) = true ∨ (g.work.positioning = true ∧ 4 ≤ settleCount a.phase a.settle d)

/-- The phase and decel direction of a segment at an event (R93, R94): a segment that does not position keeps its own. -/
def MotionUnit.phaseAt (m : MotionUnit) (g : Segment) (a : Activation) (d : Int) : Phase × Int :=
  if g.work.positioning then nextPhase a.phase a.decelDir m.reg.ramped (g.decelRate m.settings) d else (a.phase, a.decelDir)

/-- The unit after stages 3 to 10 of a regulated segment, its activation record updated. -/
def MotionUnit.regulated (m : MotionUnit) (sup : Supply) (g : Segment) (a : Activation) (d : Int) (count : Nat) :
    MotionUnit :=
  let f := m.phaseAt g a d
  let r := m.rampStage g f.1 f.2 d
  let n := r.1.drive sup r.2
  { n with act := some { a with
      phase := f.1, decelDir := f.2
      settle := if a.phase ≠ .settle ∧ f.1 = .settle ∧ inWindow d = true then 1 else count
      stall := n.stallCount g.speed a.stall } }

theorem State.regulatePort_eq (s : State) (p : Port) (g : Segment) (a : Activation) (d : Int) (count : Nat) :
    s.regulatePort p g a d count
      = if (((s.unit p).regulated s.supply g a d count).settings.stalled
            (((s.unit p).regulated s.supply g a d count).stallCount g.speed a.stall)) = true
        then (s.setUnit p ((s.unit p).regulated s.supply g a d count)).stallPort p g
        else s.setUnit p ((s.unit p).regulated s.supply g a d count) := rfl

section
variable {s : State} {p : Port} {g : Segment} {rest : List Segment} {a : Activation}

/-- The event of a running segment, by its three outcomes (R82, R84). -/
theorem State.regulateSingle_running (motor : (s.unit p).motor = .running) (queue : (s.unit p).queue = g :: rest)
    (act : (s.unit p).act = some a) :
    (g.limitReached a s.now (a.distance (s.unit p).position) → s.regulateSingle p = s.finishSegment p .done)
    ∧ (¬ g.limitReached a s.now (a.distance (s.unit p).position) → s.regulateSingle p =
      if g.work.regulated then s.regulatePort p g a (a.distance (s.unit p).position)
        (if g.work.positioning then settleCount a.phase a.settle (a.distance (s.unit p).position) else a.settle)
      else s.modUnit p fun m => m.dutyPath s.supply g) := by
  have event : s.regulateSingle p =
      if g.timeUp (s.now - a.start) = true ∨ (g.work.positioning = true ∧ 4 ≤
          (if g.work.positioning then settleCount a.phase a.settle (a.distance (s.unit p).position) else a.settle))
      then s.finishSegment p .done
      else if g.work.regulated then s.regulatePort p g a (a.distance (s.unit p).position)
        (if g.work.positioning then settleCount a.phase a.settle (a.distance (s.unit p).position) else a.settle)
      else s.modUnit p fun m => m.dutyPath s.supply g := by
    unfold State.regulateSingle
    simp only [motor, queue, act]
    rfl
  have limit : g.limitReached a s.now (a.distance (s.unit p).position) ↔
      (g.timeUp (s.now - a.start) = true ∨ (g.work.positioning = true ∧ 4 ≤
        (if g.work.positioning then settleCount a.phase a.settle (a.distance (s.unit p).position) else a.settle))) :=
    or_congr_right (and_congr_right fun positions => by rw [if_pos positions])
  rw [event]
  exact ⟨fun h => if_pos (limit.mp h), fun h => if_neg (mt limit.mpr h)⟩

theorem State.regulateSingle_holding (motor : (s.unit p).motor = .holding) :
    s.regulateSingle p = s.modUnit p fun m => m.holdRegulate s.supply := by
  unfold State.regulateSingle
  simp only [motor]

theorem State.regulateSingle_resting (motor : (s.unit p).motor = .coasting ∨ (s.unit p).motor = .braking) :
    s.regulateSingle p = s.modUnit p fun m => { m with reg := { m.reg with duty := 0, clamped := false } } := by
  unfold State.regulateSingle
  rcases motor with motor | motor <;> simp only [motor]

end

end Sys2Proof.Machine
end

section
/-! The regulation event of a RUN segment and its stall by each policy (R68, R82 to R91): O34. -/

namespace Sys2Proof.Machine

/-! ## The regulator in the words of the statements (R83, R87 to R90) -/

/-- A unit with a speed measured and its position appended to the history. -/
def MotionUnit.measured (m : MotionUnit) (v : Int) : MotionUnit :=
  { m with reg := { m.reg with
      history := ⟨m.reg.history.second, m.reg.history.third, m.reg.history.newest, m.position⟩
      refill := m.reg.refill - 1, speed := v } }

theorem MotionUnit.estimate_eq {m : MotionUnit} {v : Int}
    (hv : v = if m.reg.refill = 0 then clampMag 65535 ((m.position - m.reg.history.oldest).toInt * 50) else 0) :
    m.estimate = m.measured v := by
  subst hv; rfl

theorem integrate_eq (r : Regulator) (ki e : Int) : integrate r ki e = if ki = 0 then 0 else
    clampMag (truncDiv 4096000 ki) (if r.clamped = true ∧ 0 < e * r.duty then r.integral else r.integral + e) := by
  simp only [integrate, integralMax, sameSign, decide_eq_true_eq]

/-- A unit with its ramp accumulator loaded. -/
def MotionUnit.withAcc (m : MotionUnit) (acc : Int) : MotionUnit := { m with reg := { m.reg with acc := acc } }

/-- The drive toward a target from a loaded accumulator: error, integral, output, compensation and ceiling. -/
theorem MotionUnit.drive_withAcc {m : MotionUnit} {sup : Supply} {acc target e i u duty c : Int}
    (he : e = clampMag 65535 (target - m.reg.speed)) (hi : i = integrate m.reg m.settings.ki e)
    (hu : u = regulatorOutput m.settings e i target) (hduty : duty = compensate u sup.vnom sup.vf)
    (hc : c = ceilingOf m.settings.dutyLimit sup.s) :
    (m.withAcc acc).drive sup target = { m with reg := { m.reg with
      acc := acc, integral := i, duty := clampMag c duty, clamped := decide (c < mag duty) } } := by
  subst he hi hu hduty hc; rfl

/-! ## A regulated segment that does not position (R85, R86) -/

section
variable {m : MotionUnit} {g : Segment} (a : Activation) (d : Int) (still : g.work.positioning = false)
include still

theorem MotionUnit.phaseAt_of_not_positioning : m.phaseAt g a d = (a.phase, a.decelDir) :=
  if_neg (by simp [still])

theorem MotionUnit.rampStage_of_not_positioning (phase : Phase) (dir : Int) : m.rampStage g phase dir d
    = (m.withAcc (ramp m.reg.acc (g.speed * 1000) (g.accelRate m.settings)),
      truncDiv (ramp m.reg.acc (g.speed * 1000) (g.accelRate m.settings)) 1000) := by
  have goal : g.goal m.settings phase dir d = (g.speed * 1000, g.accelRate m.settings) := by
    unfold Segment.goal
    rw [still]
  unfold MotionUnit.rampStage
  rw [if_neg (by simp [still]), goal]
  rfl

/-- Its own speed is the goal, and its activation record keeps all but the stall timer (R85 to R91). -/
theorem MotionUnit.regulated_of_not_positioning {sup : Supply} {acc : Int} {n : MotionUnit}
    (ramped : acc = ramp m.reg.acc (g.speed * 1000) (g.accelRate m.settings))
    (driven : (m.withAcc acc).drive sup (truncDiv acc 1000) = n) :
    m.regulated sup g a d a.settle = { n with act := some { a with stall := n.stallCount g.speed a.stall } } := by
  subst ramped driven
  have kept : ¬ (a.phase ≠ .settle ∧ a.phase = .settle ∧ inWindow d = true) := fun ⟨moving, settled, _⟩ => moving settled
  simp only [MotionUnit.regulated, MotionUnit.phaseAt_of_not_positioning a d still,
    MotionUnit.rampStage_of_not_positioning d still, if_neg kept]

end

/-! ## A RUN segment (R66, R82 to R91) -/

/-- The event of a RUN segment is the regulator's alone: a RUN has no limit (R66). -/
theorem State.regulateSingle_run {s : State} {p : Port} {g : Segment} {rest : List Segment} {a : Activation}
    (motor : (s.unit p).motor = .running) (queue : (s.unit p).queue = g :: rest) (act : (s.unit p).act = some a)
    (work : g.work = .run) :
    s.regulateSingle p = s.regulatePort p g a (a.distance (s.unit p).position) a.settle := by
  have endless : ¬ g.limitReached a s.now (a.distance (s.unit p).position) := by
    simp [Segment.limitReached, Segment.timeUp, work, SegWork.time, SegWork.positioning]
  rw [(State.regulateSingle_running motor queue act).2 endless, work]
  rfl

/-- The unit after a RUN event, in the words of the statement (R83 to R91). -/
theorem MotionUnit.regulated_run {m : MotionUnit} {sup : Supply} {g : Segment} {a : Activation} {d : Int}
    {v acc target e i u duty c : Int} {timer : Nat} (work : g.work = .run)
    (hv : v = if m.reg.refill = 0 then clampMag 65535 ((m.position - m.reg.history.oldest).toInt * 50) else 0)
    (hacc : acc = ramp m.reg.acc (g.speed * 1000) (g.accelRate m.settings))
    (htarget : target = truncDiv acc 1000) (he : e = clampMag 65535 (target - v))
    (hi : i = integrate m.reg m.settings.ki e) (hu : u = regulatorOutput m.settings e i target)
    (hduty : duty = compensate u sup.vnom sup.vf) (hc : c = ceilingOf m.settings.dutyLimit sup.s)
    (htimer : timer = if c < mag duty ∧ mag v < stallSpeedOf m.settings g.speed then a.stall + 1 else 0) :
    m.estimate.regulated sup g a d a.settle = { m with
      act := some { a with stall := timer }
      reg := ⟨acc, i, clampMag c duty, decide (c < mag duty),
        ⟨m.reg.history.second, m.reg.history.third, m.reg.history.newest, m.position⟩, m.reg.refill - 1, v,
        m.reg.holdCreep⟩ } := by
  rw [MotionUnit.estimate_eq hv]
  have driven := MotionUnit.drive_withAcc (m := m.measured v) (acc := acc) he hi hu hduty hc
  have ticked := MotionUnit.regulated_of_not_positioning (m := m.measured v) a d (by rw [work]; rfl) hacc
    (htarget ▸ driven)
  rw [ticked, htimer]
  simp only [MotionUnit.stallCount, decide_eq_true_eq]
  rfl

/-- The stall policy of a RUN segment (R68): what becomes of its queue, its motor and its regulator, and who is told. -/
theorem State.stallPort_acts {s : State} {p : Port} {g : Segment} {rest : List Segment} {a : Activation}
    (motor : (s.unit p).motor = .running) (queue : (s.unit p).queue = g :: rest) (act : (s.unit p).act = some a)
    (regulated : g.work.regulated = true) :
    (g.stall = .keepOn → (s.stallPort p g).unit p = { s.unit p with act := some { a with stall := 0 } })
    ∧ (g.stall ≠ .keepOn → s.sendsEnd (s.stallPort p g) p none g .stalled)
    ∧ (g.stall = .abort ∨ (g.stall = .finish ∧ rest = []) →
      ((s.stallPort p g).unit p).queue = [] ∧ ((s.stallPort p g).unit p).act = none
      ∧ ((s.stallPort p g).unit p).endedBy g.endAction (a.target.getD (s.unit p).position)
      ∧ ∀ h ∈ rest, s.sendsEnd (s.stallPort p g) p none h .flushed)
    ∧ (∀ h more, g.stall = .finish → rest = h :: more → h.cond = none →
      ((s.stallPort p g).unit p).queue = rest ∧ ((s.stallPort p g).unit p).motor = .running
      ∧ ((s.stallPort p g).unit p).act.map Activation.start = some s.now
      ∧ (h.work.regulated = true → ((s.stallPort p g).unit p).reg.acc = (s.unit p).reg.acc
        ∧ ((s.stallPort p g).unit p).reg.integral = (s.unit p).reg.integral)) := by
  have hold : (s.unit p).holdPosition = a.target.getD (s.unit p).position := by
    rw [MotionUnit.holdPosition, act]; rfl
  have aborted := State.abortSegment_ended queue .stalled
  rw [hold] at aborted
  obtain ⟨emptied, ended, action⟩ := aborted
  have flushed : ∀ h ∈ rest, s.sendsEnd (s.abortSegment p .stalled) p none h .flushed :=
    fun h mem => State.sendsEnd_abortSegment_waiting queue .stalled mem
  unfold State.stallPort
  cases policy : g.stall with
  | keepOn =>
    refine ⟨fun _ => ?_, fun h => absurd rfl h, fun h => absurd h (by simp), fun _ _ h => absurd h (by decide)⟩
    rw [State.modUnit_unit_same, act]; rfl
  | abort =>
    exact ⟨fun h => absurd h (by decide), fun _ => State.sendsEnd_abortSegment queue rfl,
      fun _ => ⟨emptied, ended, action, flushed⟩, fun _ _ h => absurd h (by decide)⟩
  | finish =>
    refine ⟨fun h => absurd h (by decide), fun _ => State.sendsEnd_finishSegment queue rfl, fun h => ?_,
      fun h more _ waiting free => ?_⟩
    · have last : rest = [] := (h.resolve_left (by simp)).2
      simp only [State.finishSegment_of_single (last ▸ queue)]
      exact ⟨emptied, ended, action, flushed⟩
    · rw [State.finishSegment_next queue waiting (by rw [free]; rfl) .stalled, regulated]
      refine ⟨rfl, rfl, rfl, fun follows => ?_⟩
      rw [MotionUnit.started, follows, MotionUnit.regulatorStart_running motor]
      exact ⟨rfl, rfl⟩

/-- Settles O34: the event is the speed estimate, then stages 3 to 10 in the words of the statement
(`MotionUnit.regulated_run`), then the stall policy where the timer is at the stall time (`State.stallPort_acts`). -/
theorem regulatedRunEvent : Obligations.RegulatedRunEvent := by
  intro p s m m' g rest a k v acc target e i u duty c timer single hm motor queue act work hk hv hacc htarget he hi hu
    hduty hc htimer hm'
  subst hk
  have regulated : m.estimate.regulated s.supply g a (a.distance m.estimate.position) a.settle = m' :=
    hm' ▸ MotionUnit.regulated_run work hv hacc htarget he (hi.trans (integrate_eq _ _ _).symm) hu hduty hc htimer
  obtain ⟨settings, position⟩ : m'.settings = m.settings ∧ m'.position = m.position := by rw [hm']; exact ⟨rfl, rfl⟩
  have still : m'.motor = .running ∧ m'.queue = g :: rest := by rw [hm']; exact ⟨motor, queue⟩
  have record : m'.act = some { a with stall := timer } := by rw [hm']
  have ramped : m'.reg.acc = acc ∧ m'.reg.integral = i := by rw [hm']; exact ⟨rfl, rfl⟩
  have counted : m'.stallCount g.speed a.stall = timer := by
    rw [htimer, hm']
    simp only [MotionUnit.stallCount, stallSpeedOf, decide_eq_true_eq]
  have unit : (s.estimated p).unit p = m.estimate := by rw [State.estimated_unit, hm]
  have event : (s.estimated p).regulateSingle p = if m.settings.stalled timer = true
      then (s.setUnit p m').stallPort p g else s.setUnit p m' := by
    have placed : (s.estimated p).setUnit p m' = s.setUnit p m' := s.setUnit_setUnit p _ m'
    rw [State.regulateSingle_run (by rw [unit]; exact motor) (by rw [unit]; exact queue) (by rw [unit]; exact act) work,
      State.regulatePort_eq, unit, show (s.estimated p).supply = s.supply from rfl, regulated, settings, counted, placed]
  have worked : s.UnitWork p (s.setUnit p m') :=
    s.unitWork_setUnit p fun i => by rw [hm']; exact hm ▸ i
  have run := exec_regulationEvent_single single
  refine ⟨fun short => ?_, fun long counting => ?_⟩
  · rw [event, if_neg (by simp [RegSettings.stalled, short])] at run
    exact ⟨_, run, by rw [State.offerMotion_unit, State.setUnit_unit_same], worked.offerMotion⟩
  · rw [event, if_pos (by simp [RegSettings.stalled, long, counting])] at run
    have stalled := State.stallPort_acts (s := s.setUnit p m') (p := p) (g := g) (rest := rest)
      (a := { a with stall := timer }) (by rw [State.setUnit_unit_same]; exact still.1)
      (by rw [State.setUnit_unit_same]; exact still.2) (by rw [State.setUnit_unit_same]; exact record) (by rw [work]; rfl)
    rw [State.setUnit_unit_same, position, ramped.1, ramped.2] at stalled
    obtain ⟨goesOn, told, ends, follows⟩ := stalled
    have tells {h : Segment} {o : SegOutcome} (sent : (s.setUnit p m').sendsEnd ((s.setUnit p m').stallPort p g) p none h o) :
        s.sendsEnd (((s.setUnit p m').stallPort p g).offerMotion p) p none h o :=
      (worked.links.trans (State.unitWork_stallPort _ p g).links).sendsEnd_before (State.linksGrow_offerMotion _ p)
        (worked.links.sendsEnd_after sent)
    refine ⟨_, run, ?_, fun policy => tells (told policy), fun policy => ?_, ?_,
      (worked.trans (State.unitWork_stallPort _ p g)).offerMotion⟩
    · rw [State.offerMotion_unit]; exact goesOn
    · obtain ⟨emptied, ended, action, flushed⟩ := ends policy
      rw [State.offerMotion_unit]
      exact ⟨emptied, ended, action, fun h mem => tells (flushed h mem)⟩
    · rw [State.offerMotion_unit]; exact follows

end Sys2Proof.Machine
end


section
/-! The other regulation events of a unit that runs its own queue, and the outputs of a port (R82 to R97, R4, R58, R92): O35. -/

namespace Sys2Proof.Machine

/-! ## What the speed estimate measured stands through the event (R83) -/

/-- What the speed estimate measures: the speed, and the history and the position it comes from. -/
def MotionUnit.measure (m : MotionUnit) : Int × History × BitVec 32 := (m.reg.speed, m.reg.history, m.position)

theorem MotionUnit.endAction_measure (m : MotionUnit) (a : EndAction) (position : BitVec 32) (creep : Int) :
    (m.endAction a position creep).measure = m.measure := by
  cases a <;> rfl

theorem MotionUnit.started_measure (m : MotionUnit) (g : Segment) (a : Activation) (prev : Option Bool) :
    (m.started g a prev).measure = m.measure := by
  have kept : (m.regulatorStart prev g.work.regulated).speed = m.reg.speed
      ∧ (m.regulatorStart prev g.work.regulated).history = m.reg.history := by
    unfold MotionUnit.regulatorStart
    split
    · split <;> exact ⟨rfl, rfl⟩
    · split <;> exact ⟨rfl, rfl⟩
    all_goals exact ⟨rfl, rfl⟩
  rw [MotionUnit.measure, MotionUnit.started, MotionUnit.measure, kept.1, kept.2]

theorem MotionUnit.rampStage_measure (m : MotionUnit) (g : Segment) (phase : Phase) (dir d : Int) :
    (m.rampStage g phase dir d).1.measure = m.measure := by
  unfold MotionUnit.rampStage
  split <;> rfl

theorem MotionUnit.regulated_measure (m : MotionUnit) (sup : Supply) (g : Segment) (a : Activation) (d : Int) (count : Nat) :
    (m.regulated sup g a d count).measure = m.measure :=
  (rfl : (m.regulated sup g a d count).measure = (m.rampStage g _ _ d).1.measure).trans (m.rampStage_measure g _ _ d)

section
variable (s : State) (p : Port)

theorem State.abortSegment_measure (o : SegOutcome) : ((s.abortSegment p o).unit p).measure = (s.unit p).measure := by
  cases queue : (s.unit p).queue with
  | nil => unfold State.abortSegment; rw [queue]
  | cons g rest => rw [State.abortSegment_unit queue, MotionUnit.endAction_measure]; rfl

theorem State.activate_measure (prev : Option Bool) : ((s.activate p prev).unit p).measure = (s.unit p).measure := by
  cases queue : (s.unit p).queue with
  | nil => unfold State.activate; rw [queue]
  | cons g rest =>
    by_cases valid : (g.cond.all fun c => s.condValid c) = true
    · rw [State.activate_first queue valid]
      exact (s.unit p).started_measure g (s.activation p g) prev
    · unfold State.activate
      rw [queue]
      simp only [if_neg valid]
      rw [State.abortSegment_measure, State.modUnit_unit_same]
      rfl

theorem State.finishSegment_measure (o : SegOutcome) : ((s.finishSegment p o).unit p).measure = (s.unit p).measure := by
  cases queue : (s.unit p).queue with
  | nil => unfold State.finishSegment; rw [queue]
  | cons g rest =>
    cases waiting : rest with
    | nil => rw [State.finishSegment_of_single (waiting ▸ queue), State.abortSegment_measure]
    | cons h more =>
      rw [State.finishSegment_of_cons queue waiting, State.activate_measure, State.modUnit_unit_same,
        (s.linkWork_endNotice p none g o (s.elapsed p)).unit]
      rfl

theorem State.stallPort_measure (g : Segment) : ((s.stallPort p g).unit p).measure = (s.unit p).measure := by
  unfold State.stallPort
  cases g.stall with
  | keepOn => rw [State.modUnit_unit_same]; rfl
  | finish => exact s.finishSegment_measure p .stalled
  | abort => exact s.abortSegment_measure p .stalled

theorem State.regulatePort_measure (g : Segment) (a : Activation) (d : Int) (count : Nat) :
    ((s.regulatePort p g a d count).unit p).measure = (s.unit p).measure := by
  rw [State.regulatePort_eq]
  split
  · rw [State.stallPort_measure, State.setUnit_unit_same, MotionUnit.regulated_measure]
  · rw [State.setUnit_unit_same, MotionUnit.regulated_measure]

theorem State.regulateSingle_measure : ((s.regulateSingle p).unit p).measure = (s.unit p).measure := by
  cases motor : (s.unit p).motor with
  | coasting => rw [State.regulateSingle_resting (.inl motor), State.modUnit_unit_same]; rfl
  | braking => rw [State.regulateSingle_resting (.inr motor), State.modUnit_unit_same]; rfl
  | holding => rw [State.regulateSingle_holding motor, State.modUnit_unit_same]; rfl
  | running =>
    cases queue : (s.unit p).queue with
    | nil => unfold State.regulateSingle; simp only [motor, queue]
    | cons g rest =>
      cases act : (s.unit p).act with
      | none => unfold State.regulateSingle; simp only [motor, queue, act]
      | some a =>
        obtain ⟨ends, goesOn⟩ := State.regulateSingle_running motor queue act
        by_cases limit : g.limitReached a s.now (a.distance (s.unit p).position)
        · rw [ends limit, State.finishSegment_measure]
        · rw [goesOn limit, apply_ite (fun t : State => (t.unit p).measure), State.regulatePort_measure,
            State.modUnit_unit_same]
          exact ite_self _

end

/-! ## The phases of a positioning segment (R93 to R95) -/

theorem signOf_eq_sign (d : Int) : signOf d = d.sign := by
  unfold signOf
  rcases lt_trichotomy d 0 with neg | zero | pos
  · rw [if_neg (by omega), if_pos neg, Int.sign_eq_neg_one_of_neg neg]
  · subst zero; rfl
  · rw [if_pos pos, Int.sign_eq_one_of_pos pos]

/-- The phase of the statement: CRUISE turns to DECEL at the stopping distance, both to SETTLE within 3 counts, DECEL to
SETTLE past the target too. -/
theorem nextPhase_eq {before phase : Phase} {dir ramped decel d : Int}
    (turned : phase = match before with
      | .cruise => if mag d ≤ 3 then .settle else if 0 < ramped * d ∧ 2 * decel * mag d ≤ ramped * ramped then .decel
          else .cruise
      | .decel => if mag d ≤ 3 ∨ d.sign ≠ dir then .settle else .decel
      | .settle => .settle) :
    nextPhase before dir ramped decel d = (phase, if before = .cruise ∧ phase = .decel then d.sign else dir) := by
  subst turned
  unfold nextPhase
  cases before with
  | settle => rfl
  | cruise =>
    simp only [inWindow, decelDue, sameSign, signOf_eq_sign, decide_eq_true_eq, Bool.and_eq_true]
    split
    · rfl
    · split <;> rfl
  | decel =>
    simp only [inWindow, signOf_eq_sign, decide_eq_true_eq]
    split <;> rfl

/-- A target and a position give the distance. -/
theorem Activation.distance_of_target {a : Activation} {x position : BitVec 32} (target : a.target = some x) :
    a.distance position = (x - position).toInt := by
  rw [Activation.distance, target]; rfl

/-- The limit in the words of the statement: the time has passed, or this is the fourth event settled at the target. -/
theorem Segment.limitReached_of {g : Segment} {a : Activation} {now : Nat} {position : BitVec 32}
    (reached : (∃ ms, g.work.time = some ms ∧ ms ≤ now - a.start)
      ∨ (g.work.positioning = true ∧ a.phase = .settle ∧ 3 ≤ a.settle
        ∧ ∃ x, a.target = some x ∧ mag (x - position).toInt ≤ 3)) :
    g.limitReached a now (a.distance position) := by
  rcases reached with ⟨ms, time, passed⟩ | ⟨positions, settles, count, x, target, near⟩
  · exact .inl (by simp [Segment.timeUp, time, passed])
  · refine .inr ⟨positions, ?_⟩
    rw [Activation.distance_of_target target, settleCount, if_pos ⟨settles, decide_eq_true near⟩]
    omega

/-- A positioning segment has no time (R66). -/
theorem SegWork.time_of_positioning {w : SegWork} (positions : w.positioning = true) : w.time = none := by
  cases w with
  | runTime ms | dutyTime ms => cases positions
  | _ => rfl

/-! ## A positioning event short of the stall time (R93 to R95) -/

section
variable {m : MotionUnit} {sup : Supply} {g : Segment} {a : Activation} {d : Int} {count : Nat}

theorem MotionUnit.regulated_settings : (m.regulated sup g a d count).settings = m.settings :=
  m.rampStage_settings g _ _ d

/-- The stall timer counts by one at most: a unit that stays below the stall time after one more event does not stall. -/
theorem MotionUnit.regulated_not_stalled (short : (a.stall : Int) + 1 < truncDiv m.settings.stallTime 5) :
    ¬ (m.regulated sup g a d count).settings.stalled ((m.regulated sup g a d count).stallCount g.speed a.stall) = true := by
  have below : (m.regulated sup g a d count).stallCount g.speed a.stall ≤ a.stall + 1 := by
    unfold MotionUnit.stallCount
    split <;> omega
  rw [MotionUnit.regulated_settings]
  simp only [RegSettings.stalled, Bool.and_eq_true, decide_eq_true_eq, not_and]
  omega

/-- The ramp accumulator of a positioning segment: proportional to the distance in SETTLE, otherwise ramped toward the creep
speed in DECEL and the segment's speed in CRUISE, both signed toward the target. -/
theorem MotionUnit.rampStage_positioning (positions : g.work.positioning = true) (phase : Phase) (dir : Int) :
    (m.rampStage g phase dir d).1.reg.acc = if phase = .settle then creepTarget m.settings.kh d (creepOf g.speed) * 1000
      else ramp m.reg.acc (if phase = .decel then creepOf g.speed * 1000 * dir else mag g.speed * 1000 * d.sign)
        (if phase = .decel then g.decelRate m.settings else g.accelRate m.settings) := by
  unfold MotionUnit.rampStage Segment.goal
  rw [positions, signOf_eq_sign]
  cases phase <;> simp

/-- The unit after a positioning event: its queue and its motor stand, its phase, its record and its ramp go on. -/
theorem MotionUnit.regulated_positioning (positions : g.work.positioning = true) {phase : Phase} {dir : Int}
    (turned : nextPhase a.phase a.decelDir m.reg.ramped (g.decelRate m.settings) d = (phase, dir)) :
    (m.regulated sup g a d count).queue = m.queue ∧ (m.regulated sup g a d count).motor = m.motor
    ∧ (∃ n, (m.regulated sup g a d count).act = some { a with
        phase := phase, decelDir := dir, stall := n
        settle := if a.phase ≠ .settle ∧ phase = .settle ∧ mag d ≤ 3 then 1 else count })
    ∧ (m.regulated sup g a d count).reg.acc = (m.rampStage g phase dir d).1.reg.acc := by
  have phased : m.phaseAt g a d = (phase, dir) := by rw [MotionUnit.phaseAt, if_pos positions, turned]
  have ramped : (m.rampStage g phase dir d).1.queue = m.queue ∧ (m.rampStage g phase dir d).1.motor = m.motor := by
    unfold MotionUnit.rampStage
    split <;> exact ⟨rfl, rfl⟩
  unfold MotionUnit.regulated
  simp only [phased, inWindow, decide_eq_true_eq]
  exact ⟨ramped.1, ramped.2, ⟨_, rfl⟩, rfl⟩

end

/-! ## The events by motor state and segment, before the offer to the subscription table (R84, R93 to R97) -/

section
variable {s : State} {p : Port} {g : Segment} {rest : List Segment} {a : Activation}
  (motor : (s.unit p).motor = .running) (queue : (s.unit p).queue = g :: rest) (act : (s.unit p).act = some a)
include motor queue act

theorem State.regulateSingle_duty (work : g.work = .duty) :
    (s.regulateSingle p).unit p = (s.unit p).dutyPath s.supply g := by
  have endless : ¬ g.limitReached a s.now (a.distance (s.unit p).position) := by
    simp [Segment.limitReached, Segment.timeUp, work, SegWork.time, SegWork.positioning]
  rw [(State.regulateSingle_running motor queue act).2 endless, if_neg (by simp [work, SegWork.regulated]),
    State.modUnit_unit_same]

theorem State.regulateSingle_positioning (positions : g.work.positioning = true)
    (short : (a.stall : Int) + 1 < truncDiv (s.unit p).settings.stallTime 5)
    (unsettled : settleCount a.phase a.settle (a.distance (s.unit p).position) < 4) :
    (s.regulateSingle p).unit p = (s.unit p).regulated s.supply g a (a.distance (s.unit p).position)
      (settleCount a.phase a.settle (a.distance (s.unit p).position)) := by
  have goesOn : ¬ g.limitReached a s.now (a.distance (s.unit p).position) := by
    rintro (timed | ⟨-, settled⟩)
    · simp [Segment.timeUp, SegWork.time_of_positioning positions] at timed
    · omega
  have regulated : g.work.regulated = true := by
    cases work : g.work with
    | duty | dutyTime ms => rw [work] at positions; cases positions
    | _ => rfl
  rw [(State.regulateSingle_running motor queue act).2 goesOn, if_pos regulated, if_pos positions, State.regulatePort_eq,
    if_neg (MotionUnit.regulated_not_stalled short), State.setUnit_unit_same]

end

/-- The event of a DUTY segment, in the words of the statement (R97). -/
theorem MotionUnit.dutyPath_eq {m : MotionUnit} {sup : Supply} {g : Segment} {acc duty c : Int}
    (hacc : acc = rampTo 1000000 m.reg.acc (g.speed * 1000) ((g.accel.map Int.ofNat).getD m.settings.accel * 5))
    (hduty : duty = truncDiv (truncDiv acc 1000 * sup.vnom) (max 3000 sup.vf)) (hc : c = min m.settings.dutyLimit sup.s) :
    m.dutyPath sup g = { m with reg := { m.reg with
      acc := acc, duty := clampMag c duty, clamped := decide (c < mag duty) } } := by
  subst hacc hduty hc; rfl

/-- The hold regulator without an integral gain: the target speed, and the duty the error and the feed forward give (R96). -/
theorem MotionUnit.holdRegulate_drives {m : MotionUnit} {sup : Supply} {h : BitVec 32} {target : Int} (hold : m.hold = some h)
    (htarget : target = clampMag (m.reg.holdCreep.getD 10) (truncDiv (m.settings.kh * (h - m.position).toInt) 16)) :
    (m.holdRegulate sup).reg.acc = target * 1000
    ∧ (m.settings.ki = 0 → (m.holdRegulate sup).reg.integral = 0
      ∧ (m.holdRegulate sup).reg.duty = clampMag (min m.settings.dutyLimit sup.s)
          (truncDiv (clampMag 1000 (truncDiv (m.settings.kp * clampMag 65535 (target - m.reg.speed)) 256
            + truncDiv (m.settings.kf * target) 256) * sup.vnom) (max 3000 sup.vf))) := by
  have driven : m.holdRegulate sup = (m.withAcc (target * 1000)).drive sup target := by
    have held : m.hold.getD m.position = h := by rw [hold]; rfl
    rw [MotionUnit.holdRegulate, held, htarget]
    rfl
  rw [driven, MotionUnit.drive_withAcc (m := m) rfl rfl rfl rfl rfl]
  refine ⟨rfl, fun proportional => ⟨?_, ?_⟩⟩
  · rw [integrate_eq, if_pos proportional]
  · simp [regulatorOutput, compensate, ceilingOf, proportional, truncDiv]

/-! ## The end DONE (R71 to R73) -/

/-- A running motor whose active segment ended and whose next one `h` became active, in the words of the statement: the
accumulator is loaded and the integral emptied where the family changes (R65). -/
def MotionUnit.succeeded (m : MotionUnit) (h : Segment) (queue : List Segment) (a : Activation) (prev : Bool) : MotionUnit :=
  { m with
    queue := queue, motor := .running, hold := none, act := some a
    reg := { m.reg with
      acc := if h.work.regulated = prev then m.reg.acc
        else clampMag 32000000 (if h.work.regulated then m.reg.speed * 1000 else m.reg.duty * 1000)
      integral := if h.work.regulated = true ∧ prev = false then 0 else m.reg.integral
      holdCreep := none } }

section
variable {s : State} {p : Port} {g : Segment} {rest : List Segment} (queue : (s.unit p).queue = g :: rest)
include queue

/-- The last segment ends DONE without a word where it asked for none. -/
theorem State.finishSegment_silent (last : rest = []) (quiet : g.notify = false) :
    (s.finishSegment p .done).links = s.links := by
  rw [State.finishSegment_of_single (last ▸ queue), State.abortSegment_links, State.endQueue_of_cons (last ▸ queue)]
  simp [State.endNotice, Segment.reports, quiet, State.waitingNotices]

/-- The next segment starts on the running motor (R65, R71). -/
theorem State.finishSegment_follows (motor : (s.unit p).motor = .running) {h : Segment} {more : List Segment}
    (waiting : rest = h :: more) (decided : ∀ c ∈ h.cond, s.decides [] c) (o : SegOutcome) :
    (s.finishSegment p o).unit p = (s.unit p).succeeded h rest
      ⟨s.now, h.cond.bind fun c => (s.port c.source).sample.bind SampleRec.seq,
        h.work.target (s.unit p).position, 0, .cruise, 0, 0⟩ g.work.regulated := by
  rw [State.finishSegment_next queue waiting (State.condValid_of_decides decided), MotionUnit.started,
    MotionUnit.regulatorStart_after motor]
  rfl

end

/-- The end DONE (R71 to R73): who is told, and what becomes of the queue and the motor. -/
theorem State.regulateSingle_done {s : State} {p : Port} {g : Segment} {rest : List Segment} {a : Activation}
    (motor : (s.unit p).motor = .running) (queue : (s.unit p).queue = g :: rest) (act : (s.unit p).act = some a)
    (limit : g.limitReached a s.now (a.distance (s.unit p).position)) :
    (g.notify = true → s.sendsEnd (s.regulateSingle p) p none g .done)
    ∧ (g.notify = false → rest = [] → (s.regulateSingle p).links = s.links)
    ∧ (rest = [] → ((s.regulateSingle p).unit p).queue = [] ∧ ((s.regulateSingle p).unit p).act = none
      ∧ ((s.regulateSingle p).unit p).endedBy g.endAction (a.target.getD (s.unit p).position))
    ∧ ∀ h more, rest = h :: more → (∀ c ∈ h.cond, s.decides [] c) →
      (s.regulateSingle p).unit p = (s.unit p).succeeded h rest
        ⟨s.now, h.cond.bind fun c => (s.port c.source).sample.bind SampleRec.seq,
          h.work.target (s.unit p).position, 0, .cruise, 0, 0⟩ g.work.regulated := by
  have hold : (s.unit p).holdPosition = a.target.getD (s.unit p).position := by
    rw [MotionUnit.holdPosition, act]; rfl
  rw [(State.regulateSingle_running motor queue act).1 limit]
  refine ⟨fun told => State.sendsEnd_finishSegment queue told, fun quiet last => State.finishSegment_silent queue last quiet,
    fun last => ?_, fun h more waiting decided => State.finishSegment_follows queue motor waiting decided .done⟩
  rw [State.finishSegment_of_single (last ▸ queue), ← hold]
  exact State.abortSegment_ended queue .done

/-! ## The outputs of a port (R4, R58, R92) -/

theorem MotionUnit.bridge_eq {m : MotionUnit} {n : Int} (hn : n = truncDiv (mag m.reg.duty * 1200) 1000) :
    m.bridge = match m.motor with
      | .coasting => (.off, .off)
      | .braking => (.low, .low)
      | _ => if 0 < m.reg.duty then (.pulsed n, .low) else if m.reg.duty < 0 then (.low, .pulsed n) else (.low, .low) := by
  subst hn; rfl

theorem MotionUnit.light_eq {m : MotionUnit} {n : Int} (hn : n = truncDiv (mag m.reg.duty * 1200) 1000) :
    m.light = if m.motor = .running then (if m.reg.duty = 0 then .low else .pulsed n) else .off := by
  subst hn
  unfold MotionUnit.light
  cases m.motor <;> rfl

/-- The outputs of a port, by its kind. -/
theorem State.outputs (s : State) (p : Port) (n duty : Int) (state : MotorState) : duty = (s.unit p).reg.duty →
    state = (s.unit p).motor → n = truncDiv (mag duty * 1200) 1000 →
    ((s.port p).kind = .plainMotor ∨ (s.port p).encoderMotor = true →
      s.bridgeOut p = (match state with
        | .coasting => (.off, .off)
        | .braking => (.low, .low)
        | _ => if 0 < duty then (.pulsed n, .low) else if duty < 0 then (.low, .pulsed n) else (.low, .low)))
    ∧ ((s.port p).kind ≠ .plainMotor → (s.port p).encoderMotor = false → s.bridgeOut p = (.off, .off))
    ∧ ((s.port p).kind = .light →
      s.txOut p = .light (if state = .running then (if duty = 0 then .low else .pulsed n) else .off))
    ∧ ((s.port p).kind ≠ .light → s.txOut p = .protocol) := by
  rintro rfl rfl hn
  refine ⟨fun driven => ?_, State.bridgeOut_off, fun light => ?_, State.txOut_protocol⟩
  · rw [State.bridgeOut, if_pos driven]
    exact MotionUnit.bridge_eq hn
  · rw [State.txOut, if_pos light, MotionUnit.light_eq hn]

/-- Work on the unit, then the offer, is work on the motion units, the links and the streams alone. -/
theorem State.UnitWork.offerMotion_rest {s u : State} {p : Port} (w : s.UnitWork p u) : u.offerMotion p = { s with
    motion := (u.offerMotion p).motion, links := (u.offerMotion p).links, streams := (u.offerMotion p).streams } := by
  have frame := w.offerMotion
  generalize u.offerMotion p = t at frame
  rw [frame]

/-- Settles O35: each event is the speed estimate, then the event of the motor's state and segment by its lemma above, then
the offer, which leaves the units. -/
theorem otherRegulationEvents : Obligations.OtherRegulationEvents := by
  refine ⟨?_, State.outputs⟩
  intro p s m v hist single hm hv hist_eq
  have unit : (s.estimated p).unit p = m.measured v := by rw [State.estimated_unit, ← hm, MotionUnit.estimate_eq hv]
  have event := exec_regulationEvent_single single
  have worked : s.UnitWork p ((s.estimated p).regulateSingle p) :=
    (s.unitWork_estimated p).trans ((s.estimated p).unitWork_regulateSingle p)
  obtain ⟨speed, history, position⟩ : (((s.estimated p).regulateSingle p).unit p).reg.speed = v
      ∧ (((s.estimated p).regulateSingle p).unit p).reg.history = hist
      ∧ (((s.estimated p).regulateSingle p).unit p).position = m.position := by
    have measured := (s.estimated p).regulateSingle_measure p
    rw [unit] at measured
    simpa only [MotionUnit.measure, MotionUnit.measured, Prod.mk.injEq, hist_eq] using measured
  refine ⟨_, event, fun q ne => ?_, worked.offerMotion_rest, ?_⟩
  · rw [State.offerMotion_unit, worked.unit_ne ne]
  rw [State.offerMotion_unit]
  refine ⟨speed, history, position, fun rests => ?_, ?_, ?_, ?_, ?_⟩
  · rw [State.regulateSingle_resting (by rw [unit]; exact rests), State.modUnit_unit_same, unit, hist_eq]
    rfl
  · intro g rest a acc duty c motor queue act work hacc hduty hc
    rw [State.regulateSingle_duty (by rw [unit]; exact motor) (by rw [unit]; exact queue) (by rw [unit]; exact act) work,
      unit, MotionUnit.dutyPath_eq (m := m.measured v) (sup := (s.estimated p).supply) hacc hduty hc, hist_eq]
    rfl
  · intro h target motor hold htarget
    rw [State.regulateSingle_holding (by rw [unit]; exact motor), State.modUnit_unit_same, unit]
    obtain ⟨ramped, driven⟩ := MotionUnit.holdRegulate_drives (m := m.measured v) (sup := s.supply) hold htarget
    exact ⟨ramped, motor, hold, driven⟩
  · intro g rest a motor queue act reached
    have done := State.regulateSingle_done (s := s.estimated p) (by rw [unit]; exact motor) (by rw [unit]; exact queue)
      (by rw [unit]; exact act) (Segment.limitReached_of (by rw [unit]; exact reached))
    rw [unit] at done
    obtain ⟨told, quiet, ends, follows⟩ := done
    refine ⟨fun notify => ?_, fun silent last unwatched => ?_, ends, fun h more waiting decided => ?_⟩
    · exact (s.unitWork_estimated p).links.sendsEnd_after
        (((s.estimated p).unitWork_regulateSingle p).links.sendsEnd_before (State.linksGrow_offerMotion _ p) (told notify))
    · rw [State.offerMotion_links (by rw [worked.frame]; exact unwatched), quiet silent last]
      rfl
    · rw [follows h more waiting decided]
      refine ⟨rfl, rfl, rfl, ?_, rfl, rfl, rfl⟩
      cases work : h.work <;> rfl
  · intro g rest a x d ramped decel creep count goal phase dir settle motor queue act positions target hd hramped hdecel
      hcreep short hcount few hphase hdir hsettle hgoal
    have distance : a.distance (m.measured v).position = d := (Activation.distance_of_target target).trans hd.symm
    have counted : settleCount a.phase a.settle d = count := by
      rw [hcount]
      simp only [settleCount, inWindow, decide_eq_true_eq]
    have turned : nextPhase a.phase a.decelDir (m.measured v).reg.ramped (g.decelRate m.settings) d = (phase, dir) := by
      subst hramped hdecel
      rw [hdir]
      exact nextPhase_eq hphase
    have stage := State.regulateSingle_positioning (s := s.estimated p) (by rw [unit]; exact motor)
      (by rw [unit]; exact queue) (by rw [unit]; exact act) positions (by rw [unit]; exact short)
      (by rw [unit, distance, counted]; exact few)
    rw [unit, distance, counted] at stage
    obtain ⟨waiting, runs, record, ramps⟩ :=
      MotionUnit.regulated_positioning (m := m.measured v) (sup := (s.estimated p).supply) (count := count) positions turned
    rw [stage, waiting, runs, ramps, MotionUnit.rampStage_positioning positions]
    obtain ⟨n, record⟩ := record
    subst hcreep hdecel hgoal hsettle
    exact ⟨rfl, motor, ⟨n, record⟩, rfl⟩

end Sys2Proof.Machine
end


section
/-! MOVE_PAIR and UNPAIR (R104 to R106, R111): O37. -/

namespace Sys2Proof.Machine

/-! ## A pair's ports by the steering of a segment (R105) -/

theorem PairRec.partnerPort_eq (r : PairRec) (g : PairSegment) :
    r.partnerPort g = if 0 ≤ g.steer then r.portB else r.portA := by
  unfold PairRec.partnerPort PairSegment.lead
  split <;> rfl

theorem PairRec.portOf_other_ne {r : PairRec} (distinct : r.portA ≠ r.portB) (side : Lead) :
    r.portOf side.other ≠ r.portOf side := by
  cases side
  · exact distinct.symm
  · exact distinct

theorem PairRec.partnerPort_ne {r : PairRec} (distinct : r.portA ≠ r.portB) (g : PairSegment) :
    r.partnerPort g ≠ r.leadPort g := PairRec.portOf_other_ne distinct g.lead

/-- The lead and the partner of a segment are the two ports of its pair. -/
theorem PairRec.eq_lead_or_partner (r : PairRec) (g : PairSegment) {x : Port} (h : x = r.portA ∨ x = r.portB) :
    x = r.leadPort g ∨ x = r.partnerPort g := by
  unfold PairRec.leadPort PairRec.partnerPort
  cases g.lead
  · exact h
  · exact h.symm

/-! ## A request that names a pair its link holds (R44, R52) -/

theorem pairIdOfCode_num (q : PairId) : PairId.ofCode q.num = some q := by cases q <;> rfl

theorem byteAt_pairNum (q : PairId) : byteAt [BitVec.ofNat 8 q.num] 0 = q.num := by cases q <;> rfl

section
variable {s : State} {l : LinkId} {q : PairId} {x : PairRec} {id : Nat}

theorem State.claimPair_held (heldA : (s.claim x.portA).holder = some l) (heldB : (s.claim x.portB).holder = some l)
    (code : Byte) : s.claimPair l q x code = .ok (s, none) := by
  simp [State.claimPair, Claim.lockedAgainst_own (.inr heldA), Claim.lockedAgainst_own (.inr heldB), heldA]

theorem State.claimingPair_held {r : ReplyTo} (named : id = q.num) (record : s.pairAt q = some x)
    (heldA : (s.claim x.portA).holder = some r.link) (heldB : (s.claim x.portB).holder = some r.link)
    (body : State → PairId → PairRec → Option PairSettlement → State) : s.claimingPair r id body = body s q x none := by
  unfold State.claimingPair
  rw [named, pairIdOfCode_num]
  simp only [record, State.claimPair_held heldA heldB]

/-- A claiming request of a length that is allowed reaches its own part where its link holds the pair. -/
theorem State.serve_heldPair {tag : Byte} {code : Nat} {ps : List Byte} (asked : s.asked l tag code ps)
    (allowed : lengthAllowed code ps = some true) (named : id = q.num) (record : s.pairAt q = some x)
    (heldA : (s.claim x.portA).holder = some l) (heldB : (s.claim x.portB).holder = some l)
    (body : ReplyTo → State → PairId → PairRec → Option PairSettlement → State) :
    s.serve l tag code ps (fun r t => t.claimingPair r id (body r))
      = body ⟨l, (s.link l).activation, tag, BitVec.ofNat 8 code⟩ (s.accepted l tag code) q x none := by
  rw [State.serve_asked asked allowed]
  exact State.claimingPair_held (s := s.accepted l tag code) (r := ⟨l, _, tag, _⟩) named record heldA heldB _

end

/-! ## The checks of MOVE_PAIR (R104) -/

section
variable {s : State} {r : ReplyTo} {x : PairRec} {ps : List Byte} {g : Segment} {replace : Bool}

/-- A pair segment is a RUN, a RUN_TIME or a RUN_BY. -/
theorem movePairValues_eq (block : blockSegment r.link r.tag ps 1 = some g) (placement : placementAt ps 28 = some replace)
    (kind : g.work.kind ∈ [SegKind.run, .runTime, .runBy]) :
    movePairValues r ps = some (⟨g, signedOf 8 (byteAt ps 27)⟩, replace) := by
  unfold movePairValues
  rw [block, placement]
  cases work : g.work with
  | run | runTime ms | runBy d => simp only [work]
  | runTo position | duty | dutyTime ms => rw [work] at kind; simp [SegWork.kind] at kind

/-- A MOVE_PAIR whose values and machine state are accepted is refused for its condition or for want of room alone. -/
theorem State.movePairCheck_eq {p : PairSegment} (values : movePairValues r ps = some (p, replace))
    (normalA : (s.unit x.portA).halted = false) (normalB : (s.unit x.portB).halted = false)
    (powered : s.supply.state ≠ .brownout) :
    s.movePairCheck r x ps = if s.condAccepted [x.portA, x.portB] p.seg.cond = false then .error .badParam
      else if replace = false ∧ 4 ≤ x.queue.length then .error .queueFull else .ok (p, replace) := by
  simp [State.movePairCheck, values, normalA, normalB, powered]

theorem State.movePairBody_refused {q : PairId} {st : Status} (check : s.movePairCheck r x ps = .error st) :
    s.movePairBody r q x none ps = s.answer r st [] := by
  unfold State.movePairBody
  rw [check]
  rfl

/-- An accepted MOVE_PAIR that took nothing over: the segment in range is placed, and OK or ADJUSTED answered. -/
theorem State.movePairBody_placed {q : PairId} {given p : PairSegment}
    (check : s.movePairCheck r x ps = .ok (given, replace))
    (ranged : p = given.inRange (min (s.port x.portA).maxSpeed (s.port x.portB).maxSpeed)) :
    s.movePairBody r q x none ps = (s.placePairSegment q x p replace none).answer r
      (if p = given then .ok else .adjusted) (if p = given then [] else p.appliedBytes) := by
  subst ranged
  unfold State.movePairBody
  rw [check]
  simp only [Option.map_none]
  split <;> rfl

end

/-! ## The start of a pair segment (R105, R106) -/

/-- A motor's start by the first segment of its pair (R106, steps 3 to 5): the lead's accumulator is loaded by its speed. -/
theorem MotionUnit.pairStart_none (m : MotionUnit) (lead : Bool) : m.pairStart lead none = { m with
    motor := .running, hold := none
    reg := { m.reg with
      acc := if lead then clampMag 32000000 (m.reg.speed * 1000) else m.reg.acc
      integral := if m.motor = .holding then m.reg.integral else 0
      holdCreep := none } } := by
  unfold MotionUnit.pairStart
  rw [Option.map_none, MotionUnit.regulatorStart_none]
  simp

/-- Of the kinds of a pair segment, RUN_BY alone has a target (R106, step 2). -/
theorem SegWork.target_of_kind {w : SegWork} (kind : w.kind ∈ [SegKind.run, .runTime, .runBy]) (position : BitVec 32) :
    w.target position = match (generalizing := false) w with
      | .runBy d => some (position + d)
      | _ => none := by
  cases w with
  | run | runTime ms | runBy d => rfl
  | runTo x | duty | dutyTime ms => simp [SegWork.kind] at kind

/-- A pair with its segment started: the record activated, and both motors running. -/
def State.pairStarted (s : State) (q : PairId) (r : PairRec) (g : PairSegment) (prev : Option Lead) : State :=
  (((s.setPair q (some { r with act := some (s.pairActivation r g), corrA := 0, corrB := 0 })).carryRamp r g prev).modUnit
    (r.leadPort g) (·.pairStart true prev)).modUnit (r.partnerPort g) (·.pairStart false prev)

section
variable {s : State} {q : PairId} {r : PairRec} {g : PairSegment}

/-- The first segment of a pair's queue becomes active where its condition can be decided. -/
theorem State.activatePair_valid {rest : List PairSegment} (record : s.pairAt q = some r) (queue : r.queue = g :: rest)
    (valid : (g.seg.cond.all fun c => s.condValid c) = true) (prev : Option Lead) :
    s.activatePair q prev = s.pairStarted q r g prev := by
  have decided : (g.seg.cond.all fun c =>
      (s.modPair q fun x => { x with act := some (s.pairActivation r g), corrA := 0, corrB := 0 }).condValid c) = true := valid
  unfold State.activatePair
  rw [record]
  simp only [queue, if_pos valid]
  rw [State.modPair, record]
  rfl

theorem State.pairStarted_pairAt (s : State) (q : PairId) (r : PairRec) (g : PairSegment) (prev : Option Lead) :
    (s.pairStarted q r g prev).pairAt q
      = some { r with act := some (s.pairActivation r g), corrA := 0, corrB := 0 } := by
  rw [State.pairStarted, State.modUnit_pairAt, State.modUnit_pairAt, State.pairAt, State.carryRamp_pairs]
  exact State.setPair_pairAt_same _ _ _

/-- Both motors of a started pair run (R106, step 5). -/
theorem State.pairStarted_running (distinct : r.portA ≠ r.portB) (prev : Option Lead) :
    ((s.pairStarted q r g prev).unit (r.leadPort g)).motor = .running
      ∧ ((s.pairStarted q r g prev).unit (r.partnerPort g)).motor = .running := by
  unfold State.pairStarted
  rw [State.modUnit_unit_ne _ _ _ (PairRec.partnerPort_ne distinct g).symm, State.modUnit_unit_same,
    State.modUnit_unit_same]
  exact ⟨rfl, rfl⟩

theorem State.pairStarted_first_lead (distinct : r.portA ≠ r.portB) :
    (s.pairStarted q r g none).unit (r.leadPort g) = (s.unit (r.leadPort g)).pairStart true none := by
  unfold State.pairStarted
  rw [State.modUnit_unit_ne _ _ _ (PairRec.partnerPort_ne distinct g).symm, State.modUnit_unit_same]
  rfl

theorem State.pairStarted_first_partner (distinct : r.portA ≠ r.portB) :
    (s.pairStarted q r g none).unit (r.partnerPort g) = (s.unit (r.partnerPort g)).pairStart false none := by
  unfold State.pairStarted
  rw [State.modUnit_unit_same, State.modUnit_unit_ne _ _ _ (PairRec.partnerPort_ne distinct g)]
  rfl

theorem State.pairStarted_first_other {x : Port} (lead : x ≠ r.leadPort g) (partner : x ≠ r.partnerPort g) :
    (s.pairStarted q r g none).unit x = s.unit x := by
  unfold State.pairStarted
  rw [State.modUnit_unit_ne _ _ _ partner, State.modUnit_unit_ne _ _ _ lead]
  rfl

/-- A pair segment that comes to an empty queue starts at once. -/
theorem State.placePairSegment_first (record : s.pairAt q = some r) (empty : r.queue = [])
    (valid : (g.seg.cond.all fun c => s.condValid c) = true) (replace : Bool) :
    s.placePairSegment q r g replace none = s.pairStarted q { r with queue := [g] } g none := by
  have placed : s.placePairSegment q r g replace none
      = (s.setPair q (some { r with queue := [g] })).activatePair q none := by
    unfold State.placePairSegment
    simp only [empty, or_true, if_true, State.endPairQueue_of_nil record empty, State.modPair, record]
    rfl
  rw [placed, State.activatePair_valid (State.setPair_pairAt_same _ _ _) rfl (by exact valid)]
  unfold State.pairStarted State.setPair
  simp only [Three.set_set]
  rfl

/-- A pair segment appended behind others waits. -/
theorem State.placePairSegment_append (record : s.pairAt q = some r) (waiting : 1 ≤ r.queue.length) (g : PairSegment) :
    s.placePairSegment q r g false none = s.setPair q (some { r with queue := r.queue ++ [g] }) := by
  have waits : ¬ (false = true ∨ r.queue = []) := by
    rintro (h | h)
    · cases h
    · rw [h] at waiting; cases waiting
  unfold State.placePairSegment
  simp only [if_neg waits, State.modPair, record]
  rfl

end

/-! ## MOVE_PAIR of the link that holds the pair -/

/-- The request of a MOVE_PAIR as it is taken. -/
def State.movePairRequest (s : State) (l : LinkId) (tag : Byte) : ReplyTo :=
  ⟨l, (s.link l).activation, tag, BitVec.ofNat 8 0x37⟩

/-- What the claim step and the checks of a MOVE_PAIR find. -/
structure State.MovePairReady (s : State) (l : LinkId) (tag : Byte) (ps : List Byte) (q : PairId) (r : PairRec)
    (g : PairSegment) (replace : Bool) : Prop where
  asked : s.asked l tag 0x37 ps
  length : ps.length = 29
  named : byteAt ps 0 = q.num
  record : s.pairAt q = some r
  heldA : (s.claim r.portA).holder = some l
  heldB : (s.claim r.portB).holder = some l
  values : movePairValues (s.movePairRequest l tag) ps = some (g, replace)
  normalA : (s.unit r.portA).halted = false
  normalB : (s.unit r.portB).halted = false
  powered : s.supply.state ≠ .brownout

section
variable {s : State} {l : LinkId} {tag : Byte} {ps : List Byte} {q : PairId} {r : PairRec} {g g' : PairSegment}
  {replace : Bool} (ready : s.MovePairReady l tag ps q r g replace)
include ready

theorem State.MovePairReady.exec_served : exec (.movePair l tag ps) s
    = .next ((s.accepted l tag 0x37).movePairBody (s.movePairRequest l tag) q r none ps) := by
  have allowed : lengthAllowed 0x37 ps = some true := by simp [lengthAllowed, ready.length]
  have served := State.serve_heldPair ready.asked allowed ready.named ready.record ready.heldA ready.heldB
    fun r t q x e => t.movePairBody r q ((t.pairAt q).getD x) e ps
  have own : (s.accepted l tag 0x37).pairAt q = some r := ready.record
  rw [own, Option.getD_some] at served
  exact congrArg Host.Outcome.next served

theorem State.MovePairReady.check : (s.accepted l tag 0x37).movePairCheck (s.movePairRequest l tag) r ps
    = if s.condAccepted [r.portA, r.portB] g.seg.cond = false then .error .badParam
      else if replace = false ∧ 4 ≤ r.queue.length then .error .queueFull else .ok (g, replace) :=
  State.movePairCheck_eq (s := s.accepted l tag 0x37) ready.values ready.normalA ready.normalB ready.powered

/-- A condition that cannot be decided is refused. -/
theorem State.MovePairReady.undecided (h : ∃ c ∈ g.seg.cond, ¬ s.decides [r.portA, r.portB] c) :
    exec (.movePair l tag ps) s = .next (s.replied l tag 0x37 .badParam []) := by
  obtain ⟨c, mem, cannot⟩ := h
  have refused : s.condAccepted [r.portA, r.portB] g.seg.cond = false :=
    Bool.eq_false_iff.mpr fun k => cannot (State.condAccepted_iff.mp k c mem)
  have check := ready.check
  rw [if_pos refused] at check
  rw [ready.exec_served, State.movePairBody_refused check]
  exact congrArg Host.Outcome.next (s.accepted_answer l tag 0x37 .badParam [])

/-- A MOVE_PAIR with a decided condition and room is placed. -/
theorem State.MovePairReady.placed (decided : ∀ c ∈ g.seg.cond, s.decides [r.portA, r.portB] c)
    (room : r.queue.length < 4) (ranged : g' = g.inRange (min (s.port r.portA).maxSpeed (s.port r.portB).maxSpeed)) :
    exec (.movePair l tag ps) s = .next (((s.accepted l tag 0x37).placePairSegment q r g' replace none).answer
      (s.movePairRequest l tag) (if g' = g then .ok else .adjusted) (if g' = g then [] else g'.appliedBytes)) := by
  have check := ready.check
  rw [if_neg (by simp [State.condAccepted_iff.mpr decided]), if_neg (by omega)] at check
  rw [ready.exec_served]
  exact congrArg Host.Outcome.next (State.movePairBody_placed (s := s.accepted l tag 0x37) check ranged)

/-- Into an empty queue it starts, and is answered. -/
theorem State.MovePairReady.starts (decided : ∀ c ∈ g.seg.cond, s.decides [r.portA, r.portB] c) (empty : r.queue = [])
    (ranged : g' = g.inRange (min (s.port r.portA).maxSpeed (s.port r.portB).maxSpeed)) {x : PairRec}
    (hx : x = { r with queue := [g'] }) : exec (.movePair l tag ps) s
      = .next ((s.pairStarted q x g' none).replied l tag 0x37 (if g' = g then .ok else .adjusted)
        (if g' = g then [] else g'.appliedBytes)) := by
  subst hx
  have valid : (g'.seg.cond.all fun c => s.condValid c) = true := ranged ▸ State.condValid_of_decides decided
  rw [ready.placed decided (by rw [empty]; decide) ranged,
    State.placePairSegment_first (s := s.accepted l tag 0x37) ready.record empty valid]
  exact congrArg Host.Outcome.next ((s.pairStarted q { r with queue := [g'] } g' none).accepted_answer l tag 0x37 _ _)

/-- Behind others it waits, and is answered. -/
theorem State.MovePairReady.waits (decided : ∀ c ∈ g.seg.cond, s.decides [r.portA, r.portB] c)
    (waiting : 1 ≤ r.queue.length) (few : r.queue.length ≤ 3) (append : replace = false)
    (ranged : g' = g.inRange (min (s.port r.portA).maxSpeed (s.port r.portB).maxSpeed)) :
    exec (.movePair l tag ps) s = .next ((s.setPair q (some { r with queue := r.queue ++ [g'] })).replied l tag
      0x37 (if g' = g then .ok else .adjusted) (if g' = g then [] else g'.appliedBytes)) := by
  subst append
  rw [ready.placed decided (by omega) ranged,
    State.placePairSegment_append (s := s.accepted l tag 0x37) ready.record waiting]
  exact congrArg Host.Outcome.next
    ((s.setPair q (some { r with queue := r.queue ++ [g'] })).accepted_answer l tag 0x37 _ _)

end

/-! ## UNPAIR (R111) -/

theorem State.claimWork_dissolvePair (s : State) (q : PairId) (o : SegOutcome) : s.ClaimWork (s.dissolvePair q o) := by
  cases e : s.pairAt q with
  | none => unfold State.dissolvePair; rw [e]; exact .refl s
  | some r =>
    rw [State.dissolvePair_of_some e]
    exact (((s.claimWork_endPairQueue q o o).trans (State.claimWork_modUnit _ r.portA _)).trans
      (State.claimWork_modUnit _ r.portB _)).trans ⟨rfl, fun _ => rfl⟩

theorem exec_unpair_held {s : State} {l : LinkId} {tag : Byte} {q : PairId} {r : PairRec}
    (asked : s.asked l tag 0x36 [BitVec.ofNat 8 q.num]) (record : s.pairAt q = some r)
    (heldA : (s.claim r.portA).holder = some l) (heldB : (s.claim r.portB).holder = some l) :
    exec (.unpair l tag [BitVec.ofNat 8 q.num]) s = .next (((s.accepted l tag 0x36).dissolvePair q .unpaired).answer
      ⟨l, (s.link l).activation, tag, BitVec.ofNat 8 0x36⟩ .ok []) :=
  congrArg Host.Outcome.next (State.serve_heldPair asked rfl (byteAt_pairNum q) record heldA heldB
    fun r t q _ _ => (t.dissolvePair q .unpaired).answer r .ok [])

/-- Settles O37: the claim step lets the holder through. Each case of MOVE_PAIR is an outcome of its check, and UNPAIR is
the pair's dissolution followed by the answer. -/
theorem movePairAndUnpair : Obligations.MovePairAndUnpair := by
  refine ⟨fun l tag ps q r s g g' replace lead partner asked length named record distinct heldA heldB block steer placement
    kind normalA normalB powered ranged hlead hpartner => ?_, fun l tag q r s asked record distinct heldA heldB => ?_⟩
  · have values : movePairValues (s.movePairRequest l tag) ps = some (g, replace) := by
      rw [movePairValues_eq block placement kind, ← steer]
    have ready : s.MovePairReady l tag ps q r g replace :=
      ⟨asked, length, named, record, heldA, heldB, values, normalA, normalB, powered⟩
    refine ⟨ready.undecided, fun decided empty => ?_, fun decided waiting few append =>
      ready.waits decided waiting few append ranged⟩
    rw [← PairRec.leadPort_eq] at hlead
    rw [← PairRec.partnerPort_eq] at hpartner
    obtain ⟨x, hx⟩ : ∃ x : PairRec, x = { r with queue := [g'] } := ⟨_, rfl⟩
    have distinct' : x.portA ≠ x.portB := by rw [hx]; exact distinct
    have lead' : x.leadPort g' = lead := by rw [hx, hlead]; rfl
    have partner' : x.partnerPort g' = partner := by rw [hx, hpartner]; rfl
    have ofLead := State.pairStarted_first_lead (s := s) (q := q) (g := g') distinct'
    have ofPartner := State.pairStarted_first_partner (s := s) (q := q) (g := g') distinct'
    rw [lead', MotionUnit.pairStart_none] at ofLead
    rw [partner', MotionUnit.pairStart_none] at ofPartner
    have run := ready.starts decided empty ranged hx
    obtain ⟨t, ht⟩ : ∃ t, t = (s.pairStarted q x g' none).replied l tag 0x37 (if g' = g then .ok else .adjusted)
      (if g' = g then [] else g'.appliedBytes) := ⟨_, rfl⟩
    rw [← ht] at run
    have unit (p : Port) : t.unit p = (s.pairStarted q x g' none).unit p := by rw [ht]; rfl
    have pair : t.pairAt q = some { x with act := some (s.pairActivation x g'), corrA := 0, corrB := 0 } := by
      rw [ht]; exact s.pairStarted_pairAt q x g' none
    have link : t.link l = (s.link l).replied tag 0x37 (if g' = g then .ok else .adjusted)
        (if g' = g then [] else g'.appliedBytes) := by
      rw [ht]; exact State.setLink_link_same _ _ _
    refine ⟨t, run, ?_, ?_, ?_, ?_, fun p other other' => ?_, link, ?_⟩
    · have pairKind : g'.seg.work.kind ∈ [SegKind.run, .runTime, .runBy] := by rw [ranged]; exact kind
      have cond : g'.seg.cond = g.seg.cond := by rw [ranged]; rfl
      rw [pair, State.pairActivation, lead', SegWork.target_of_kind pairKind, cond, hx]
      rfl
    · rintro p (rfl | rfl)
      · rw [unit, ofLead]; exact ⟨rfl, rfl, rfl, rfl, rfl, rfl⟩
      · rw [unit, ofPartner]; exact ⟨rfl, rfl, rfl, rfl, rfl, rfl⟩
    · rw [unit, ofLead]; rfl
    · rw [unit, ofPartner]; rfl
    · rw [unit]; exact State.pairStarted_first_other (lead' ▸ other) (partner' ▸ other')
    · rw [pair, link, ht]
      rfl
  · obtain ⟨A, hA⟩ : ∃ A, A = s.accepted l tag 0x36 := ⟨_, rfl⟩
    have own : A.pairAt q = some r := by rw [hA]; exact record
    have unit (x : Port) : A.unit x = s.unit x := by rw [hA]; rfl
    have work := A.pairWork_dissolvePair q .unpaired
    have answered := (A.dissolvePair q .unpaired).linkWork_answer ⟨l, (s.link l).activation, tag, BitVec.ofNat 8 0x36⟩ .ok []
    obtain ⟨frame, replies⟩ := State.ClaimWork.answered (s := s) (t := A.dissolvePair q .unpaired)
      (by rw [← hA]; exact A.claimWork_dissolvePair q .unpaired) .ok [] rfl
    have claims : (A.dissolvePair q .unpaired).claims = s.claims := by rw [work.frame, hA]; rfl
    rw [State.answer_claims, claims] at frame
    refine ⟨_, hA ▸ exec_unpair_held asked record heldA heldB, ?_, fun g mem => ?_, fun p pair => ?_,
      fun p otherA otherB => ?_, replies, frame⟩
    · rw [answered.pairs, congrArg State.pairs work.frame, State.dissolvePair_pairAt, hA]; rfl
    · rw [← PairRec.leadPort_eq]
      subst hA
      exact State.sendsEnd_answered work.links (State.sendsEnd_dissolvePair own mem rfl) _ _ _
    · rw [answered.unit, State.dissolvePair_unit own .unpaired pair, unit]; rfl
    · rw [answered.unit, work.others p fun z e => ?_, unit]
      obtain rfl : r = z := Option.some.inj (own.symm.trans e)
      exact ⟨otherA.symm, otherB.symm⟩

end Sys2Proof.Machine
end


section
/-! A pair under way (R107 to R110): the ends and the succession of its segments, and its regulation events as equations. -/

namespace Sys2Proof.Machine

/-- A pair of two ports with an active segment, the others waiting behind it. -/
structure State.PairRuns (s : State) (q : PairId) (r : PairRec) (g : PairSegment) (rest : List PairSegment)
    (a : PairActivation) : Prop where
  record : s.pairAt q = some r
  distinct : r.portA ≠ r.portB
  queue : r.queue = g :: rest
  act : r.act = some a

/-! ## The ends of a pair's segments (R110) -/

/-- From `s` to `t` a pair's last segment ended: its record is empty, and both motors took the end action, each holding its
own position and the lead its target. -/
structure State.PairEnded (s t : State) (q : PairId) (r : PairRec) (g : PairSegment) (a : PairActivation) : Prop where
  record : t.pairAt q = some r.emptied
  lead : (t.unit (r.leadPort g)).endedBy g.seg.endAction (a.target.getD (s.unit (r.leadPort g)).position)
  partner : (t.unit (r.partnerPort g)).endedBy g.seg.endAction (s.unit (r.partnerPort g)).position

/-- From `s` to `t` a pair's segment ended and the next one became active. -/
structure State.PairFollowed (s t : State) (q : PairId) (r : PairRec) (g : PairSegment) (rest : List PairSegment) : Prop where
  record : ∃ r', t.pairAt q = some r' ∧ r'.queue = rest ∧ r'.corrA = 0 ∧ r'.corrB = 0
    ∧ r'.act.map PairActivation.start = some s.now
  lead : (t.unit (r.leadPort g)).motor = .running
  partner : (t.unit (r.partnerPort g)).motor = .running

section
variable {s : State} {q : PairId} {r : PairRec} {g : PairSegment} {rest : List PairSegment} {a : PairActivation}

theorem State.finishPair_of_single (record : s.pairAt q = some r) (queue : r.queue = [g]) (o : SegOutcome) :
    s.finishPair q o = s.abortPair q o := by
  unfold State.finishPair
  rw [record]
  simp only [queue]

theorem State.finishPair_of_cons {h : PairSegment} {more : List PairSegment} (record : s.pairAt q = some r)
    (queue : r.queue = g :: h :: more) (o : SegOutcome) : s.finishPair q o
      = ((s.pairNotice q r g o (s.pairElapsed r)).modPair q fun x => { x with queue := h :: more, act := none }).activatePair q
        (some g.lead) := by
  unfold State.finishPair
  rw [record]
  simp only [queue]

variable (runs : s.PairRuns q r g rest a)
include runs

theorem State.PairRuns.sendsEnd_abort {o : SegOutcome} (reported : g.seg.reports o = true) :
    s.sendsEnd (s.abortPair q o) (r.leadPort g) (some q) g.seg o := by
  rw [State.abortPair_of_cons runs.record runs.queue]
  exact (s.pairWork_endPairQueue q o .flushed).links.sendsEnd_before (.of_links rfl)
    (State.sendsEnd_endPairQueue_active runs.record runs.queue reported)

theorem State.PairRuns.abort_ends (o : SegOutcome) : s.PairEnded (s.abortPair q o) q r g a := by
  have units (x : Port) : (s.endPairQueue q o .flushed).unit x = s.unit x :=
    congrArg (Six.get · x) (s.endPairQueue_motion q o .flushed)
  have hold : s.pairHold r g = a.target.getD (s.unit (r.leadPort g)).position := by
    rw [State.pairHold, runs.act]; rfl
  have other := PairRec.partnerPort_ne runs.distinct g
  refine ⟨State.abortPair_pairAt runs.record runs.queue o, ?_, ?_⟩ <;>
    rw [State.abortPair_of_cons runs.record runs.queue, State.pairEndAction]
  · rw [State.modUnit_unit_ne _ _ _ other.symm, State.modUnit_unit_same, hold]
    exact MotionUnit.endAction_endedBy _ _ _ _
  · rw [State.modUnit_unit_same, State.modUnit_unit_ne _ _ _ other, units]
    exact MotionUnit.endAction_endedBy _ _ _ _

theorem State.PairRuns.sendsEnd_finish {o : SegOutcome} (reported : g.seg.reports o = true) :
    s.sendsEnd (s.finishPair q o) (r.leadPort g) (some q) g.seg o := by
  cases waiting : rest with
  | nil =>
    rw [State.finishPair_of_single runs.record (waiting ▸ runs.queue)]
    exact runs.sendsEnd_abort reported
  | cons h more =>
    rw [State.finishPair_of_cons runs.record (waiting ▸ runs.queue)]
    exact (s.linkWork_pairNotice q r g o _).links.sendsEnd_before
      (State.LinksGrow.trans (t := (s.pairNotice q r g o (s.pairElapsed r)).modPair q fun x =>
        { x with queue := h :: more, act := none }) (.of_links rfl) (State.pairWork_activatePair _ q _).links)
      (s.sendsEnd_endNotice (r.leadPort g) (some q) reported _)

/-- Where one waits without a condition, the end of the active segment starts it on both motors (R106, R110). -/
theorem State.PairRuns.finish_follows {h : PairSegment} {more : List PairSegment} (waiting : rest = h :: more)
    (free : h.seg.cond = none) (o : SegOutcome) : s.PairFollowed (s.finishPair q o) q r g rest := by
  subst waiting
  obtain ⟨t, ht⟩ : ∃ t, t = (s.pairNotice q r g o (s.pairElapsed r)).modPair q fun x =>
    { x with queue := h :: more, act := none } := ⟨_, rfl⟩
  have told := s.linkWork_pairNotice q r g o (s.pairElapsed r)
  have record : t.pairAt q = some { r with queue := h :: more, act := none } := by
    rw [ht, State.modPair, State.setPair_pairAt_same, told.pairAt, runs.record]; rfl
  have now : t.now = s.now := by rw [ht, State.modPair, State.setPair_now, told.frame]
  rw [State.finishPair_of_cons runs.record runs.queue, ← ht,
    State.activatePair_valid record rfl (by rw [free]; rfl)]
  obtain ⟨x, hx⟩ : ∃ x : PairRec, x = { r with queue := h :: more, act := none } := ⟨_, rfl⟩
  rw [← hx]
  have distinct : x.portA ≠ x.portB := by rw [hx]; exact runs.distinct
  obtain ⟨lead, partner⟩ := State.pairStarted_running (s := t) (q := q) (g := h) distinct (some g.lead)
  have both (y : Port) (named : y = r.portA ∨ y = r.portB) : ((t.pairStarted q x h (some g.lead)).unit y).motor = .running := by
    obtain rfl | rfl := x.eq_lead_or_partner h (x := y) (by rw [hx]; exact named)
    · exact lead
    · exact partner
  refine ⟨⟨_, State.pairStarted_pairAt t q x h _, by rw [hx], rfl, rfl, ?_⟩, both _ (r.portOf_eq _), both _ (r.portOf_eq _)⟩
  rw [← now]; rfl

/-- The last segment's end is the end of the pair's motion. -/
theorem State.PairRuns.finish_ends (last : rest = []) (o : SegOutcome) : s.PairEnded (s.finishPair q o) q r g a := by
  rw [State.finishPair_of_single runs.record (last ▸ runs.queue)]
  exact runs.abort_ends o

end

/-! ## The event of a pair's port (R82, R107, R108) -/

/-- A port is one of the two of its pair. -/
theorem State.port_of_pairOf {s : State} {p : Port} {q : PairId} {r : PairRec} (paired : s.pairOf p = some q)
    (record : s.pairAt q = some r) : p = r.portA ∨ p = r.portB := by
  have named := List.find?_some paired
  simp only [record, Bool.or_eq_true, beq_iff_eq] at named
  exact named.imp Eq.symm Eq.symm

/-- An event changes the units, the pairs, the links and the streams alone. -/
theorem exec_regulationEvent_frame {s t : State} {p : Port} (run : exec (.regulationEvent p) s = .next t) : t = { s with
    motion := t.motion, pairs := t.pairs, links := t.links, streams := t.streams } := by
  obtain rfl : s.regulationStep p = t := Host.Outcome.next.inj run
  obtain ⟨u, work, offered⟩ := s.motionWork_regulationStep p
  rw [offered, u.offerMotion_frame p]
  generalize (u.offerMotion p).links = links, (u.offerMotion p).streams = streams
  conv_lhs => rw [work.frame]

theorem State.offerMotion_pairAt (s : State) (p : Port) (q : PairId) : (s.offerMotion p).pairAt q = s.pairAt q := by
  rw [State.offerMotion_frame]; rfl

theorem State.estimated_unit_ne (s : State) {p x : Port} (other : x ≠ p) : (s.estimated p).unit x = s.unit x :=
  s.modUnit_unit_ne p _ other

/-- The estimate keeps every position. -/
theorem State.estimated_position (s : State) (p x : Port) : ((s.estimated p).unit x).position = (s.unit x).position := by
  by_cases own : x = p
  · rw [own, State.estimated_unit]; rfl
  · rw [State.estimated_unit_ne s own]

section
variable {s : State} {p : Port} {q : PairId} {r : PairRec} {g : PairSegment} {rest : List PairSegment} {a : PairActivation}

theorem State.PairRuns.estimated (runs : s.PairRuns q r g rest a) (p : Port) : (s.estimated p).PairRuns q r g rest a :=
  ⟨runs.record, runs.distinct, runs.queue, runs.act⟩

theorem State.PairRuns.exec_event (runs : s.PairRuns q r g rest a) (paired : s.pairOf p = some q) :
    exec (.regulationEvent p) s = .next ((if r.leadPort g = p then (s.estimated p).regulateLead q r g a
      else (s.estimated p).regulatePartner q r g).offerMotion p) := by
  have own : (s.modUnit p MotionUnit.estimate).pairOf p = some q := paired
  have record : (s.modUnit p MotionUnit.estimate).pairAt q = some r := runs.record
  refine congrArg Host.Outcome.next ?_
  unfold State.regulationStep
  simp only [own, record, runs.queue, runs.act]
  rfl

end

/-! ## Stages 5 to 10 of one motor (R108, R109) -/

/-- One motor of the pair after its event: the unit, and its stall timer in the pair's record. -/
def State.pairDriven (s : State) (q : PairId) (r : PairRec) (a : PairActivation) (side : Lead) (m : MotionUnit)
    (timer : Nat) : State :=
  (s.setUnit (r.portOf side) m).setPair q (some { r with act := some (a.setStall side timer) })

/-- The stall policy acts on a stall of one motor of the pair (R68, R109). -/
def State.stallPair (s : State) (q : PairId) (g : PairSegment) (side : Lead) : State :=
  match g.seg.stall with
  | .keepOn => s.modPair q fun x => { x with act := x.act.map fun a => a.setStall side 0 }
  | .finish => s.finishPair q .stalled
  | .abort => s.abortPair q .stalled

/-- The stall timer of one motor of the pair after its event (R91, R109). -/
def MotionUnit.pairStallCount (m : MotionUnit) (g : PairSegment) (a : PairActivation) (side : Lead) : Nat :=
  m.stallCount (truncDiv (g.seg.speed * g.weight side) 100) (a.stallOf side)

/-- What the event of one motor of the pair comes to: the motor driven, or the stall policy where the timer is at the stall
time. -/
def State.pairOutcome (s : State) (q : PairId) (r : PairRec) (g : PairSegment) (a : PairActivation) (side : Lead)
    (m : MotionUnit) : State :=
  if m.settings.stalled (m.pairStallCount g a side) = true
  then (s.pairDriven q r a side m (m.pairStallCount g a side)).stallPair q g side
  else s.pairDriven q r a side m (m.pairStallCount g a side)

section
variable {s : State} {q : PairId} {r : PairRec} {g : PairSegment} {a : PairActivation} {side : Lead}

theorem State.drivePaired_eq (record : s.pairAt q = some r) (act : r.act = some a) (target : Int) :
    s.drivePaired q r g side target
      = s.pairOutcome q r g a side ((s.unit (r.portOf side)).drive s.supply target) := by
  unfold State.drivePaired State.pairOutcome
  simp only [act, Option.map_some, Option.getD_some, State.modPair, State.setUnit_pairAt, record]
  rfl

/-- The drive of a motor with its accumulator loaded and its record corrected, from the state before. -/
theorem State.drivePaired_loaded (act : r.act = some a) (m : MotionUnit) (target : Int) :
    ((s.setUnit (r.portOf side) m).setPair q (some r)).drivePaired q r g side target
      = s.pairOutcome q r g a side (m.drive s.supply target) := by
  have driven (n : MotionUnit) (timer : Nat) : ((s.setUnit (r.portOf side) m).setPair q (some r)).pairDriven q r a side n timer
      = s.pairDriven q r a side n timer := by
    simp only [State.pairDriven, State.setUnit, State.setPair, Six.set_set, Three.set_set]
  rw [State.drivePaired_eq (State.setPair_pairAt_same _ _ _) act, State.setPair_unit, State.setUnit_unit_same]
  simp only [State.pairOutcome, driven]
  rfl

end

theorem State.setPair_record {s : State} {q : PairId} {x : Option PairRec} (record : s.pairAt q = x) : s.setPair q x = s := by
  subst record
  rw [State.setPair, State.pairAt, Three.set_get_same]

/-! ## The lead's and the partner's event (R107, R108) -/

/-- The distance of the lead's position from the pair segment's target (R109). -/
def PairActivation.distance (a : PairActivation) (position : BitVec 32) : Int :=
  (a.target.map fun t => wrapDiff t position).getD 0

/-- The active pair segment's limit is reached: its time has passed, or its lead has travelled its distance (R109). -/
def PairSegment.limitReached (g : PairSegment) (a : PairActivation) (now : Nat) (d : Int) : Prop :=
  g.seg.timeUp (now - a.start) = true ∨ (g.seg.work.positioning = true ∧ pairComplete g.seg.work.distance d = true)

/-- The phase and decel direction of a pair segment at its lead's event (R109): a segment without a target keeps its own. -/
def MotionUnit.pairPhaseAt (m : MotionUnit) (g : PairSegment) (a : PairActivation) (d : Int) : Phase × Int :=
  if g.seg.work.positioning then nextPairPhase a.phase a.decelDir m.reg.ramped (g.seg.decelRate m.settings) d
  else (a.phase, a.decelDir)

/-- The record of the pair after the lead's stages 3 to 5 at a synchronisation error `e` (R107). -/
def PairRec.corrected (r : PairRec) (g : PairSegment) (a : PairActivation) (e bound : Int) : PairRec :=
  { r with
    corrA := correction e g.weightB r.ks bound, corrB := correction e g.weightA r.ks bound
    act := some a }

/-- The synchronisation error of a pair's travels (R107, step 4). -/
def State.pairError (s : State) (r : PairRec) (g : PairSegment) (a : PairActivation) : Int :=
  syncError (wrapDiff (s.unit r.portA).position a.startA) (wrapDiff (s.unit r.portB).position a.startB) g.weightA g.weightB

section
variable {s : State} {q : PairId} {r : PairRec} {g : PairSegment} {rest : List PairSegment} {a : PairActivation}

theorem State.regulateLead_done (limit : g.limitReached a s.now (a.distance (s.unit (r.leadPort g)).position)) :
    s.regulateLead q r g a = s.finishPair q .done := if_pos limit

/-- The lead's event short of the segment's limit: ramp, corrections, and the drive toward the corrected share. -/
theorem State.regulateLead_goesOn {m : MotionUnit} {d goal rate acc : Int} {phase : Phase} {dir : Int} {r' : PairRec}
    (hm : m = s.unit (r.leadPort g)) (hd : d = a.distance m.position) (goesOn : ¬ g.limitReached a s.now d)
    (hphase : m.pairPhaseAt g a d = (phase, dir)) (hgoal : g.seg.goal m.settings phase dir d = (goal, rate))
    (hacc : acc = ramp m.reg.acc goal rate)
    (hr : r' = r.corrected g { a with phase := phase, decelDir := dir } (s.pairError r g a) (s.port (r.leadPort g)).maxSpeed) :
    s.regulateLead q r g a = s.pairOutcome q r' g { a with phase := phase, decelDir := dir } g.lead
      ((m.withAcc acc).drive s.supply (pairTarget g.lead (weighted (truncDiv acc 1000) (g.weight g.lead)) r'.corrA r'.corrB
        (s.port (r.leadPort g)).maxSpeed)) := by
  subst hm hd hacc hr
  refine Eq.trans ?_ (State.drivePaired_loaded rfl _ _)
  unfold MotionUnit.pairPhaseAt at hphase
  unfold State.regulateLead
  refine (if_neg goesOn).trans ?_
  unfold PairActivation.distance at hphase hgoal
  simp only [hphase, hgoal]
  rfl

/-- The partner's event: its accumulator is its share of the ramped pair speed, and it is driven toward the corrected share. -/
theorem State.regulatePartner_eq {v : Int} (record : s.pairAt q = some r) (act : r.act = some a)
    (hv : v = weighted (s.unit (r.leadPort g)).reg.ramped (g.weight g.lead.other)) :
    s.regulatePartner q r g = s.pairOutcome q r g a g.lead.other
      (((s.unit (r.partnerPort g)).withAcc (v * 1000)).drive s.supply
        (pairTarget g.lead.other v r.corrA r.corrB (s.port (r.partnerPort g)).maxSpeed)) := by
  subst hv
  refine Eq.trans ?_ (State.drivePaired_loaded act _ _)
  rw [State.setPair_record (s := s.setUnit _ _) record]
  rfl

end

/-! ## What the event leaves -/

section
variable {s : State} {q : PairId} {r : PairRec} {g : PairSegment} {rest : List PairSegment} {a : PairActivation} {side : Lead}
  {m : MotionUnit}

/-- The outcome overwrites what the estimate left of the unit. -/
theorem State.estimated_pairOutcome (s : State) : (s.estimated (r.portOf side)).pairOutcome q r g a side m
    = s.pairOutcome q r g a side m := by
  have driven (timer : Nat) : (s.estimated (r.portOf side)).pairDriven q r a side m timer
      = s.pairDriven q r a side m timer := by
    unfold State.pairDriven
    exact congrArg (State.setPair · q _) (s.setUnit_setUnit (r.portOf side) _ m)
  simp only [State.pairOutcome, driven]

/-- The stall timer counts by one at most: a motor that stays below the stall time after one more event does not stall. -/
theorem State.pairOutcome_short (s : State) (q : PairId) (r : PairRec) (g : PairSegment)
    (short : (a.stallOf side : Int) + 1 < truncDiv m.settings.stallTime 5) :
    s.pairOutcome q r g a side m = s.pairDriven q r a side m (m.pairStallCount g a side) := by
  have below : m.pairStallCount g a side ≤ a.stallOf side + 1 := by
    unfold MotionUnit.pairStallCount MotionUnit.stallCount
    split <;> omega
  refine if_neg ?_
  simp only [RegSettings.stalled, Bool.and_eq_true, decide_eq_true_eq, not_and]
  omega

theorem State.pairOutcome_stalled (s : State) (q : PairId) (r : PairRec) {timer : Nat}
    (counted : timer = m.pairStallCount g a side) (long : truncDiv m.settings.stallTime 5 ≤ (timer : Int)) (counting : 0 < timer) :
    s.pairOutcome q r g a side m = (s.pairDriven q r a side m timer).stallPair q g side := by
  subst counted
  exact if_pos (by simp [RegSettings.stalled, long, counting])

theorem State.pairDriven_unit (s : State) (q : PairId) (r : PairRec) (a : PairActivation) (side : Lead) (m : MotionUnit)
    (timer : Nat) (x : Port) : (s.pairDriven q r a side m timer).unit x = if x = r.portOf side then m else s.unit x :=
  s.setUnit_unit (r.portOf side) m x

theorem State.pairDriven_pairAt (s : State) (q : PairId) (r : PairRec) (a : PairActivation) (side : Lead) (m : MotionUnit)
    (timer : Nat) (x : PairId) : (s.pairDriven q r a side m timer).pairAt x
      = if x = q then some { r with act := some (a.setStall side timer) } else s.pairAt x :=
  State.setPair_pairAt _ q _ x

/-- The stall policy of a pair segment (R68, R109): what becomes of the pair and its motors, and who is told. -/
theorem State.PairRuns.stallPair_acts (runs : s.PairRuns q r g rest a) (side : Lead) :
    (g.seg.stall = .keepOn → (s.stallPair q g side).pairAt q = some { r with act := some (a.setStall side 0) })
    ∧ (g.seg.stall ≠ .keepOn → s.sendsEnd (s.stallPair q g side) (r.leadPort g) (some q) g.seg .stalled)
    ∧ (g.seg.stall = .abort ∨ (g.seg.stall = .finish ∧ rest = []) → s.PairEnded (s.stallPair q g side) q r g a)
    ∧ (∀ h more, g.seg.stall = .finish → rest = h :: more → h.seg.cond = none →
      s.PairFollowed (s.stallPair q g side) q r g rest) := by
  unfold State.stallPair
  cases policy : g.seg.stall with
  | keepOn =>
    refine ⟨fun _ => ?_, fun h => absurd rfl h, fun h => absurd h (by simp), fun _ _ h => absurd h (by decide)⟩
    simp only [State.modPair, State.setPair_pairAt_same, runs.record, runs.act, Option.map_some]
  | abort =>
    exact ⟨fun h => absurd h (by decide), fun _ => runs.sendsEnd_abort rfl, fun _ => runs.abort_ends .stalled,
      fun _ _ h => absurd h (by decide)⟩
  | finish =>
    exact ⟨fun h => absurd h (by decide), fun _ => runs.sendsEnd_finish rfl,
      fun h => runs.finish_ends (h.resolve_left (by simp)).2 .stalled,
      fun h more _ waiting free => runs.finish_follows waiting free .stalled⟩

theorem PairRec.portOf_of_emptied {r' : PairRec} (ports : r'.emptied = r.emptied) (side : Lead) :
    r'.portOf side = r.portOf side :=
  (congrArg (PairRec.portOf · side) ports : r'.emptied.portOf side = r.emptied.portOf side)

theorem State.linksGrow_stallPair (s : State) (q : PairId) (g : PairSegment) (side : Lead) :
    s.LinksGrow (s.stallPair q g side) := by
  unfold State.stallPair
  split
  · exact .of_links rfl
  · exact (s.pairWork_finishPair q _).links
  · exact (s.pairWork_abortPair q _).links

/-- The end of a pair's motion from a later state of the same event: the same ports, positions and target. -/
theorem State.PairEnded.of_later {x t : State} {r' : PairRec} {a' : PairActivation} (h : x.PairEnded t q r' g a')
    (positions : ∀ y, (x.unit y).position = (s.unit y).position) (ports : r'.emptied = r.emptied)
    (target : a'.target = a.target) : s.PairEnded t q r g a := by
  have lead : r'.leadPort g = r.leadPort g := PairRec.portOf_of_emptied ports _
  have partner : r'.partnerPort g = r.partnerPort g := PairRec.portOf_of_emptied ports _
  obtain ⟨record, ofLead, ofPartner⟩ := h
  rw [lead, positions, target] at ofLead
  rw [partner, positions] at ofPartner
  exact ⟨record.trans (congrArg some ports), ofLead, ofPartner⟩

theorem State.PairFollowed.of_later {x t : State} {r' : PairRec} (h : x.PairFollowed t q r' g rest) (now : x.now = s.now)
    (ports : r'.emptied = r.emptied) : s.PairFollowed t q r g rest := by
  have lead : r'.leadPort g = r.leadPort g := PairRec.portOf_of_emptied ports _
  have partner : r'.partnerPort g = r.partnerPort g := PairRec.portOf_of_emptied ports _
  obtain ⟨record, ofLead, ofPartner⟩ := h
  rw [now] at record
  exact ⟨record, lead ▸ ofLead, partner ▸ ofPartner⟩

/-- The offer to the subscription table changes neither units nor pairs. -/
theorem State.PairEnded.offered {t : State} (h : s.PairEnded t q r g a) (p : Port) :
    s.PairEnded (t.offerMotion p) q r g a := by
  obtain ⟨record, lead, partner⟩ := h
  exact ⟨by rwa [State.offerMotion_pairAt], by rwa [State.offerMotion_unit], by rwa [State.offerMotion_unit]⟩

theorem State.PairFollowed.offered {t : State} (h : s.PairFollowed t q r g rest) (p : Port) :
    s.PairFollowed (t.offerMotion p) q r g rest := by
  obtain ⟨record, lead, partner⟩ := h
  exact ⟨by rwa [State.offerMotion_pairAt], by rwa [State.offerMotion_unit], by rwa [State.offerMotion_unit]⟩

end

/-! ## The events as they are executed -/

section
variable {s : State} {p : Port} {q : PairId} {r : PairRec} {g : PairSegment} {rest : List PairSegment} {a : PairActivation}
  (runs : s.PairRuns q r g rest a) (paired : s.pairOf p = some q)
include runs paired

/-- The lead's event at the segment's limit ends it DONE (R109, R110). -/
theorem State.PairRuns.exec_done (lead : p = r.leadPort g) (limit : g.limitReached a s.now (a.distance (s.unit p).position)) :
    exec (.regulationEvent p) s = .next (((s.estimated p).finishPair q .done).offerMotion p) := by
  rw [runs.exec_event paired, if_pos lead.symm, State.regulateLead_done]
  rw [← lead, State.estimated_position]
  exact limit

/-- The lead's event short of the limit (R107). -/
theorem State.PairRuns.exec_lead {m : MotionUnit} {d goal rate acc bound : Int} {phase : Phase} {dir : Int} {r' : PairRec}
    (lead : p = r.leadPort g) (hm : m = (s.unit p).estimate) (hd : d = a.distance m.position)
    (goesOn : ¬ g.limitReached a s.now d) (hphase : m.pairPhaseAt g a d = (phase, dir))
    (hgoal : g.seg.goal m.settings phase dir d = (goal, rate)) (hacc : acc = ramp m.reg.acc goal rate)
    (hbound : bound = (s.port p).maxSpeed)
    (hr : r' = r.corrected g { a with phase := phase, decelDir := dir } (s.pairError r g a) bound) :
    exec (.regulationEvent p) s = .next ((s.pairOutcome q r' g { a with phase := phase, decelDir := dir } g.lead
      ((m.withAcc acc).drive s.supply (pairTarget g.lead (weighted (truncDiv acc 1000) (g.weight g.lead)) r'.corrA r'.corrB
        bound))).offerMotion p) := by
  subst lead hbound
  have error : (s.estimated (r.leadPort g)).pairError r g a = s.pairError r g a := by
    simp only [State.pairError, State.estimated_position]
  rw [← error] at hr
  rw [runs.exec_event paired, if_pos rfl, State.regulateLead_goesOn (s := s.estimated (r.leadPort g))
    (hm.trans (s.estimated_unit _).symm) hd goesOn hphase hgoal hacc hr]
  have ports : r'.portOf g.lead = r.leadPort g := by rw [hr]; rfl
  rw [← ports, State.estimated_pairOutcome]
  rfl

/-- The partner's event (R108). -/
theorem State.PairRuns.exec_partner {m : MotionUnit} {v bound : Int} (partner : p = r.partnerPort g)
    (hm : m = (s.unit p).estimate) (hbound : bound = (s.port p).maxSpeed)
    (hv : v = weighted (truncDiv (s.unit (r.leadPort g)).reg.acc 1000) (g.weight g.lead.other)) :
    exec (.regulationEvent p) s = .next ((s.pairOutcome q r g a g.lead.other ((m.withAcc (v * 1000)).drive s.supply
      (pairTarget g.lead.other v r.corrA r.corrB bound))).offerMotion p) := by
  subst partner hbound
  have other := PairRec.partnerPort_ne runs.distinct g
  have share : v = weighted ((s.estimated (r.partnerPort g)).unit (r.leadPort g)).reg.ramped (g.weight g.lead.other) := by
    rw [State.estimated_unit_ne s other.symm]; exact hv
  rw [runs.exec_event paired, if_neg other.symm,
    State.regulatePartner_eq (s := s.estimated (r.partnerPort g)) runs.record runs.act share, State.estimated_unit, ← hm]
  exact congrArg (fun t => Host.Outcome.next (State.offerMotion t _)) (State.estimated_pairOutcome (side := g.lead.other) s)

end

end Sys2Proof.Machine
end


section
/-! The regulation events of a pair by its kind of segment, and its stall by each policy (R68, R91, R107 to R110): O38. -/

namespace Sys2Proof.Machine

/-! ## The two sides of a pair in the words of the statements -/

theorem PairRec.portOf_eq_iff {r : PairRec} (distinct : r.portA ≠ r.portB) (x y : Lead) :
    r.portOf x = r.portOf y ↔ x = y := by
  cases x <;> cases y <;> simp [PairRec.portOf, distinct, distinct.symm]

/-- A port of the pair is one of its sides. -/
theorem PairRec.exists_side {r : PairRec} {p : Port} (named : p = r.portA ∨ p = r.portB) : ∃ side, p = r.portOf side :=
  named.elim (fun h => ⟨.a, h⟩) fun h => ⟨.b, h⟩

theorem PairSegment.weight_eq (g : PairSegment) (side : Lead) :
    g.weight side = if side = .a then g.weightA else g.weightB := by
  cases side <;> rfl

/-- The partner's weight is the one of the other side. -/
theorem PairSegment.weight_of_ne {g : PairSegment} {side : Lead} (other : side ≠ g.lead) :
    g.weight side = if 0 ≤ g.steer then g.weightB else g.weightA := by
  unfold PairSegment.lead at other
  split at other <;> rename_i sign
  · rw [if_pos sign]
    cases side
    · exact absurd rfl other
    · rfl
  · rw [if_neg sign]
    cases side
    · rfl
    · exact absurd rfl other

theorem PairActivation.stallOf_eq (a : PairActivation) (side : Lead) :
    a.stallOf side = if side = .a then a.stallA else a.stallB := by
  cases side <;> rfl

theorem pairTarget_eq (side : Lead) (v cA cB maxSpeed : Int) :
    pairTarget side v cA cB maxSpeed = clampMag maxSpeed (if side = .a then v - cA else v + cB) := by
  cases side <;> rfl

/-- Both timers short of their stall times: so is the one of a side. -/
theorem State.stallOf_short {s : State} {r : PairRec} {a : PairActivation}
    (shortA : (a.stallA : Int) + 1 < truncDiv (s.unit r.portA).settings.stallTime 5)
    (shortB : (a.stallB : Int) + 1 < truncDiv (s.unit r.portB).settings.stallTime 5) (side : Lead) :
    (a.stallOf side : Int) + 1 < truncDiv (s.unit (r.portOf side)).settings.stallTime 5 := by
  cases side
  · exact shortA
  · exact shortB

/-! ## An event short of the stall time -/

/-- From `s` to `t` one motor of a pair was driven with its accumulator at `acc`: the pair's record is `r` with the motor's
stall timer counted, and every other unit and pair is as it was. -/
structure State.MotorDriven (s t : State) (p : Port) (q : PairId) (r : PairRec) (a : PairActivation) (side : Lead)
    (acc : Int) : Prop where
  acc : (t.unit p).reg.acc = acc
  record : ∃ n, t.pairAt q = some { r with act := some (a.setStall side n) }
  position : (t.unit p).position = (s.unit p).position
  settings : (t.unit p).settings = (s.unit p).settings
  motor : (t.unit p).motor = (s.unit p).motor
  units : ∀ x, x ≠ p → t.unit x = s.unit x
  pairs : ∀ x, x ≠ q → t.pairAt x = s.pairAt x
  frame : t = { s with motion := t.motion, pairs := t.pairs, links := t.links, streams := t.streams }

/-- An event whose stall timer stays short of the stall time drives the motor. -/
theorem State.exists_driven {s : State} {p : Port} {q : PairId} {r : PairRec} {g : PairSegment} {a : PairActivation}
    {side : Lead} {acc target : Int} (run : exec (.regulationEvent p) s = .next ((s.pairOutcome q r g a side
      (((s.unit p).estimate.withAcc acc).drive s.supply target)).offerMotion p)) (ports : p = r.portOf side)
    (short : (a.stallOf side : Int) + 1 < truncDiv (s.unit p).settings.stallTime 5) :
    ∃ t, exec (.regulationEvent p) s = .next t ∧ s.MotorDriven t p q r a side acc := by
  obtain ⟨m, hm⟩ : ∃ m, m = ((s.unit p).estimate.withAcc acc).drive s.supply target := ⟨_, rfl⟩
  have kept : m.reg.acc = acc ∧ m.position = (s.unit p).position ∧ m.settings = (s.unit p).settings
      ∧ m.motor = (s.unit p).motor := by rw [hm]; exact ⟨rfl, rfl, rfl, rfl⟩
  obtain ⟨acc, position, settings, motor⟩ := kept
  rw [← hm, State.pairOutcome_short s q r g (by rw [settings]; exact short)] at run
  have own : ((s.pairDriven q r a side m (m.pairStallCount g a side)).offerMotion p).unit p = m := by
    rw [State.offerMotion_unit, State.pairDriven_unit, if_pos ports]
  refine ⟨_, run, by rw [own, acc], ⟨m.pairStallCount g a side, ?_⟩, by rw [own, position], by rw [own, settings],
    by rw [own, motor], fun x other => ?_, fun x other => ?_, exec_regulationEvent_frame run⟩
  · rw [State.offerMotion_pairAt, State.pairDriven_pairAt, if_pos rfl]
  · rw [State.offerMotion_unit, State.pairDriven_unit, if_neg (ports ▸ other)]
  · rw [State.offerMotion_pairAt, State.pairDriven_pairAt, if_neg other]

/-! ## A RUN (R66, R107, R108) -/

section
variable {s : State} {p : Port} {q : PairId} {r : PairRec} {g : PairSegment} {rest : List PairSegment} {a : PairActivation}
  (runs : s.PairRuns q r g rest a) (paired : s.pairOf p = some q)
include runs paired

/-- The event of either motor under a RUN, which has no limit: the lead's steps the shared ramp and stores the corrections,
the partner's takes both as they stand. -/
theorem State.PairRuns.exec_run {side : Lead} {ramped cA cB bound acc : Int} (ports : p = r.portOf side)
    (work : g.seg.work = .run) (hbound : bound = (s.port p).maxSpeed)
    (hramped : ramped = truncDiv (if side = g.lead then ramp (s.unit p).reg.acc (g.seg.speed * 1000)
      (g.seg.accelRate (s.unit p).settings) else (s.unit (r.leadPort g)).reg.acc) 1000)
    (hcA : cA = if side = g.lead then correction (s.pairError r g a) g.weightB r.ks bound else r.corrA)
    (hcB : cB = if side = g.lead then correction (s.pairError r g a) g.weightA r.ks bound else r.corrB)
    (hacc : acc = if side = g.lead then ramp (s.unit p).reg.acc (g.seg.speed * 1000) (g.seg.accelRate (s.unit p).settings)
      else weighted ramped (g.weight side) * 1000) :
    exec (.regulationEvent p) s = .next ((s.pairOutcome q { r with corrA := cA, corrB := cB } g a side
      (((s.unit p).estimate.withAcc acc).drive s.supply (pairTarget side (weighted ramped (g.weight side)) cA cB
        bound))).offerMotion p) := by
  by_cases lead : side = g.lead
  · rw [if_pos lead] at hramped hcA hcB hacc
    subst lead
    have still : g.seg.work.positioning = false := by rw [work]; rfl
    have goesOn (d : Int) : ¬ g.limitReached a s.now d := by
      simp [PairSegment.limitReached, Segment.timeUp, work, SegWork.time, SegWork.positioning]
    have goal (d : Int) : g.seg.goal (s.unit p).estimate.settings a.phase a.decelDir d
        = (g.seg.speed * 1000, g.seg.accelRate (s.unit p).settings) := by
      unfold Segment.goal
      rw [still]
      rfl
    have event := runs.exec_lead paired ports rfl rfl (goesOn _) (if_neg (by simp [still])) (goal _) hacc hbound rfl
    have record : r.corrected g a (s.pairError r g a) bound = { r with corrA := cA, corrB := cB } := by
      rw [PairRec.corrected, ← runs.act, hcA, hcB]
    rw [hramped, ← hacc]
    rw [show ({ a with phase := a.phase, decelDir := a.decelDir } : PairActivation) = a from rfl, record] at event
    exact event
  · rw [if_neg lead] at hramped hcA hcB hacc
    have partner : side = g.lead.other := by
      revert lead
      cases side <;> cases g.lead <;> simp [Lead.other]
    rw [hcA, hcB, hacc, hramped]
    subst partner
    exact runs.exec_partner paired ports rfl hbound rfl

end

/-! ## A RUN_BY short of its target (R109) -/

/-- The phase of a RUN_BY pair segment in the words of the statement: CRUISE turns to DECEL at the stopping distance. -/
theorem nextPairPhase_eq (before : Phase) (dir ramped decel d : Int) : nextPairPhase before dir ramped decel d
    = (if before = .cruise ∧ 0 < ramped * d ∧ 2 * decel * mag d ≤ ramped * ramped then .decel else before,
      if before = .cruise ∧ (if before = .cruise ∧ 0 < ramped * d ∧ 2 * decel * mag d ≤ ramped * ramped then Phase.decel
        else before) = .decel then d.sign else dir) := by
  unfold nextPairPhase
  cases before with
  | cruise =>
    simp only [decelDue, sameSign, signOf_eq_sign, Bool.and_eq_true, decide_eq_true_eq]
    split <;> simp [*]
  | decel | settle => simp

/-- The ramp goal and rate of a segment with a target (R93, R109). -/
theorem Segment.goal_of_positioning {g : Segment} (positions : g.work.positioning = true) (k : RegSettings) (phase : Phase)
    (dir d : Int) : g.goal k phase dir d
      = (if phase = .decel then creepOf g.speed * 1000 * dir else mag g.speed * 1000 * d.sign,
        if phase = .decel then g.decelRate k else g.accelRate k) := by
  unfold Segment.goal
  rw [positions, signOf_eq_sign]
  cases phase <;> rfl

/-- A RUN_BY is complete at its target, past it, or with no distance to go. -/
theorem pairComplete_iff {distance d : Int} :
    pairComplete distance d = true ↔ d = 0 ∨ distance = 0 ∨ distance * d < 0 := by
  simp only [pairComplete, sameSign, Int.mul_neg, Bool.or_eq_true, decide_eq_true_eq]
  omega

theorem PairActivation.distance_of_target {a : PairActivation} {x position : BitVec 32} (target : a.target = some x) :
    a.distance position = (x - position).toInt := by
  rw [PairActivation.distance, target]; rfl

/-- The limit in the words of the statement: the time has passed, or the lead has travelled its distance. -/
theorem PairSegment.limitReached_of {g : PairSegment} {a : PairActivation} {now : Nat} {position : BitVec 32}
    (reached : (∃ ms, g.seg.work.time = some ms ∧ ms ≤ now - a.start)
      ∨ (∃ d x y, g.seg.work = .runBy d ∧ a.target = some x ∧ y = (x - position).toInt
        ∧ (y = 0 ∨ d.toInt = 0 ∨ d.toInt * y < 0))) :
    g.limitReached a now (a.distance position) := by
  rcases reached with ⟨ms, time, passed⟩ | ⟨d, x, y, work, target, rfl, complete⟩
  · exact .inl (by simp [Segment.timeUp, time, passed])
  · refine .inr ⟨by rw [work]; rfl, ?_⟩
    rw [PairActivation.distance_of_target target, work]
    exact pairComplete_iff.mpr complete

theorem PairActivation.setStall_eq (a : PairActivation) (side : Lead) (n : Nat) :
    ∃ k k', a.setStall side n = { a with stallA := k, stallB := k' } := by
  cases side
  · exact ⟨n, a.stallB, rfl⟩
  · exact ⟨a.stallA, n, rfl⟩

/-! ## The stall of a RUN (R68, R91, R109) -/

/-- The event of a motor whose stall timer is at the stall time is the stall policy's, on a state that differs in this motor
and the pair's record alone. -/
theorem State.PairRuns.exists_stalled {s : State} {p : Port} {q : PairId} {r r' : PairRec} {g : PairSegment}
    {rest : List PairSegment} {a : PairActivation} {side : Lead} {m : MotionUnit} {timer : Nat} (runs : s.PairRuns q r g rest a)
    (run : exec (.regulationEvent p) s = .next ((s.pairOutcome q r' g a side m).offerMotion p))
    (ports : p = r.portOf side) (same : r'.emptied = r.emptied) (queue : r'.queue = r.queue)
    (position : m.position = (s.unit p).position) (counted : timer = m.pairStallCount g a side)
    (long : truncDiv m.settings.stallTime 5 ≤ (timer : Int)) (counting : 0 < timer) :
    ∃ t, exec (.regulationEvent p) s = .next t
      ∧ (g.seg.stall = .keepOn → t.pairAt q = some { r' with act := some ((a.setStall side timer).setStall side 0) })
      ∧ (g.seg.stall ≠ .keepOn → s.sendsEnd t (r.leadPort g) (some q) g.seg .stalled)
      ∧ (g.seg.stall = .abort ∨ (g.seg.stall = .finish ∧ rest = []) → s.PairEnded t q r g a)
      ∧ (∀ h more, g.seg.stall = .finish → rest = h :: more → h.seg.cond = none → s.PairFollowed t q r g rest) := by
  obtain ⟨x, hx⟩ : ∃ x, x = s.pairDriven q r' a side m timer := ⟨_, rfl⟩
  obtain ⟨r'', hr⟩ : ∃ r'', r'' = { r' with act := some (a.setStall side timer) } := ⟨_, rfl⟩
  have same' : r''.emptied = r.emptied := by rw [hr]; exact same
  have positions (y : Port) : (x.unit y).position = (s.unit y).position := by
    rw [hx, State.pairDriven_unit, PairRec.portOf_of_emptied same, ← ports]
    split
    · rename_i own; rw [own, position]
    · rfl
  have started : x.PairRuns q r'' g rest (a.setStall side timer) := by
    refine ⟨by rw [hx, State.pairDriven_pairAt, if_pos rfl, hr], ?_, by rw [hr]; exact queue.trans runs.queue, by rw [hr]⟩
    have portA : r''.portA = r.portA := PairRec.portOf_of_emptied same' .a
    have portB : r''.portB = r.portB := PairRec.portOf_of_emptied same' .b
    rw [portA, portB]
    exact runs.distinct
  have target : (a.setStall side timer).target = a.target := by cases side <;> rfl
  have now : x.now = s.now := by rw [hx]; rfl
  have grown : s.LinksGrow x := .of_links (by rw [hx]; rfl)
  have lead : r''.leadPort g = r.leadPort g := PairRec.portOf_of_emptied same' _
  obtain ⟨goesOn, told, ends, follows⟩ := started.stallPair_acts side
  rw [State.pairOutcome_stalled s q r' counted long counting, ← hx] at run
  refine ⟨_, run, fun policy => ?_, fun policy => ?_, fun policy => ?_, fun h more policy waiting free => ?_⟩
  · rw [State.offerMotion_pairAt, goesOn policy, hr]
  · have sent := told policy
    rw [lead] at sent
    exact grown.sendsEnd_after ((x.linksGrow_stallPair q g side).sendsEnd_before (State.linksGrow_offerMotion _ p) sent)
  · exact ((ends policy).of_later positions same' target).offered p
  · exact ((follows h more policy waiting free).of_later now same').offered p

/-- The motor's stall timer after its event, in the words of the statement (R91, R109). -/
theorem MotionUnit.pairStallCount_eq {m : MotionUnit} {g : PairSegment} {a : PairActivation} {side : Lead} {duty c v : Int}
    (clamped : m.reg.clamped = decide (c < mag duty)) (speed : m.reg.speed = v) : m.pairStallCount g a side
      = if c < mag duty ∧ mag v < stallSpeedOf m.settings (truncDiv (g.seg.speed * g.weight side) 100)
        then a.stallOf side + 1 else 0 := by
  simp only [MotionUnit.pairStallCount, MotionUnit.stallCount, clamped, speed, decide_eq_true_eq]

/-! ## The end DONE and the statement -/

section
variable {s : State} {p : Port} {q : PairId} {r : PairRec} {g : PairSegment} {rest : List PairSegment} {a : PairActivation}
  (runs : s.PairRuns q r g rest a) (paired : s.pairOf p = some q)
include runs paired

/-- The lead's event at the segment's limit (R109, R110): who is told, and what becomes of the pair and its motors. -/
theorem State.PairRuns.exists_done (lead : p = r.leadPort g)
    (limit : g.limitReached a s.now (a.distance (s.unit p).position)) :
    ∃ t, exec (.regulationEvent p) s = .next t
      ∧ (g.seg.notify = true → s.sendsEnd t p (some q) g.seg .done)
      ∧ (rest = [] → s.PairEnded t q r g a)
      ∧ (∀ h more, rest = h :: more → h.seg.cond = none → s.PairFollowed t q r g rest)
      ∧ ∀ z, z ≠ p → z ≠ r.partnerPort g → t.unit z = s.unit z := by
  have estimated := runs.estimated p
  have work := (s.estimated p).pairWork_finishPair q .done
  refine ⟨_, runs.exec_done paired lead limit, fun notify => ?_, fun last => ?_, fun h more waiting free => ?_,
    fun z offLead offPartner => ?_⟩
  · have told := estimated.sendsEnd_finish (o := .done) notify
    rw [← lead] at told
    exact (s.unitWork_estimated p).links.sendsEnd_after
      (work.links.sendsEnd_before (State.linksGrow_offerMotion _ p) told)
  · exact ((estimated.finish_ends last .done).of_later (s.estimated_position p) rfl rfl).offered p
  · exact ((estimated.finish_follows waiting free .done).of_later (s := s) rfl rfl).offered p
  · have off (x : Port) (named : x = r.portA ∨ x = r.portB) : x ≠ z := by
      rintro rfl
      exact (r.eq_lead_or_partner g named).elim (fun h => offLead (h.trans lead.symm)) offPartner
    rw [State.offerMotion_unit, work.others z fun x record => ?_, State.estimated_unit_ne s offLead]
    obtain rfl : r = x := Option.some.inj (runs.record.symm.trans record)
    exact ⟨off _ (.inl rfl), off _ (.inr rfl)⟩

/-- The lead's event under a RUN_BY short of its target and of the stall time (R109). -/
theorem State.PairRuns.exists_approach {d x : BitVec 32} {y dir : Int} {phase : Phase} (lead : p = r.leadPort g)
    (work : g.seg.work = .runBy d) (target : a.target = some x) (hy : y = (x - (s.unit p).position).toInt)
    (ahead : 0 < d.toInt * y)
    (turned : nextPairPhase a.phase a.decelDir (s.unit p).reg.ramped (g.seg.decelRate (s.unit p).settings) y = (phase, dir))
    (short : (a.stallOf g.lead : Int) + 1 < truncDiv (s.unit p).settings.stallTime 5) :
    ∃ t, exec (.regulationEvent p) s = .next t ∧ s.MotorDriven t p q
      (r.corrected g { a with phase := phase, decelDir := dir } (s.pairError r g a) (s.port p).maxSpeed)
      { a with phase := phase, decelDir := dir } g.lead
      (ramp (s.unit p).reg.acc (if phase = .decel then creepOf g.seg.speed * 1000 * dir else mag g.seg.speed * 1000 * y.sign)
        (if phase = .decel then g.seg.decelRate (s.unit p).settings else g.seg.accelRate (s.unit p).settings)) := by
  have positions : g.seg.work.positioning = true := by rw [work]; rfl
  have distance : y = a.distance (s.unit p).position := hy.trans (PairActivation.distance_of_target target).symm
  have goesOn : ¬ g.limitReached a s.now y := by
    rintro (timed | ⟨-, complete⟩)
    · simp [Segment.timeUp, SegWork.time_of_positioning positions] at timed
    · rw [work] at complete
      obtain arrived | nowhere | past := pairComplete_iff.mp complete
      · simp [arrived] at ahead
      · rw [show d.toInt = 0 from nowhere] at ahead; simp at ahead
      · exact absurd ahead (not_lt_of_gt past)
  have event := runs.exec_lead paired lead rfl distance goesOn ((if_pos positions).trans turned)
    (Segment.goal_of_positioning positions _ phase dir y) rfl rfl rfl
  exact State.exists_driven event lead short

end

/-- Settles O38: the event of a RUN and of a RUN_BY is the equation of its motor's stages, read where the stall timer stays
short (`State.exists_driven`) and where it is at the stall time (`State.PairRuns.exists_stalled`). At the limit it is the
segment's end (`State.PairRuns.exists_done`). -/
theorem pairRegulation : Obligations.PairRegulation := by
  refine ⟨?_, ?_, ?_, ?_⟩
  · intro p q s r g rest a acc dA dB e kA kB bound paired record distinct queue act work shortA shortB hkA hkB hacc hdA hdB he
      hbound
    have runs : s.PairRuns q r g rest a := ⟨record, distinct, queue, act⟩
    obtain ⟨side, ports⟩ := PairRec.exists_side (State.port_of_pairOf paired record)
    have onLead : p = r.leadPort g ↔ side = g.lead := ports ▸ PairRec.portOf_eq_iff distinct side g.lead
    have error : s.pairError r g a = e := by subst hkA hkB hdA hdB he; rfl
    have short := State.stallOf_short shortA shortB side
    rw [← ports] at short
    have event := runs.exec_run paired ports work hbound rfl rfl rfl rfl
    rw [error] at event
    obtain ⟨t, run, ramped, ⟨n, stored⟩, position, settings, motor, units, pairs, frame⟩ :=
      State.exists_driven event ports short
    rw [← PairRec.leadPort_eq]
    refine ⟨t, run, fun isLead => ?_, fun notLead => ?_, position, settings, motor, units, pairs, frame⟩
    · have lead := onLead.mp isLead
      rw [if_pos lead] at ramped
      rw [if_pos lead, if_pos lead] at stored
      subst hkA hkB
      exact ⟨ramped.trans hacc.symm, _, stored⟩
    · have partner := mt onLead.mpr notLead
      rw [if_neg partner, if_neg partner, PairSegment.weight_of_ne partner] at ramped
      rw [if_neg partner, if_neg partner] at stored
      subst hkA hkB
      exact ⟨ramped, _, stored⟩
  · intro p q s r g rest a d x y ramped decel creep dir goal phase paired record distinct queue act lead work target hy ahead
      shortA shortB hramped hdecel hcreep hphase hdir hgoal
    rw [← PairRec.leadPort_eq] at lead
    have runs : s.PairRuns q r g rest a := ⟨record, distinct, queue, act⟩
    have short := State.stallOf_short shortA shortB g.lead
    rw [show r.portOf g.lead = p from lead.symm] at short
    have turned : nextPairPhase a.phase a.decelDir (s.unit p).reg.ramped (g.seg.decelRate (s.unit p).settings) y
        = (phase, dir) := by
      subst hramped hdecel hphase hdir
      exact nextPairPhase_eq _ _ _ _ _
    obtain ⟨t, run, driven⟩ := runs.exists_approach paired lead work target hy ahead turned short
    obtain ⟨n, stored⟩ := driven.record
    obtain ⟨k, k', timers⟩ := PairActivation.setStall_eq { a with phase := phase, decelDir := dir } g.lead n
    subst hcreep hdecel hgoal
    exact ⟨t, run, driven.acc, ⟨_, k, k', stored, rfl, congrArg some timers⟩, driven.motor, driven.units, driven.frame⟩
  · intro p o q s r g rest a paired record distinct queue act lead partner reached
    rw [← PairRec.leadPort_eq] at lead
    rw [← PairRec.partnerPort_eq] at partner
    have runs : s.PairRuns q r g rest a := ⟨record, distinct, queue, act⟩
    obtain ⟨t, run, told, ends, follows, units⟩ := runs.exists_done paired lead (PairSegment.limitReached_of reached)
    refine ⟨t, run, told, fun last => ?_, fun h more waiting free => ?_, partner ▸ units, exec_regulationEvent_frame run⟩
    · obtain ⟨emptied, ofLead, ofPartner⟩ := ends last
      rw [← lead] at ofLead
      rw [← partner] at ofPartner
      exact ⟨emptied, ofLead, ofPartner⟩
    · obtain ⟨next, ofLead, ofPartner⟩ := follows h more waiting free
      rw [← lead] at ofLead
      rw [← partner] at ofPartner
      exact ⟨next, ofLead, ofPartner⟩
  · intro p lead other q s r g rest a m k dA dB err kA kB w bound ramped cA cB target v e i u duty c timer paired record
      distinct queue act work hm hk hlead hother hkA hkB hw hbound hdA hdB herr hramped hcA hcB htarget hv he hi hu hduty hc
      htimer long counting
    rw [← PairRec.leadPort_eq] at hlead
    rw [← PairRec.partnerPort_eq] at hother
    subst hk hm hlead hother
    have runs : s.PairRuns q r g rest a := ⟨record, distinct, queue, act⟩
    obtain ⟨side, ports⟩ := PairRec.exists_side (State.port_of_pairOf paired record)
    have onA : p = r.portA ↔ side = .a := ports ▸ PairRec.portOf_eq_iff distinct side .a
    have onLead : p = r.leadPort g ↔ side = g.lead := ports ▸ PairRec.portOf_eq_iff distinct side g.lead
    have error : s.pairError r g a = err := by subst hkA hkB hdA hdB herr; rfl
    simp only [onA] at hw htarget htimer
    simp only [onLead] at hramped hcA hcB
    have weight : w = g.weight side := by rw [g.weight_eq, hw, hkA, hkB]; rfl
    have event := runs.exec_run (cA := cA) (cB := cB) paired ports work hbound hramped (by rw [error, hcA, hkB]; rfl)
      (by rw [error, hcB, hkA]; rfl) rfl
    have share : pairTarget side (weighted ramped (g.weight side)) cA cB bound = target := by
      rw [pairTarget_eq, htarget, weight]; rfl
    rw [share, MotionUnit.estimate_eq hv,
      MotionUnit.drive_withAcc (m := (s.unit p).measured v) he (hi.trans (integrate_eq _ _ _).symm) hu hduty hc] at event
    rw [weight, ← a.stallOf_eq] at htimer
    obtain ⟨t, run, goesOn, told, ends, follows⟩ := runs.exists_stalled event ports rfl rfl rfl
      (by rw [htimer, MotionUnit.pairStallCount_eq (c := c) (duty := duty) (v := v) rfl rfl]; rfl) long counting
    refine ⟨t, run, fun policy => ⟨_, _, goesOn policy, rfl, rfl, ?_⟩, told, fun policy => ?_,
      fun h more policy waiting free => ?_, exec_regulationEvent_frame run⟩
    · simp only [onA]
      cases side
      · exact ⟨rfl, rfl⟩
      · exact ⟨rfl, rfl⟩
    · obtain ⟨emptied, ofLead, ofPartner⟩ := ends policy
      exact ⟨emptied, ofLead, ofPartner⟩
    · obtain ⟨next, ofLead, ofPartner⟩ := follows h more policy waiting free
      exact ⟨next, ofLead, ofPartner⟩

end Sys2Proof.Machine
end

section
/-! The array's reads and the voices (R157, R162 to R164, R168): which records they change, the free voices after every one was
ended, and the start of a clip on a free voice. -/

namespace Sys2Proof.Machine

/-! ## The array's reads (R157, R164) -/

/-- A store with the reads of another: those that wait, the one that is served, and what the array does for them. -/
def Store.withReads (a b : Store) : Store :=
  { a with activity := b.activity, suspending := b.suspending, reading := b.reading, fetches := b.fetches, reads := b.reads }

/-- Nothing but the array's reads changes. -/
def State.ReadWork (s t : State) : Prop := t = { s with store := s.store.withReads t.store }

theorem State.ReadWork.refl (s : State) : s.ReadWork s := rfl

theorem State.ReadWork.trans {s t u : State} (a : s.ReadWork t) (b : t.ReadWork u) : s.ReadWork u := by
  unfold State.ReadWork at *
  conv_lhs => rw [b, a]
  rfl

theorem State.ReadWork.frame {s t : State} (h : s.ReadWork t) : t = { s with store := t.store } := by
  have store : t.store = s.store.withReads t.store := congrArg State.store h
  exact Eq.trans h (by rw [← store])

theorem State.readWork_grantRead {s t : State} (h : s.grantRead = some t) : s.ReadWork t := by
  obtain ⟨v, f, -, -, rfl⟩ | ⟨r, rest, -, -, rfl⟩ := State.grantRead_cases h
  · rfl
  · rfl

theorem State.readWork_readArrives (s : State) : s.ReadWork s.readArrives := by
  have granted : s.ReadWork (s.grantRead.getD s) := by
    cases h : s.grantRead with
    | none => exact .refl s
    | some t => exact State.readWork_grantRead h
  unfold State.readArrives
  split
  · exact granted
  · exact granted
  · split <;> rfl
  · exact .refl s
  · exact .refl s

theorem State.readWork_placeFetch (s : State) (v : VoiceId) : s.ReadWork (s.placeFetch v) := by
  unfold State.placeFetch
  split
  · exact .refl s
  · split
    · refine State.ReadWork.trans ?_ (State.readWork_readArrives _)
      rfl
    · exact .refl s

theorem State.readWork_withdrawFetch (s : State) (v : VoiceId) : s.ReadWork (s.withdrawFetch v) := rfl

/-! ## The ends of voices (R168) -/

/-- Nothing but the sound engine, the array's reads and the links' queues changes. -/
structure State.VoiceWork (s t : State) : Prop where
  frame : t = { s with store := s.store.withReads t.store, sound := t.sound, links := t.links }
  links : s.LinksGrow t

theorem State.VoiceWork.refl (s : State) : s.VoiceWork s := ⟨rfl, .refl s⟩

theorem State.VoiceWork.trans {s t u : State} (a : s.VoiceWork t) (b : t.VoiceWork u) : s.VoiceWork u where
  frame := by
    conv_lhs => rw [b.frame, a.frame]
    rfl
  links := a.links.trans b.links

theorem State.LinkWork.voiceWork {s t : State} (h : s.LinkWork t) : s.VoiceWork t := by
  refine ⟨?_, h.links⟩
  have store : t.store = s.store := by rw [h.frame]
  have sound : t.sound = s.sound := by rw [h.frame]
  rw [store, sound]
  exact h.frame

theorem State.ReadWork.voiceWork {s t : State} (h : s.ReadWork t) : s.VoiceWork t := by
  have sound : t.sound = s.sound := by rw [h]
  have links : t.links = s.links := by rw [h]
  refine ⟨?_, .of_links links⟩
  rw [sound, links]
  exact h

theorem State.voiceWork_setSound (s : State) (n : Sound) : s.VoiceWork (s.setSound n) := ⟨rfl, .of_links rfl⟩

theorem State.voiceWork_setVoice (s : State) (v : VoiceId) (x : Voice) : s.VoiceWork (s.setVoice v x) :=
  s.voiceWork_setSound _

theorem Voice.endNotice_dataEntry {v : VoiceId} {o : VoiceOutcome} {x : Voice} {l : LinkId} {n : Notice}
    (h : x.endNotice v o = some (l, n)) : n.dataEntry = none := by
  unfold Voice.endNotice at h
  split at h
  · split at h
    · cases h; rfl
    · cases h
  · cases h

theorem State.voiceWork_endVoice (s : State) (v : VoiceId) (o : VoiceOutcome) : s.VoiceWork (s.endVoice v o) := by
  have freed : s.VoiceWork ((s.withdrawFetch v).setVoice v .unused) :=
    (s.readWork_withdrawFetch v).voiceWork.trans (State.voiceWork_setVoice _ v _)
  unfold State.endVoice
  extract_lets x t
  split
  · rename_i told
    exact freed.trans (t.linkWork_notify _ (Voice.endNotice_dataEntry told)).voiceWork
  · exact freed

theorem State.endVoice_voice (s : State) (v : VoiceId) (o : VoiceOutcome) (w : VoiceId) :
    (s.endVoice v o).voice w = if w = v then .unused else s.voice w := by
  have freed : ((s.withdrawFetch v).setVoice v .unused).voice w = if w = v then .unused else s.voice w :=
    State.setVoice_voice _ v _ w
  unfold State.endVoice
  extract_lets x t
  split
  · exact freed
  · exact freed

/-- A busy voice ends. -/
def State.endIfBusy (o : VoiceOutcome) (s : State) (v : VoiceId) : State :=
  if (s.voice v).busy then s.endVoice v o else s

theorem State.endVoices_eq (s : State) (o : VoiceOutcome) : s.endVoices o = VoiceId.all.foldl (State.endIfBusy o) s := rfl

theorem State.voiceWork_endVoices (s : State) (o : VoiceOutcome) : s.VoiceWork (s.endVoices o) := by
  rw [State.endVoices_eq]
  refine foldl_induct .refl .trans _ (fun t v _ => ?_) s
  unfold State.endIfBusy
  split
  · exact t.voiceWork_endVoice v o
  · exact .refl t

theorem Voice.busy_iff (x : Voice) : x.busy = true ↔ x.state ≠ .free := by simp [Voice.busy]

/-- A voice is FREE once it was ended, and a FREE one stays so while others end. -/
theorem State.endIfBusy_free (o : VoiceOutcome) (s : State) (v : VoiceId) {w : VoiceId}
    (h : w = v ∨ (s.voice w).state = .free) : ((s.endIfBusy o v).voice w).state = .free := by
  unfold State.endIfBusy
  split
  · rw [State.endVoice_voice]
    split
    · rfl
    · rename_i other; exact h.resolve_left other
  · rename_i idle
    rw [Voice.busy_iff, not_not] at idle
    rcases h with rfl | free
    · exact idle
    · exact free

theorem State.foldl_endIfBusy_free {w : VoiceId} (o : VoiceOutcome) (vs : List VoiceId) (s : State)
    (h : w ∈ vs ∨ (s.voice w).state = .free) : ((vs.foldl (State.endIfBusy o) s).voice w).state = .free := by
  induction vs generalizing s with
  | nil => exact h.resolve_left List.not_mem_nil
  | cons v rest ih =>
    refine ih _ ?_
    rw [List.mem_cons] at h
    obtain (own | later) | free := h
    · exact .inr (State.endIfBusy_free o s v (.inl own))
    · exact .inl later
    · exact .inr (State.endIfBusy_free o s v (.inr free))

/-- After every voice was ended, all four are FREE. -/
theorem State.endVoices_free (s : State) (o : VoiceOutcome) (v : VoiceId) : ((s.endVoices o).voice v).state = .free := by
  rw [State.endVoices_eq]
  exact State.foldl_endIfBusy_free o _ s (.inl (VoiceId.mem_all v))

/-! ## The start of a clip (R162, R163) -/

theorem State.voiceWork_allocate {s t : State} {priority : Nat} {v : VoiceId} (h : s.allocate priority = some (v, t)) :
    s.VoiceWork t := by
  unfold State.allocate at h
  split at h
  · cases h; exact .refl s
  · obtain ⟨_, -, e⟩ := Option.map_eq_some_iff.mp h
    cases e
    exact s.voiceWork_endVoice v .stolen

/-- The lowest-numbered FREE voice takes a sound of any priority, and no voice ends. -/
theorem State.allocate_free {s : State} {v : VoiceId}
    (free : VoiceId.all.find? (fun w => (s.voice w).state == .free) = some v) (priority : Nat) :
    s.allocate priority = some (v, s) := by
  have first : s.freeVoice = some v := by
    simpa [State.freeVoice, Voice.busy, bne] using free
  unfold State.allocate
  rw [first]

theorem State.voiceWork_startVoice (s : State) (v : VoiceId) (make : BitVec 32 → Voice) : s.VoiceWork (s.startVoice v make) :=
  (s.voiceWork_setVoice v _).trans (State.voiceWork_setSound _ _)

section
variable (s : State) (v : VoiceId) (a : Start) (rate : Nat) (e : DirEntry)

theorem State.startClip_sound :
    (s.startClip v a rate e).sound = (s.startVoice v fun n => clipVoice a n rate e).sound := by
  rw [State.startClip, (State.readWork_placeFetch _ v).frame]

/-- The start of a clip changes the sound engine and the array's reads alone. -/
theorem State.startClip_frame : s.startClip v a rate e = { s with
    sound := (s.startClip v a rate e).sound, store := (s.startClip v a rate e).store } := by
  rw [State.startClip_sound]
  exact (State.readWork_placeFetch _ v).frame

theorem State.startClip_voice (w : VoiceId) :
    (s.startClip v a rate e).voice w = if w = v then clipVoice a s.sound.startCount rate e else s.voice w := by
  rw [State.voice, State.startClip_sound]
  exact State.setVoice_voice s v _ w

theorem State.voiceWork_startClip : s.VoiceWork (s.startClip v a rate e) :=
  (s.voiceWork_startVoice v _).trans (State.readWork_placeFetch _ v).voiceWork

end

end Sys2Proof.Machine
end

section
/-! The warning clip, SET_SUPPLY and SUPPLY_STATUS (R121 to R124): O41. -/

namespace Sys2Proof.Machine

/-! ## The warning clip (R121, R122) -/

theorem State.warningBusy_iff (s : State) :
    s.warningBusy = true ↔ ∃ v, (s.voice v).state ≠ .free ∧ (s.voice v).owner = some .supply := by
  simp [State.warningBusy, List.any_eq_true, VoiceId.mem_all, Voice.busy_iff]

/-- No READY, unmarked clip has the id. -/
theorem Store.readyClip_none {t : Store} {id : Nat}
    (h : ∀ e ∈ t.directory, e.id = id → e.state ≠ .ready ∨ e.marked = true) : t.readyClip id = none := by
  refine List.find?_eq_none.mpr fun e mem => ?_
  simp only [Bool.and_eq_true, beq_iff_eq, Bool.not_eq_true', not_and, Bool.not_eq_false, and_imp]
  exact fun named ready => (h e mem named).resolve_left (not_not_intro ready)

/-- The one entry of an id, READY and unmarked. -/
theorem Store.readyClip_some {t : Store} {e : DirEntry} (mem : e ∈ t.directory) (ready : e.state = .ready)
    (unmarked : e.marked = false) (unique : ∀ d ∈ t.directory, d.id = e.id → d = e) : t.readyClip e.id = some e := by
  cases found : t.readyClip e.id with
  | none =>
    have := List.find?_eq_none.mp found e mem
    simp [ready, unmarked] at this
  | some d =>
    have named : d.id = e.id := by
      have := List.find?_some found
      simp only [Bool.and_eq_true, beq_iff_eq] at this
      exact this.1.1
    rw [unique d (List.mem_of_find?_eq_some found) named]

theorem State.startWarning_of_no_clip {s : State} (h : s.warningClip = none) : s.startWarning = s := by
  unfold State.startWarning
  rw [h]

theorem State.startWarning_of_busy {s : State} (h : s.warningBusy = true) : s.startWarning = s := by
  unfold State.startWarning
  split
  · rfl
  · exact if_pos h

/-- Nothing plays without a READY, unmarked clip W, while the scan runs, or while a warning voice is busy (R122). -/
theorem State.startWarning_silent {s : State} (h : s.supply.warnClip = none ∨ s.store.scanning = true
    ∨ (∃ v, (s.voice v).state ≠ .free ∧ (s.voice v).owner = some .supply)
    ∨ ∀ e ∈ s.store.directory, some e.id = s.supply.warnClip → e.state ≠ .ready ∨ e.marked = true) :
    s.startWarning = s := by
  obtain unset | scanning | busy | absent := h
  · refine State.startWarning_of_no_clip ?_
    rw [State.warningClip, unset]
    exact ite_self _
  · exact State.startWarning_of_no_clip (if_pos scanning)
  · exact State.startWarning_of_busy (s.warningBusy_iff.mpr busy)
  · refine State.startWarning_of_no_clip ?_
    unfold State.warningClip
    split
    · rfl
    · refine Option.bind_eq_none_iff.mpr fun id set => ?_
      exact Store.readyClip_none fun e mem named => absent e mem (by rw [named, set])

/-- Clip W starts on the lowest FREE voice (R122). -/
theorem State.startWarning_plays {s : State} {e : DirEntry} {v : VoiceId} (scanned : s.store.scanning = false)
    (set : s.supply.warnClip = some e.id) (clip : s.store.readyClip e.id = some e)
    (quiet : ∀ w, (s.voice w).state ≠ .free → (s.voice w).owner ≠ some .supply)
    (free : VoiceId.all.find? (fun w => (s.voice w).state == .free) = some v) :
    s.startWarning = s.startClip v ⟨.supply, none, 8, 255, false, 0⟩ e.clip.rate e := by
  have chosen : s.warningClip = some e := by
    rw [State.warningClip, scanned, set]
    exact clip
  have idle : ¬ s.warningBusy = true := fun busy => by
    obtain ⟨w, playing, owned⟩ := s.warningBusy_iff.mp busy
    exact quiet w playing owned
  unfold State.startWarning
  simp only [chosen, if_neg idle, State.allocate_free free]

/-- The expiry of the running warning timer (R121). -/
theorem State.warningTimerStep_running {s : State} (h : s.supply.warning.isSome = true) :
    s.warningTimerStep = s.startWarning.setSupply { s.supply with warning := some 60000 } := by
  obtain ⟨n, running⟩ := Option.isSome_iff_exists.mp h
  unfold State.warningTimerStep
  rw [running]
  exact congrArg (fun m : Supply => s.startWarning.setSupply { m with warning := some 60000 }) s.startWarning_supply

/-! ## SET_SUPPLY (R123) -/

/-- The settings that SET_SUPPLY asks for: those present are clamped to their ranges, the others held. -/
def Supply.given (m : Supply) (ps : List Byte) : Supply := { m with
  vnom := if (byteAt ps 0).testBit 0 then clamp 3000 12000 (wordAt ps 1) else m.vnom
  vsoft := if (byteAt ps 0).testBit 1 then clamp 3000 12000 (wordAt ps 3) else m.vsoft
  vhard := if (byteAt ps 0).testBit 2 then clamp 3000 12000 (wordAt ps 5) else m.vhard
  ilim := if (byteAt ps 0).testBit 3 then clamp 500 8000 (wordAt ps 7) else m.ilim
  warnClip := if (byteAt ps 0).testBit 4 then (if byteAt ps 9 = 255 then none else some (byteAt ps 9)) else m.warnClip }

theorem supplySetting_eq (ps : List Byte) (bit offset : Nat) (lo hi held : Int) : supplySetting ps bit offset lo hi held
    = if (byteAt ps 0).testBit bit then clamp lo hi (wordAt ps offset) else held := by
  unfold supplySetting presentIf
  split <;> rfl

section
variable {s : State} {ps : List Byte} (r : ReplyTo)

theorem State.setSupplyBody_refused (bad : ((byteAt ps 0).testBit 4 = true ∧ 63 < byteAt ps 9 ∧ byteAt ps 9 ≠ 255)
      ∨ ¬ ((s.supply.given ps).vhard < (s.supply.given ps).vsoft)
      ∨ ¬ ((s.supply.given ps).vsoft ≤ (s.supply.given ps).vnom)) : s.setSupplyBody r ps = s.answer r .badParam [] := by
  unfold State.setSupplyBody
  extract_lets m w wGiven new clamped
  obtain given : new = s.supply.given ps := by simp only [new, supplySetting_eq]; rfl
  rw [← given] at bad
  rcases bad with clip | order
  · exact if_pos clip
  · rw [if_neg (c := _ ∧ _ ≤ _) fun ordered => order.elim (· ordered.1) (· ordered.2)]
    exact ite_self _

theorem State.setSupplyBody_taken (clip : (byteAt ps 0).testBit 4 = true → byteAt ps 9 ≤ 63 ∨ byteAt ps 9 = 255)
    (low : (s.supply.given ps).vhard < (s.supply.given ps).vsoft)
    (high : (s.supply.given ps).vsoft ≤ (s.supply.given ps).vnom) : ∃ st, (st = .ok ∨ st = .adjusted)
      ∧ s.setSupplyBody r ps = (s.setSupply (s.supply.given ps)).answer r st (s.supply.given ps).settingsBytes := by
  unfold State.setSupplyBody
  extract_lets m w wGiven new clamped
  obtain given : new = s.supply.given ps := by simp only [new, supplySetting_eq]; rfl
  rw [← given] at low high ⊢
  have known : ¬ (wGiven = true ∧ 63 < w ∧ w ≠ 255) := by
    rintro ⟨present, above, set⟩
    exact (clip present).elim (Nat.not_le_of_lt above) set
  refine ⟨if clamped then .adjusted else .ok, ?_, by rw [if_neg known, if_pos ⟨low, high⟩]⟩
  split
  · exact .inr rfl
  · exact .inl rfl

end

/-- SET_SUPPLY of its one length reaches the supply monitor. -/
theorem exec_setSupply {l : LinkId} {tag : Byte} {ps : List Byte} {s : State} (asked : s.asked l tag 0x41 ps)
    (length : ps.length = 10) : exec (.setSupply l tag ps) s = .next
      ((s.accepted l tag 0x41).setSupplyBody ⟨l, (s.link l).activation, tag, BitVec.ofNat 8 0x41⟩ ps) := by
  have allowed : lengthAllowed 0x41 ps = some true := by simp [lengthAllowed, length]
  exact congrArg Host.Outcome.next (State.serve_asked asked allowed fun r t => t.setSupplyBody r ps)

/-! ## SUPPLY_STATUS (R124) -/

theorem exec_supplyStatus {l : LinkId} {tag : Byte} {s : State} (asked : s.asked l tag 0x40 []) :
    exec (.supplyStatus l tag []) s = .next (s.replied l tag 0x40 .ok s.supply.statusBytes) :=
  congrArg Host.Outcome.next ((State.serve_asked asked rfl _).trans (s.accepted_answer l tag 0x40 .ok s.supply.statusBytes))

/-- Settles O41: SET_SUPPLY by its one check, SUPPLY_STATUS by its bytes, and the expiry by the warning that starts or not. -/
theorem supplyRequestsAndWarning : Obligations.SupplyRequestsAndWarning := by
  refine ⟨⟨fun l tag ps s m new asked length hm hnew => ?_, fun l tag s asked => ?_⟩, fun s running => ⟨fun silent => ?_, ?_⟩⟩
  · subst hm
    obtain rfl : new = s.supply.given ps := hnew
    rw [exec_setSupply asked length]
    refine ⟨fun bad => ?_, fun clip low high => ?_⟩
    · rw [State.setSupplyBody_refused (s := s.accepted l tag 0x41) _ bad, s.accepted_answer]
    · obtain ⟨st, status, body⟩ := State.setSupplyBody_taken (s := s.accepted l tag 0x41)
        ⟨l, (s.link l).activation, tag, BitVec.ofNat 8 0x41⟩ clip low high
      refine ⟨st, status, congrArg Host.Outcome.next (body.trans ?_)⟩
      exact (s.setSupply (s.supply.given ps)).accepted_answer l tag 0x41 st _
  · rw [exec_supplyStatus asked]
    simp only [Supply.statusBytes, Supply.settingsBytes, byteOf, List.append_assoc]
    cases s.supply.state <;> rfl
  · refine congrArg Host.Outcome.next ((State.warningTimerStep_running running).trans ?_)
    rw [State.startWarning_silent silent]
    rfl
  · intro e v scanned mem set ready unmarked unique quiet free _
    have starts := State.startWarning_plays scanned set (Store.readyClip_some mem ready unmarked unique) quiet free
    have step : exec .warningTimerExpiry s = .next (s.startWarning.setSupply { s.supply with warning := some 60000 }) :=
      congrArg Host.Outcome.next (State.warningTimerStep_running running)
    rw [starts] at step
    refine ⟨_, step, rfl, ?_⟩
    simp only [State.setSupply_voice, State.setSupply_sound, State.startClip_voice, State.startClip_sound, if_true]
    refine ⟨rfl, rfl, rfl, rfl, rfl, rfl, rfl, rfl, rfl, fun w other => if_neg other, ?_⟩
    conv_lhs => rw [State.startClip_frame, State.startClip_sound]
    rfl

end Sys2Proof.Machine
end

section
/-! The supply sample: the readings, the filters and the ceilings (R114 to R117), and the supply states with their effects
(R77, R118 to R120): O39 and O40. -/

namespace Sys2Proof.Machine

/-! ## The duties above the ceiling (R90) -/

/-- The reduction of the duties changes the motion units alone. -/
theorem State.reduceDuties_frame (s : State) : s.reduceDuties = { s with motion := s.reduceDuties.motion } :=
  foldl_induct (R := fun s t : State => t = { s with motion := t.motion }) (fun _ => rfl)
    (fun a b => by rw [b, a]) Port.all (fun _ _ _ => rfl) s

theorem State.reduceDuties_unit (s : State) (x : Port) : s.reduceDuties.unit x = (s.unit x).reduceDuty s.supply.s := by
  obtain ⟨t, before, after⟩ := State.foldl_units
    (fun t p => t.unitWork_modUnit p (f := fun m => m.reduceDuty t.supply.s) fun i => MotionUnit.reduceDuty_inv i _) x s
  have held : t.supply = s.supply := by rw [before.work.frame]
  rw [State.reduceDuties, after.unit, State.modUnit_unit_same, before.unit, held]

/-! ## The effects of a new supply state (R77, R120) -/

/-- Nothing but motion, the supply monitor, the sound engine, the array's reads and the links' queues changes. -/
structure State.EffectWork (s t : State) : Prop where
  frame : t = { s with
    motion := t.motion, pairs := t.pairs, supply := t.supply, store := s.store.withReads t.store, sound := t.sound
    links := t.links }
  links : s.LinksGrow t

theorem State.EffectWork.refl (s : State) : s.EffectWork s := ⟨rfl, .refl s⟩

theorem State.EffectWork.trans {s t u : State} (a : s.EffectWork t) (b : t.EffectWork u) : s.EffectWork u where
  frame := by
    conv_lhs => rw [b.frame, a.frame]
    rfl
  links := a.links.trans b.links

theorem State.VoiceWork.effectWork {s t : State} (h : s.VoiceWork t) : s.EffectWork t := by
  have motion : t.motion = s.motion := by rw [h.frame]
  have pairs : t.pairs = s.pairs := by rw [h.frame]
  have supply : t.supply = s.supply := by rw [h.frame]
  refine ⟨?_, h.links⟩
  rw [motion, pairs, supply]
  exact h.frame

theorem State.MotionWork.effectWork {s t : State} (h : s.MotionWork t) : s.EffectWork t := by
  have store : t.store = s.store := by rw [h.frame]
  have sound : t.sound = s.sound := by rw [h.frame]
  have supply : t.supply = s.supply := by rw [h.frame]
  refine ⟨?_, h.links⟩
  rw [store, sound, supply]
  exact h.frame

theorem State.voiceWork_startWarning (s : State) : s.VoiceWork s.startWarning := by
  unfold State.startWarning
  split
  · exact .refl s
  · split
    · exact .refl s
    · split
      · rename_i allocated
        exact (State.voiceWork_allocate allocated).trans (State.voiceWork_startClip _ _ _ _ _)
      · exact .refl s

theorem State.effectWork_brownoutEntry (s : State) : s.EffectWork s.brownoutEntry :=
  (s.motionWork_stopAll .brownout (state := .coasting) (by decide)).effectWork.trans
    (State.voiceWork_endVoices _ .brownout).effectWork

/-- All motion and all sound have ended in BROWNOUT. -/
structure State.BrownedOut (s : State) : Prop where
  units : ∀ p, (s.unit p).queue = [] ∧ (s.unit p).motor = .coasting ∧ (s.unit p).hold = none ∧ (s.unit p).reg.duty = 0
  pairs : ∀ q r, s.pairAt q = some r → r.queue = []
  voices : ∀ v, (s.voice v).state = .free

theorem State.BrownedOut.of_blocks {s t : State} (h : s.BrownedOut) (motion : t.motion = s.motion) (pairs : t.pairs = s.pairs)
    (sound : t.sound = s.sound) : t.BrownedOut := by
  have unit (p : Port) : t.unit p = s.unit p := congrArg (Six.get · p) motion
  refine ⟨fun p => ?_, fun q r record => h.pairs q r ?_, fun v => ?_⟩
  · rw [unit]; exact h.units p
  · rw [← record, State.pairAt, State.pairAt, pairs]
  · rw [State.voice, sound]; exact h.voices v

theorem State.BrownedOut.notifyAll {s : State} (h : s.BrownedOut) (n : Notice) : (s.notifyAll n).BrownedOut :=
  h.of_blocks rfl rfl rfl

theorem State.brownoutEntry_brownedOut (s : State) : s.brownoutEntry.BrownedOut := by
  have kept := (s.stopAll .brownout .coasting).voiceWork_endVoices .brownout
  obtain ⟨motion, pairs⟩ : s.brownoutEntry.motion = (s.stopAll .brownout .coasting).motion
      ∧ s.brownoutEntry.pairs = (s.stopAll .brownout .coasting).pairs := by
    rw [State.brownoutEntry, kept.frame]
    exact ⟨rfl, rfl⟩
  refine ⟨fun p => ?_, fun q r record => ?_, State.endVoices_free _ .brownout⟩
  · rw [State.unit, motion]
    change ((s.stopAll .brownout .coasting).unit p).queue = [] ∧ ((s.stopAll .brownout .coasting).unit p).motor = .coasting
      ∧ ((s.stopAll .brownout .coasting).unit p).hold = none ∧ ((s.stopAll .brownout .coasting).unit p).reg.duty = 0
    rw [s.stopAll_unit .brownout (by decide), ite_self]
    exact ⟨rfl, rfl, rfl, rfl⟩
  · rw [State.pairAt, pairs] at record
    exact (s.stopAll_atRest .brownout (.inl rfl)).pairs q r record

/-- The effects of a change from one supply state to another. -/
def State.supplyEffects (s : State) (old new : SupplyState) : State :=
  let u := if new = .brownout then s.brownoutEntry else s
  if new = .low ∧ old = .normal then u.startWarning else u

/-- The monitor after a change to a state: the warning timer runs from the entry to LOW and stops with LOW (R121). -/
def Supply.entered (m : Supply) (new : SupplyState) : Supply :=
  { m with state := new, warning := if new = .low then some 60000 else none }

theorem State.changeSupplyState_eq (s : State) (new : SupplyState) : s.changeSupplyState new
    = ((s.setSupply (s.supply.entered new)).supplyEffects s.supply.state new).notifyAll
        (.supplyState new s.supply.state s.supply.vf s.supply.s) := rfl

theorem State.effectWork_supplyEffects (s : State) (old new : SupplyState) : s.EffectWork (s.supplyEffects old new) := by
  unfold State.supplyEffects
  extract_lets u
  have entered : s.EffectWork u := by
    simp only [u]
    split
    · exact s.effectWork_brownoutEntry
    · exact .refl s
  split
  · exact entered.trans u.voiceWork_startWarning.effectWork
  · exact entered

theorem State.supplyEffects_supply (s : State) (old new : SupplyState) : (s.supplyEffects old new).supply = s.supply := by
  unfold State.supplyEffects
  extract_lets u
  have entered : u.supply = s.supply := by
    simp only [u]
    split
    · rw [State.brownoutEntry, State.endVoices_supply, (s.motionWork_stopAll .brownout (by decide)).frame]
    · rfl
  split
  · rw [State.startWarning_supply, entered]
  · exact entered

theorem State.effectWork_changeSupplyState (s : State) (new : SupplyState) : s.EffectWork (s.changeSupplyState new) := by
  have set : s.EffectWork (s.setSupply (s.supply.entered new)) := ⟨rfl, .of_links rfl⟩
  have told (t : State) : t.LinkWork (t.notifyAll (.supplyState new s.supply.state s.supply.vf s.supply.s)) :=
    ⟨rfl, t.linksGrow_notifyAll rfl⟩
  exact (set.trans (State.effectWork_supplyEffects _ _ _)).trans (told _).voiceWork.effectWork

theorem State.changeSupplyState_supply (s : State) (new : SupplyState) :
    (s.changeSupplyState new).supply = s.supply.entered new :=
  (s.setSupply (s.supply.entered new)).supplyEffects_supply s.supply.state new

theorem State.changeSupplyState_brownedOut (s : State) : (s.changeSupplyState .brownout).BrownedOut := by
  have effects (t : State) (old : SupplyState) : t.supplyEffects old .brownout = t.brownoutEntry := by
    simp [State.supplyEffects]
  rw [State.changeSupplyState_eq, effects]
  exact (State.brownoutEntry_brownedOut _).notifyAll _

theorem State.changeSupplyState_told (s : State) (new : SupplyState) {l : LinkId} (active : (s.link l).state = .active) :
    32 ≤ ((s.changeSupplyState new).link l).notices.length
      ∨ ((s.changeSupplyState new).link l).notices.getLast?
        = some (.supplyState new s.supply.state s.supply.vf s.supply.s) := by
  rw [State.changeSupplyState_eq]
  refine State.notifyAll_last _ _ ?_
  exact ((State.effectWork_supplyEffects _ s.supply.state new).links l).state.trans active

/-! ## An offer that no stream follows (R131) -/

theorem StreamEntry.emission_of_kind {e : StreamEntry} {k : SourceKind} (other : e.key.kind ≠ k) {us : List Update}
    (kind : ∀ u ∈ us, u.kind = k) (now : BitVec 32) : e.emission us now = none := by
  refine List.find?_eq_none.mpr fun u mem => ?_
  simp [StreamEntry.follows, kind u mem, other]

theorem State.offerUpdates_links_of_none {s : State} {us : List Update}
    (none : ∀ e ∈ s.streams, e.emission us s.deviceTime = none) : (s.offerUpdates us).links = s.links :=
  foldl_induct (R := fun a b : State => b.links = a.links) (fun _ => rfl) (fun a b => b.trans a) _
    (fun t e mem => by rw [none e mem]) _

/-! ## The supply sample (R114 to R120) -/

/-- The monitor after the readings, the filters and the ceilings of a sample (R114, steps 1 to 5). -/
def Supply.sampled (m : Supply) (vbat : Nat) (isense : Int) : Supply := ((m.read vbat isense).filter).ceilings

section
variable (s : State) (vbat : Nat) (isense : Int)

/-- The machine after a sample and the reduction of the duties, before a change of the supply state. -/
def State.sampled : State := (s.setSupply (s.supply.sampled vbat isense)).reduceDuties

/-- The machine after the change of the supply state, if there is one, before the offer to the subscription table. -/
def State.settledSupply : State :=
  let m := s.supply.sampled vbat isense
  if m.nextState = m.state then s.sampled vbat isense else (s.sampled vbat isense).changeSupplyState m.nextState

theorem exec_supplySample : ∃ u : Update, u.kind = .supply
    ∧ exec (.supplySample vbat isense) s = .next ((s.settledSupply vbat isense).offerUpdates [u]) := ⟨_, rfl, rfl⟩

theorem State.sampled_frame : s.sampled vbat isense = { s with
    supply := s.supply.sampled vbat isense, motion := (s.sampled vbat isense).motion } := State.reduceDuties_frame _

theorem State.sampled_supply : (s.sampled vbat isense).supply = s.supply.sampled vbat isense := by
  rw [State.sampled_frame]

theorem State.effectWork_sampled : s.EffectWork (s.sampled vbat isense) := by
  rw [State.sampled_frame]
  exact ⟨rfl, .of_links rfl⟩

theorem State.sampled_unit (x : Port) : (s.sampled vbat isense).unit x
    = (s.unit x).reduceDuty (s.supply.sampled vbat isense).s := State.reduceDuties_unit _ x

theorem State.settledSupply_same (same : (s.supply.sampled vbat isense).nextState = s.supply.state) :
    s.settledSupply vbat isense = s.sampled vbat isense := if_pos same

theorem State.settledSupply_changed (changed : (s.supply.sampled vbat isense).nextState ≠ s.supply.state) :
    s.settledSupply vbat isense
      = (s.sampled vbat isense).changeSupplyState (s.supply.sampled vbat isense).nextState := if_neg changed

theorem State.effectWork_settledSupply : s.EffectWork (s.settledSupply vbat isense) := by
  by_cases same : (s.supply.sampled vbat isense).nextState = s.supply.state
  · rw [s.settledSupply_same vbat isense same]
    exact s.effectWork_sampled vbat isense
  · rw [s.settledSupply_changed vbat isense same]
    exact (s.effectWork_sampled vbat isense).trans (State.effectWork_changeSupplyState _ _)

/-- The monitor after a sample: as sampled, in its next state, with the warning timer of a change. -/
theorem State.settledSupply_supply : (s.settledSupply vbat isense).supply = { s.supply.sampled vbat isense with
    state := (s.supply.sampled vbat isense).nextState
    warning := if (s.supply.sampled vbat isense).nextState = s.supply.state then s.supply.warning
      else if (s.supply.sampled vbat isense).nextState = .low then some 60000 else none } := by
  by_cases same : (s.supply.sampled vbat isense).nextState = s.supply.state
  · rw [s.settledSupply_same vbat isense same, State.sampled_supply, if_pos same, same]
    rfl
  · rw [s.settledSupply_changed vbat isense same, if_neg same, State.changeSupplyState_supply, State.sampled_supply]
    rfl

end

/-- Settles O39: the monitor is `Supply.sampled`, and what a change of the supply state does leaves the settings, the ports,
the claims and the clips. -/
theorem supplySampleFormsCeilings : Obligations.SupplySampleFormsCeilings := by
  intro vbat isense s v i vf iflt m hm hv hi hvf hiflt
  obtain ⟨u, -, step⟩ := exec_supplySample s vbat isense
  have supply := s.settledSupply_supply vbat isense
  have kept := (s.effectWork_settledSupply vbat isense).frame
  obtain ⟨w, hw⟩ : ∃ w, w = s.settledSupply vbat isense := ⟨_, rfl⟩
  rw [← hw] at step supply kept
  refine ⟨_, step, ?_⟩
  rw [w.offerUpdates_frame]
  simp only [supply]
  rw [← clamp_eq_max_min (by decide)] at hi
  subst hm hv hi hvf hiflt
  refine ⟨rfl, rfl, rfl, rfl, rfl, rfl, rfl, rfl, rfl, rfl, rfl, rfl, rfl, rfl, ?_⟩
  rw [kept]
  exact ⟨rfl, rfl, rfl, rfl, rfl, rfl, rfl, rfl⟩

/-- Settles O40: the next state is `Supply.nextState` of the sampled monitor, and its effects those of
`State.changeSupplyState`. -/
theorem supplyStateChanges : Obligations.SupplyStateChanges := by
  intro vbat isense s vf low new m hm hvf hlow hnew
  subst hm
  have next : new = (s.supply.sampled vbat isense).nextState := by
    subst hvf hlow
    exact hnew
  obtain ⟨u, kind, step⟩ := exec_supplySample s vbat isense
  have supply := s.settledSupply_supply vbat isense
  have work := s.effectWork_settledSupply vbat isense
  have offered := (s.settledSupply vbat isense).offerUpdates_frame [u]
  have same := s.settledSupply_same vbat isense
  have changed := s.settledSupply_changed vbat isense
  rw [← next] at supply same changed
  obtain ⟨w, hw⟩ : ∃ w, w = s.settledSupply vbat isense := ⟨_, rfl⟩
  rw [← hw] at step supply work offered same changed
  obtain ⟨t, ht⟩ : ∃ t, t = w.offerUpdates [u] := ⟨_, rfl⟩
  rw [← ht] at step offered
  have monitor : t.supply = w.supply := by rw [offered]
  have motion : t.motion = w.motion := by rw [offered]
  have pairs : t.pairs = w.pairs := by rw [offered]
  have sound : t.sound = w.sound := by rw [offered]
  have store : t.store = w.store := by rw [offered]
  refine ⟨t, step, by rw [monitor, supply], by rw [monitor, supply], fun brownout entered => ?_, fun stays => ?_,
    fun moves quiet l active => ?_⟩
  · have ended : t.BrownedOut := by
      refine State.BrownedOut.of_blocks ?_ motion pairs sound
      rw [changed (brownout ▸ entered.symm), brownout]
      exact State.changeSupplyState_brownedOut _
    exact ⟨ended.units, ended.pairs, ended.voices⟩
  · have reduced : w = _ := (same stays).trans (s.sampled_frame vbat isense)
    have unit (p : Port) : t.unit p = (s.unit p).reduceDuty (s.supply.sampled vbat isense).s := by
      rw [State.unit, motion, same stays]
      exact s.sampled_unit vbat isense p
    refine ⟨by rw [sound, reduced], by rw [store, reduced], by rw [pairs, reduced], fun p => ?_⟩
    rw [unit, MotionUnit.reduceDuty_kept]
    exact ⟨rfl, rfl⟩
  · have streams : w.streams = s.streams := by rw [work.frame]
    have links : t.links = w.links := by
      rw [ht]
      refine State.offerUpdates_links_of_none fun e mem => ?_
      exact StreamEntry.emission_of_kind (quiet e (streams ▸ mem)) (by simp [kind]) _
    have told := State.changeSupplyState_told (s := s.sampled vbat isense) new
      (((s.effectWork_sampled vbat isense).links l).state.trans active)
    rw [← changed moves, State.sampled_supply] at told
    rw [State.link, links, monitor, supply, hvf]
    exact told

end Sys2Proof.Machine
end

section
/-! How a notice joins a link's queue (R133): O42. -/

namespace Sys2Proof.Machine

/-! ## DATA notices (R133) -/

section
variable (d : DataNotice) (k : Link)

theorem Link.any_isDataFor_iff : k.notices.any (Notice.isDataFor d.entry) = true ↔ some d.entry ∈ k.notices.map Notice.dataEntry := by
  simp [Notice.isDataFor_eq_true]

/-- All that a DATA notice can do to a link: it takes the place of the held one of its entry, joins a queue with room, or is
skipped. -/
theorem Link.pushData_cases :
    k.pushData d = k ∧ k.state ≠ .active
      ∨ (k.pushData d).notices = k.notices.map (Notice.replaceData d)
        ∧ k.pushData d = { k with notices := (k.pushData d).notices, transfer := (k.pushData d).transfer }
        ∧ k.state = .active ∧ some d.entry ∈ k.notices.map Notice.dataEntry
      ∨ k.pushData d = (if k.notices.length < 32 then { k with notices := k.notices ++ [.data { d with merged := 0 }] } else k)
        ∧ k.state = .active ∧ some d.entry ∉ k.notices.map Notice.dataEntry := by
  unfold Link.pushData
  split
  · rename_i active
    split
    · rename_i held; exact .inr (.inl ⟨rfl, rfl, active, (k.any_isDataFor_iff d).mp held⟩)
    · rename_i new; exact .inr (.inr ⟨rfl, active, fun held => new ((k.any_isDataFor_iff d).mpr held)⟩)
  · rename_i idle; exact .inl ⟨rfl, idle⟩

theorem Link.length_pushData (h : k.notices.length ≤ 32) : (k.pushData d).notices.length ≤ 32 := by
  obtain ⟨e, -⟩ | ⟨e, -⟩ | ⟨e, -⟩ := k.pushData_cases d <;> rw [e]
  · exact h
  · simpa using h
  · split
    · simp only [List.length_append, List.length_singleton]; omega
    · exact h

end

theorem Link.length_pushEvent (n : Notice) (k : Link) (h : k.notices.length ≤ 32) : (k.pushEvent n).notices.length ≤ 32 := by
  obtain ⟨e, -⟩ | ⟨e, -, room⟩ | ⟨e, -⟩ := Link.pushEvent_cases n k <;> rw [e]
  · exact h
  · simp only [List.length_append, List.length_singleton]; omega
  · exact h

theorem Notice.dataEntry_eq_none {n : Notice} (h : ∀ x, n ≠ .data x) : n.dataEntry = none := by
  cases n with
  | data x => exact absurd rfl (h x)
  | _ => rfl

theorem Notice.replaceData_of_other {d : DataNotice} {n : Notice} (h : n.dataEntry ≠ some d.entry) :
    Notice.replaceData d n = n := by
  cases n with
  | data x => simp [Notice.replaceData, show x.entry ≠ d.entry from fun e => h (congrArg some e)]
  | _ => rfl

/-- With no two DATA notices of one entry, the newer values touch the held notice alone. -/
theorem map_replaceData {d held : DataNotice} {pre post : List Notice} (same : held.entry = d.entry)
    (distinct : ((pre ++ .data held :: post).filterMap Notice.dataEntry).Nodup) :
    (pre ++ .data held :: post).map (Notice.replaceData d)
      = pre ++ .data { d with merged := min 255 (held.merged + 1) } :: post := by
  have split : (pre ++ .data held :: post).filterMap Notice.dataEntry
      = pre.filterMap Notice.dataEntry ++ d.entry :: post.filterMap Notice.dataEntry := by
    simp [Notice.dataEntry, same]
  rw [split, List.nodup_middle, List.nodup_cons, List.mem_append, not_or] at distinct
  obtain ⟨⟨before, after⟩, -⟩ := distinct
  have kept (ns : List Notice) (h : d.entry ∉ ns.filterMap Notice.dataEntry) : ns.map (Notice.replaceData d) = ns :=
    (List.map_congr_left fun n hn =>
      Notice.replaceData_of_other fun e => h (List.mem_filterMap.mpr ⟨n, hn, e⟩)).trans (List.map_id ns)
  rw [List.map_append, List.map_cons, kept pre before, kept post after]
  simp [Notice.replaceData, same]

/-- Settles O42, from the cases of the two ways a notice joins a queue. -/
theorem noticesJoinQueue : Obligations.NoticesJoinQueue := by
  intro k n d
  refine ⟨fun idle => ?_, fun active room => ?_, fun active full => ?_, fun active new => ?_,
    fun pre held post active queue same distinct => ?_, fun short distinct => ?_⟩
  · exact ⟨by simp [Link.pushEvent, idle], by simp [Link.pushData, idle]⟩
  · simp [Link.pushEvent, active, room]
  · simp [Link.pushEvent, active, Nat.not_lt.mpr full]
  · obtain ⟨-, idle⟩ | ⟨-, -, -, held⟩ | ⟨e, -⟩ := k.pushData_cases d
    · exact absurd active idle
    · exact absurd held new
    · exact e
  · obtain ⟨-, idle⟩ | ⟨notices, frame, -⟩ | ⟨-, -, new⟩ := k.pushData_cases d
    · exact absurd active idle
    · refine ⟨?_, by rw [frame]⟩
      rw [notices, queue]
      exact map_replaceData same (queue ▸ distinct)
    · exact absurd (by simp [queue, Notice.dataEntry, same]) new
  · refine ⟨k.length_pushData d short, (k.grows_pushData d).distinct distinct, fun event => ?_⟩
    exact ⟨Link.length_pushEvent n k short, (Link.grows_pushEvent (Notice.dataEntry_eq_none event) k).distinct distinct⟩

end Sys2Proof.Machine
end

section
/-! The bounds of a link (R133, R174, R179): what the changes of one link keep, and what the shared operations keep of both
links. The groundwork of O57. -/

namespace Sys2Proof.Machine

/-! ## One link -/

section
variable {k : Link} (h : k.inv)
include h

/-- A link that loses messages, and keeps its state and its age timer, keeps its bounds. -/
theorem Link.inv_of_fewer {j : Link} (requests : j.inbound.Sublist k.inbound) (notices : j.notices.Sublist k.notices)
    (quiet : j.quiet = k.quiet) (timer : j.ageTimer = k.ageTimer) (state : j.state = k.state) : j.inv := by
  obtain ⟨few, short, distinct, calm, runs⟩ := h
  exact ⟨requests.length_le.trans few, notices.length_le.trans short, distinct.sublist (notices.filterMap _), quiet ▸ calm,
    by rw [timer, state]; exact runs⟩

/-- What the notice queue's bounds ask of new notices. -/
theorem Link.inv_of_notices {ns : List Notice} (short : ns.length ≤ 32) (distinct : (ns.filterMap Notice.dataEntry).Nodup) :
    ({ k with notices := ns } : Link).inv := by
  obtain ⟨few, -, -, rest⟩ := h
  exact ⟨few, short, distinct, rest⟩

theorem Link.inv_pushEvent {n : Notice} (event : n.dataEntry = none) : (k.pushEvent n).inv := by
  have ⟨_, few, once, _⟩ := h
  have short := Link.length_pushEvent n k few
  have distinct := (Link.grows_pushEvent event k).distinct once
  obtain ⟨e, -⟩ | ⟨e, -⟩ | ⟨e, -⟩ := Link.pushEvent_cases n k <;> rw [e] at short distinct ⊢
  · exact h
  · exact Link.inv_of_notices h short distinct
  · exact h

theorem Link.inv_pushData (d : DataNotice) : (k.pushData d).inv := by
  have ⟨_, few, once, _⟩ := h
  have short := k.length_pushData d few
  have distinct := (k.grows_pushData d).distinct once
  obtain ⟨e, -⟩ | ⟨-, e, -⟩ | ⟨e, -⟩ := k.pushData_cases d
  · rw [e]; exact h
  · rw [e]; exact Link.inv_of_notices h short distinct
  · rw [e] at short distinct ⊢
    split at short
    · rename_i room; rw [if_pos room] at *; exact Link.inv_of_notices h short distinct
    · rename_i full; rw [if_neg full]; exact h

theorem Link.inv_dropData (entry : Nat) : (k.dropData entry).inv :=
  Link.inv_of_fewer h (List.Sublist.refl _) List.filter_sublist rfl rfl rfl

theorem Link.inv_removePicked (t : Transfer) (clocked : Nat) : (k.removePicked t clocked).inv := by
  unfold Link.removePicked
  repeat' split
  · exact h
  · exact Link.inv_of_fewer h (List.Sublist.refl _) (List.drop_sublist 1 _) rfl rfl rfl
  · exact Link.inv_of_fewer h (List.Sublist.refl _) (List.drop_sublist 1 _) rfl rfl rfl
  · exact h
  · exact h

/-- An entry to ACTIVE starts the age timer (R179). -/
theorem Link.inv_frameArrives : k.frameArrives.inv := by
  have ⟨few, short, distinct, _, _⟩ := h
  unfold Link.frameArrives
  split
  · exact ⟨few, short, distinct, Nat.zero_le _, by simp⟩
  · exact h
  · exact ⟨few, short, distinct, Nat.zero_le _, by simp⟩

/-- A request joins the inbound queue below a count of 8 alone (R174). -/
theorem Link.inv_acceptFrame (f : Frame) : (k.acceptFrame f).inv := by
  unfold Link.acceptFrame
  split
  · exact h
  · exact h
  · split
    · rename_i room
      obtain ⟨-, rest⟩ := h
      refine ⟨?_, rest⟩
      simp only [Link.count] at room
      simp only [List.length_append, List.length_singleton]
      omega
    · exact h

theorem Link.inv_selRise (clocked : List Byte) (midByte : Bool) : (k.selRise clocked midByte).inv := by
  unfold Link.selRise
  split
  · exact h
  · rename_i t _
    extract_lets removed j
    have arrived : j.inv := Link.inv_frameArrives (k := { removed with transfer := none }) (Link.inv_removePicked h t _)
    split
    · exact arrived
    · exact Link.inv_acceptFrame arrived _

theorem Link.inv_ageTick (active : k.state = .active) : k.ageTick.inv := by
  obtain ⟨few, short, distinct, -, -⟩ := h
  refine ⟨few, short, distinct, ?_, by simp [Link.ageTick, active]⟩
  simp only [Link.ageTick]
  split
  · exact Nat.zero_le _
  · exact Nat.min_le_left _ _

theorem Link.inv_emptied : k.emptied.inv :=
  Link.inv_of_fewer h (List.nil_sublist _) (List.nil_sublist _) rfl rfl rfl

/-- A link that is not ACTIVE has its age timer stopped (R180, R181). -/
theorem Link.inv_inactive {j : Link} (inbound : j.inbound = k.inbound) (notices : j.notices = k.notices) (quiet : j.quiet ≤ 15)
    (timer : j.ageTimer = none) (state : j.state ≠ .active) : j.inv := by
  obtain ⟨few, short, distinct, -, -⟩ := h
  exact ⟨inbound ▸ few, notices ▸ short, notices ▸ distinct, quiet, by simp [timer, state]⟩

theorem Link.inv_tick : ({ k with ageTimer := countDown k.ageTimer } : Link).inv := by
  obtain ⟨few, short, distinct, quiet, timer⟩ := h
  exact ⟨few, short, distinct, quiet, by simpa [countDown] using timer⟩

end

theorem Link.inv_restart (k : Link) : k.restart.inv := by
  have reset : Link.afterReset.inv := by decide
  exact reset

/-! ## Both links -/

/-- Both links are within their bounds. This speaks of the links alone: a change of other blocks keeps it by its definition. -/
def State.LinksInv (s : State) : Prop := ∀ l, (s.link l).inv

theorem State.linksInv_foldl {β : Type} {f : State → β → State} (step : ∀ t x, State.LinksInv t → (f t x).LinksInv)
    (xs : List β) {s : State} (h : s.LinksInv) : (xs.foldl f s).LinksInv :=
  foldl_induct (R := fun s t : State => s.LinksInv → t.LinksInv) (fun _ => id) (fun a b => b ∘ a) xs
    (fun t x _ => step t x) s h

theorem State.linksInv_restart (s : State) (stop : Bool) (vbat : Nat) (isense : Int) :
    (s.restart stop vbat isense).LinksInv := by
  intro l
  cases l
  · exact s.links.cl0.inv_restart
  · exact s.links.cl1.inv_restart

section
variable {s : State} (h : s.LinksInv)
include h

theorem State.LinksInv.of_links {t : State} (e : t.links = s.links) : t.LinksInv := by
  intro l
  rw [State.link, e]
  exact h l

theorem State.LinksInv.setLink {l : LinkId} {k : Link} (i : k.inv) : (s.setLink l k).LinksInv := by
  intro j
  rw [State.setLink_link]
  split
  · exact i
  · exact h j

theorem State.LinksInv.tick : s.tick.LinksInv := by
  intro l
  cases l
  · exact Link.inv_tick (h .cl0)
  · exact Link.inv_tick (h .cl1)

/-! ### Requests, replies and notices -/

theorem State.LinksInv.notify (l : LinkId) {n : Notice} (event : n.dataEntry = none) : (s.notify l n).LinksInv :=
  h.setLink (Link.inv_pushEvent (h l) event)

theorem State.LinksInv.notifyAll {n : Notice} (event : n.dataEntry = none) : (s.notifyAll n).LinksInv :=
  (h.notify .cl0 event).notify .cl1 event

theorem State.LinksInv.answer (r : ReplyTo) (st : Status) (payload : List Byte) : (s.answer r st payload).LinksInv := by
  unfold State.answer
  split
  · exact h.setLink (h r.link)
  · exact h

theorem State.LinksInv.answers {β : Type} (xs : List β) (dest : β → ReplyTo) (st : Status) :
    (xs.foldl (fun t x => t.answer (dest x) st []) s).LinksInv :=
  State.linksInv_foldl (fun _ _ i => i.answer _ _ _) xs h

theorem State.LinksInv.take {t : State} {l : LinkId} {req : Request} (take : s.take l req = some t) : t.LinksInv := by
  unfold State.take at take
  split at take
  · cases take
  · rename_i r rest queue
    split at take
    · cases take
      refine h.setLink (Link.inv_of_fewer (h l) ?_ (List.Sublist.refl _) rfl rfl rfl)
      rw [queue]
      exact List.sublist_cons_self r rest
    · cases take

theorem State.LinksInv.serve (l : LinkId) (tag : Byte) (code : Nat) (ps : List Byte) {body : ReplyTo → State → State}
    (k : ∀ r t, State.LinksInv t → (body r t).LinksInv) : (s.serve l tag code ps body).LinksInv := by
  unfold State.serve
  split
  · exact h
  · rename_i take
    extract_lets r
    split
    · exact k r _ (h.take take)
    · exact (h.take take).answer _ _ _

/-! ### The subscription table (chapter 8) -/

theorem State.LinksInv.offerData (e : StreamEntry) (u : Update) : (s.offerData e u).LinksInv := by
  refine State.linksInv_foldl (fun t l i => ?_) _ h
  split
  · exact i.setLink (Link.inv_pushData (i l) _)
  · exact i

theorem State.LinksInv.offerUpdates (us : List Update) : (s.offerUpdates us).LinksInv := by
  have sent : (s.setStreams (s.streams.map fun e => e.sent us s.deviceTime)).LinksInv := h
  refine State.linksInv_foldl (fun t e i => ?_) _ sent
  split
  · exact i.offerData e _
  · exact i

theorem State.LinksInv.offerMotion (p : Port) : (s.offerMotion p).LinksInv := by
  unfold State.offerMotion
  split
  · exact h.offerUpdates _
  · exact h

theorem State.LinksInv.endStreamFor (e : StreamEntry) (l : LinkId) : (s.endStreamFor e l).LinksInv := by
  unfold State.endStreamFor
  split
  · exact (h.setLink (Link.inv_dropData (h l) e.id)).notify l rfl
  · exact h

theorem State.LinksInv.removeStreams (p : Port) : (s.removeStreams p).LinksInv :=
  State.linksInv_foldl (fun _ e i => State.linksInv_foldl (fun _ l j => j.endStreamFor e l) _ i)
    (s.streams.filter fun e => e.key.port == some p) h

theorem State.LinksInv.subscribeBody (r : ReplyTo) (ps : List Byte) : (s.subscribeBody r ps).LinksInv := by
  unfold State.subscribeBody
  repeat' split
  · exact h.answer _ _ _
  · exact h.answer _ _ _
  · extract_lets
    split
    · exact h.answer _ _ _
    · rename_i joined
      refine State.LinksInv.answer ?_ _ _ _
      unfold State.joinStream at joined
      split at joined
      · cases joined; exact h
      · obtain ⟨m, -, e⟩ := Option.map_eq_some_iff.mp joined
        cases e; exact h

theorem State.LinksInv.unsubscribeBody (r : ReplyTo) (ps : List Byte) : (s.unsubscribeBody r ps).LinksInv := by
  unfold State.unsubscribeBody
  split
  · split
    · extract_lets members t
      have dropped : t.LinksInv := h.setLink (Link.inv_dropData (h r.link) _)
      refine State.LinksInv.answer ?_ _ _ _
      exact dropped
    · exact h.answer _ _ _
  · exact h.answer _ _ _

/-! ### Motion units (chapter 4) -/

theorem State.LinksInv.endNotice (p : Port) (q : Option PairId) (g : Segment) (o : SegOutcome) (n : Nat) :
    (s.endNotice p q g o n).LinksInv := by
  unfold State.endNotice
  split
  · exact h.notify _ rfl
  · exact h

theorem State.LinksInv.endQueue (p : Port) (active waiting : SegOutcome) : (s.endQueue p active waiting).LinksInv := by
  unfold State.endQueue
  split
  · exact h
  · exact State.linksInv_foldl (fun _ g i => i.endNotice p none g waiting 0) _ (h.endNotice p none _ active _)

theorem State.LinksInv.abortSegment (p : Port) (o : SegOutcome) : (s.abortSegment p o).LinksInv := by
  unfold State.abortSegment
  split
  · exact h
  · exact h.endQueue p o .flushed

theorem State.LinksInv.activate (p : Port) (prev : Option Bool) : (s.activate p prev).LinksInv := by
  unfold State.activate
  split
  · exact h
  · extract_lets t
    have active : t.LinksInv := h
    split
    · exact active
    · exact active.abortSegment p _

theorem State.LinksInv.finishSegment (p : Port) (o : SegOutcome) : (s.finishSegment p o).LinksInv := by
  unfold State.finishSegment
  split
  · exact h
  · exact h.abortSegment p o
  · refine State.LinksInv.activate ?_ p _
    exact h.endNotice p none _ o _

theorem State.LinksInv.placeSegment (p : Port) (g : Segment) (replace : Bool) (taken : Option Segment) :
    (s.placeSegment p g replace taken).LinksInv := by
  unfold State.placeSegment
  extract_lets held prev
  split
  · refine State.LinksInv.activate ?_ p prev
    exact h.endQueue p _ _
  · exact h

/-! ### Pairs (chapter 6) -/

theorem State.LinksInv.endPairQueue (q : PairId) (active waiting : SegOutcome) :
    (s.endPairQueue q active waiting).LinksInv := by
  unfold State.endPairQueue
  repeat' split
  · exact h
  · exact h
  · exact State.linksInv_foldl (fun _ g i => i.endNotice _ _ g.seg waiting 0) _ (h.endNotice _ _ _ active _)

theorem State.LinksInv.abortPair (q : PairId) (o : SegOutcome) : (s.abortPair q o).LinksInv := by
  unfold State.abortPair
  repeat' split
  · exact h
  · exact h
  · exact h.endPairQueue q o .flushed

theorem State.LinksInv.carryRamp (r : PairRec) (g : PairSegment) (prev : Option Lead) : (s.carryRamp r g prev).LinksInv := by
  unfold State.carryRamp
  split <;> exact h

theorem State.LinksInv.activatePair (q : PairId) (prev : Option Lead) : (s.activatePair q prev).LinksInv := by
  unfold State.activatePair
  split
  · exact h
  · split
    · exact h
    · extract_lets t
      have active : t.LinksInv := h
      split
      · exact active.carryRamp _ _ prev
      · exact active.abortPair q _

theorem State.LinksInv.finishPair (q : PairId) (o : SegOutcome) : (s.finishPair q o).LinksInv := by
  unfold State.finishPair
  repeat' split
  · exact h
  · exact h
  · exact h.abortPair q o
  · refine State.LinksInv.activatePair ?_ q _
    exact h.endNotice _ _ _ o _

theorem State.LinksInv.dissolvePair (q : PairId) (o : SegOutcome) : (s.dissolvePair q o).LinksInv := by
  unfold State.dissolvePair
  split
  · exact h
  · exact h.endPairQueue q o o

theorem State.LinksInv.placePairSegment (q : PairId) (x : PairRec) (g : PairSegment) (replace : Bool)
    (taken : Option PairSegment) : (s.placePairSegment q x g replace taken).LinksInv := by
  unfold State.placePairSegment
  extract_lets prev
  split
  · refine State.LinksInv.activatePair ?_ q prev
    exact h.endPairQueue q _ _
  · exact h

/-! ### Events taken by every unit and pair (R67, R69, R75, R77) -/

theorem State.LinksInv.testConditions (p : Port) (r : SampleRec) : (s.testConditions p r).LinksInv := by
  refine State.linksInv_foldl (fun t q i => ?_) _ (State.linksInv_foldl (fun t u i => ?_) _ h)
  · repeat' split
    · exact i.finishPair q _
    · exact i
    · exact i
  · repeat' split
    · exact i.finishSegment u _
    · exact i
    · exact i

theorem State.LinksInv.sourceLost (p : Port) (mode : Option Nat) : (s.sourceLost p mode).LinksInv := by
  refine State.linksInv_foldl (fun t q i => ?_) _ (State.linksInv_foldl (fun t u i => ?_) _ h)
  · repeat' split
    · exact i.abortPair q _
    · exact i
    · exact i
    · exact i
  · repeat' split
    · exact i.abortSegment u _
    · exact i
    · exact i

theorem State.LinksInv.stopAll (o : SegOutcome) (state : MotorState) : (s.stopAll o state).LinksInv :=
  State.linksInv_foldl (fun _ q i => i.endPairQueue q o o) _
    (State.linksInv_foldl (f := fun t p => (t.endQueue p o o).settleUnit p state) (fun _ p i => i.endQueue p o o) _ h)

theorem State.LinksInv.setHalted (b : Bool) : (s.setHalted b).LinksInv := h

/-! ### The regulation event (chapters 5 and 6.4) -/

theorem State.LinksInv.regulatePort (p : Port) (g : Segment) (a : Activation) (d : Int) (count : Nat) :
    (s.regulatePort p g a d count).LinksInv := by
  unfold State.regulatePort
  extract_lets m
  split
  extract_lets count'
  split
  extract_lets m2 timer a' t
  have driven : t.LinksInv := h
  unfold State.stallPort
  repeat' split
  · exact driven
  · exact driven.finishSegment p _
  · exact driven.abortSegment p _
  · exact driven

theorem State.LinksInv.regulateSingle (p : Port) : (s.regulateSingle p).LinksInv := by
  unfold State.regulateSingle
  extract_lets m
  split
  · extract_lets d count
    repeat' split
    · exact h.finishSegment p _
    · exact h.regulatePort p _ _ _ _
    · exact h
  all_goals exact h

theorem State.LinksInv.drivePaired (q : PairId) (r : PairRec) (g : PairSegment) (side : Lead) (target : Int) :
    (s.drivePaired q r g side target).LinksInv := by
  unfold State.drivePaired
  extract_lets p m timer t
  have driven : t.LinksInv := h
  repeat' split
  · exact driven
  · exact driven.finishPair q _
  · exact driven.abortPair q _
  · exact driven

theorem State.LinksInv.regulateLead (q : PairId) (r : PairRec) (g : PairSegment) (a : PairActivation) :
    (s.regulateLead q r g a).LinksInv := by
  unfold State.regulateLead
  extract_lets p m d
  split
  · exact h.finishPair q _
  · split
    split
    refine State.LinksInv.drivePaired ?_ _ _ _ _ _
    exact h

theorem State.LinksInv.regulatePartner (q : PairId) (r : PairRec) (g : PairSegment) :
    (s.regulatePartner q r g).LinksInv := by
  unfold State.regulatePartner
  refine State.LinksInv.drivePaired ?_ _ _ _ _ _
  exact h

theorem State.LinksInv.regulationStep (p : Port) : (s.regulationStep p).LinksInv := by
  unfold State.regulationStep
  extract_lets t u
  have estimated : t.LinksInv := h
  refine State.LinksInv.offerMotion ?_ p
  simp only [u]
  repeat' split
  · exact estimated.regulateLead _ _ _ _
  · exact estimated.regulatePartner _ _ _
  all_goals exact estimated.regulateSingle p

end

end Sys2Proof.Machine
end

section
/-! Both links stay within their bounds through the claims, the requests of the motion units and pairs, the clip store and the
sound engine (chapters 3, 4, 6, 9 and 10). -/

namespace Sys2Proof.Machine

section
variable {s : State} (h : s.LinksInv)
include h

/-! ## Claims (R45 to R54) -/

theorem State.LinksInv.settleClaim (p : Port) (e : Option Settlement) : (s.settleClaim p e).LinksInv :=
  h.of_links (s.settleClaim_links p e)

theorem State.LinksInv.claimRule {t : State} {l : LinkId} {p : Port} {code : Byte} {e : Option Settlement}
    (claim : s.claimRule l p code = .ok (t, e)) : t.LinksInv := by
  unfold State.claimRule at claim
  repeat' split at claim
  all_goals cases claim
  · exact h
  · exact h
  · refine State.LinksInv.notify ?_ _ rfl
    exact h.endQueue p _ _

theorem State.LinksInv.claiming (r : ReplyTo) (ps : List Byte) {body : State → Port → Option Settlement → State}
    (k : ∀ t p e, State.LinksInv t → (body t p e).LinksInv) : (s.claiming r ps body).LinksInv := by
  unfold State.claiming
  split
  · exact h.answer _ _ _
  · split
    · exact h.answer _ _ _
    · rename_i claim
      unfold State.claimPort at claim
      repeat' split at claim
      · cases claim
      · cases claim
      · exact k _ _ _ (h.claimRule claim)

theorem State.LinksInv.settlePairClaim (r : PairRec) (e : Option PairSettlement) : (s.settlePairClaim r e).LinksInv := by
  unfold State.settlePairClaim
  split <;> exact h

theorem State.LinksInv.claimPair {t : State} {l : LinkId} {q : PairId} {r : PairRec} {code : Byte}
    {e : Option PairSettlement} (claim : s.claimPair l q r code = .ok (t, e)) : t.LinksInv := by
  unfold State.claimPair at claim
  repeat' split at claim
  all_goals cases claim
  · exact h
  · exact h
  · refine State.LinksInv.notify (State.LinksInv.notify ?_ _ rfl) _ rfl
    exact h.endPairQueue q _ _

theorem State.LinksInv.claimingPair (r : ReplyTo) (id : Nat)
    {body : State → PairId → PairRec → Option PairSettlement → State}
    (k : ∀ t q x e, State.LinksInv t → (body t q x e).LinksInv) : (s.claimingPair r id body).LinksInv := by
  unfold State.claimingPair
  repeat' split
  · exact h.answer _ _ _
  · exact h.answer _ _ _
  · exact h.answer _ _ _
  · rename_i claim
    exact k _ _ _ _ (h.claimPair claim)

theorem State.LinksInv.lockBody (r : ReplyTo) (ps : List Byte) : (s.lockBody r ps).LinksInv := by
  unfold State.lockBody
  split
  · refine h.claiming r _ fun t p e i => State.LinksInv.answer (State.LinksInv.settleClaim ?_ p e) _ _ _
    exact i
  · refine h.claimingPair r _ fun t q x e i => State.LinksInv.answer (State.LinksInv.settlePairClaim ?_ x e) _ _ _
    exact i
  · exact h.answer _ _ _

theorem State.LinksInv.unlockBody (r : ReplyTo) (ps : List Byte) : (s.unlockBody r ps).LinksInv := by
  unfold State.unlockBody
  split
  · exact h.answer _ _ _
  all_goals
    refine State.LinksInv.answer ?_ _ _ _
    exact h

theorem State.LinksInv.freePort (p : Port) (o : SegOutcome) (state : MotorState) : (s.freePort p o state).LinksInv :=
  h.endQueue p o o

theorem State.LinksInv.freePair (q : PairId) (r : PairRec) (o : SegOutcome) (state : MotorState) :
    (s.freePair q r o state).LinksInv := h.endPairQueue q o o

theorem State.LinksInv.releaseBody (r : ReplyTo) (ps : List Byte) : (s.releaseBody r ps).LinksInv := by
  unfold State.releaseBody
  split
  · exact h.answer _ _ _
  · exact (h.freePort _ _ _).answer _ _ _
  · exact (h.freePair _ _ _ _).answer _ _ _

theorem State.LinksInv.releasePort (l : LinkId) (p : Port) : (s.releasePort l p).LinksInv := by
  unfold State.releasePort
  extract_lets state
  repeat' split
  · exact h.freePair _ _ _ _
  · exact h
  · exact h.freePort p _ _
  · exact h

/-! ## Requests of the motion units (R60 to R79) -/

theorem State.LinksInv.moveBody (r : ReplyTo) (p : Port) (e : Option Settlement) (ps : List Byte) :
    (s.moveBody r p e ps).LinksInv := by
  unfold State.moveBody
  split
  · exact (h.settleClaim p e).answer _ _ _
  · extract_lets g t
    have placed : t.LinksInv := h.placeSegment p g _ _
    split
    · exact placed.answer _ _ _
    · exact placed.answer _ _ _

theorem State.LinksInv.stopBody (r : ReplyTo) (p : Port) (e : Option Settlement) (ps : List Byte) :
    (s.stopBody r p e ps).LinksInv := by
  unfold State.stopBody
  repeat' split
  · exact (h.settleClaim p e).answer _ _ _
  · exact h.answer _ _ _
  · refine State.LinksInv.answer ?_ _ _ _
    exact h.endQueue p _ _

theorem State.LinksInv.setRegulatorBody (r : ReplyTo) (p : Port) (e : Option Settlement) (ps : List Byte) :
    (s.setRegulatorBody r p e ps).LinksInv := by
  unfold State.setRegulatorBody
  split
  · extract_lets t
    have given : t.LinksInv := h
    exact (given.settleClaim p e).answer _ _ _
  · exact (h.settleClaim p e).answer _ _ _

theorem State.LinksInv.setPositionBody (r : ReplyTo) (p : Port) (e : Option Settlement) (ps : List Byte) :
    (s.setPositionBody r p e ps).LinksInv := by
  unfold State.setPositionBody
  split
  · exact (h.settleClaim p e).answer _ _ _
  · split
    · exact (h.settleClaim p e).answer _ _ _
    · extract_lets x t
      have set : t.LinksInv := h
      exact (set.settleClaim p e).answer _ _ _

theorem State.LinksInv.stopLineStep : s.stopLineStep.LinksInv := by
  unfold State.stopLineStep
  extract_lets t
  have line : t.LinksInv := h
  split
  · exact line
  · exact ((line.stopAll _ _).setHalted true).notifyAll rfl

theorem State.LinksInv.resumeBody (r : ReplyTo) : (s.resumeBody r).LinksInv := by
  unfold State.resumeBody
  repeat' split
  · exact h.answer _ _ _
  · exact ((h.setHalted false).notifyAll rfl).answer _ _ _
  · exact h.answer _ _ _

/-! ## Requests of the pairs (R102 to R111) -/

theorem State.LinksInv.claimBoth {t : State} {l : LinkId} {a b : Port} {code : Byte}
    {e : Option Settlement × Option Settlement} (claim : s.claimBoth l a b code = .ok (t, e)) : t.LinksInv := by
  unfold State.claimBoth at claim
  repeat' split at claim
  all_goals cases claim
  rename_i first _ _ second
  exact (h.claimRule first).claimRule second

theorem State.LinksInv.pairBody (r : ReplyTo) (ps : List Byte) : (s.pairBody r ps).LinksInv := by
  unfold State.pairBody
  split
  · split
    · exact h.answer _ _ _
    · split
      · exact h.answer _ _ _
      · rename_i a b _ _ _ _ t ea eb claim
        have settled {u : State} (i : u.LinksInv) : ((u.settleClaim a ea).settleClaim b eb).LinksInv :=
          (i.settleClaim a ea).settleClaim b eb
        have claimed := h.claimBoth claim
        extract_lets
        split
        · exact (settled claimed).answer _ _ _
        · split
          · exact (settled claimed).answer _ _ _
          · refine State.LinksInv.answer (settled ?_) _ _ _
            exact claimed
  · exact h.answer _ _ _

theorem State.LinksInv.movePairBody (r : ReplyTo) (q : PairId) (x : PairRec) (e : Option PairSettlement) (ps : List Byte) :
    (s.movePairBody r q x e ps).LinksInv := by
  unfold State.movePairBody
  split
  · exact (h.settlePairClaim x e).answer _ _ _
  · extract_lets g t
    have placed : t.LinksInv := h.placePairSegment q x g _ _
    split
    · exact placed.answer _ _ _
    · exact placed.answer _ _ _

/-! ## The array's reads and the job queue (R148, R149, R155, R157, R164) -/

theorem State.LinksInv.readWork {t : State} (w : s.ReadWork t) : t.LinksInv := h.of_links (by rw [w])

theorem State.LinksInv.placeRead (r : ClipRead) : (s.placeRead r).LinksInv := by
  refine State.LinksInv.readWork ?_ (State.readWork_readArrives _)
  exact h

theorem State.LinksInv.placeFetch (v : VoiceId) : (s.placeFetch v).LinksInv := h.readWork (s.readWork_placeFetch v)

theorem State.LinksInv.fetchInto (v : VoiceId) (half : Half) (block : Nat) : (s.fetchInto v half block).LinksInv := by
  refine State.LinksInv.placeFetch ?_ v
  exact h

theorem State.LinksInv.fetchNext (v : VoiceId) : (s.fetchNext v).LinksInv := by
  unfold State.fetchNext
  extract_lets x
  repeat' split
  · exact h
  · exact h.fetchInto v _ _
  · exact h

theorem State.LinksInv.fetchDone (v : VoiceId) (f : Fetch) : (s.fetchDone v f).LinksInv := by
  unfold State.fetchDone
  extract_lets x filled y t
  have done : t.LinksInv := h
  repeat' split
  · exact (done.fetchNext v).placeFetch v
  · exact done.placeFetch v
  · exact h.placeFetch v

theorem State.LinksInv.startJob : s.startJob.LinksInv := by
  unfold State.startJob
  repeat' split
  all_goals exact h

theorem State.LinksInv.completeJob : s.completeJob.LinksInv := by
  unfold State.completeJob
  split
  · extract_lets t
    have done : t.LinksInv := h
    split
    · exact done.answer _ _ _
    · split
      refine State.LinksInv.answer ?_ _ _ _
      exact done
  · exact h

theorem State.LinksInv.goOn : s.goOn.LinksInv := by
  obtain ⟨t, granted, e⟩ | ⟨-, ⟨-, e⟩ | ⟨-, op, rest, -, e⟩ | ⟨-, -, e⟩⟩ := State.goOn_cases s <;> rw [e]
  · exact h.readWork (State.readWork_grantRead granted)
  · exact h
  · exact h
  · have done : (if s.store.jobRunning then s.completeJob else s).LinksInv := by
      split
      · exact h.completeJob
      · exact h
    exact done

theorem State.LinksInv.opComplete (op : ArrayOp) : (s.opComplete op).LinksInv := by
  unfold State.opComplete
  extract_lets t u
  have finished : t.LinksInv := h
  split
  · refine State.LinksInv.goOn ?_
    simp only [u]
    split <;> exact finished
  · exact finished.goOn

theorem State.LinksInv.abandonClip (id : Nat) : (s.abandonClip id).LinksInv := by
  unfold State.abandonClip
  extract_lets gone t u
  have kept : t.LinksInv := h
  exact kept.answers gone Job.dest .clipState

theorem State.LinksInv.dropStoreWork (l : LinkId) : (s.dropStoreWork l).LinksInv := by
  unfold State.dropStoreWork
  extract_lets t
  have dropped : t.LinksInv := by
    simp only [t]
    repeat' split
    · exact h.abandonClip _
    · exact h
    · exact h
  exact dropped

theorem State.LinksInv.arrayReadCompleteStep : s.arrayReadCompleteStep.LinksInv := by
  unfold State.arrayReadCompleteStep
  split
  · extract_lets t u w
    have read : t.LinksInv := h
    have served : u.LinksInv := by
      simp only [u]
      split
      · exact read.fetchDone _ _
      · exact read.answer _ _ _
      · exact read
    split
    · exact served.goOn.startJob
    · exact served.goOn
  · exact h

/-! ## Requests of the clip store (R150 to R156) -/

theorem State.LinksInv.clipBeginBody (r : ReplyTo) (ps : List Byte) : (s.clipBeginBody r ps).LinksInv := by
  unfold State.clipBeginBody
  split
  · exact h.answer _ _ _
  · exact h

theorem State.LinksInv.refuseAtPointer (r : ReplyTo) : (s.refuseAtPointer r).LinksInv := by
  unfold State.refuseAtPointer
  split
  · exact h.answer _ _ _
  · refine State.LinksInv.answer ?_ _ _ _
    exact h

theorem State.LinksInv.clipDataBody (r : ReplyTo) (ps : List Byte) : (s.clipDataBody r ps).LinksInv := by
  unfold State.clipDataBody
  extract_lets offset n data
  split
  · exact h.refuseAtPointer r
  · split
    · exact h.refuseAtPointer r
    · exact h.answer _ _ _
    · extract_lets room full
      split
      · refine State.LinksInv.answer ?_ _ _ _
        exact h
      · exact h

theorem State.LinksInv.clipEndBody (r : ReplyTo) (ps : List Byte) : (s.clipEndBody r ps).LinksInv := by
  unfold State.clipEndBody
  extract_lets id
  repeat' split
  · exact h.refuseAtPointer r
  · exact h.answer _ _ _
  · exact h.answer _ _ _
  · exact h.answer _ _ _
  · exact h.refuseAtPointer r
  · exact h.answer _ _ _
  · exact h
  · exact h.answer _ _ _

theorem State.LinksInv.clipDeleteBody (r : ReplyTo) (ps : List Byte) : (s.clipDeleteBody r ps).LinksInv := by
  unfold State.clipDeleteBody
  extract_lets id
  repeat' split
  · exact h.answer _ _ _
  · exact h.answer _ _ _
  · exact h.answer _ _ _
  · exact h.answer _ _ _
  · exact h.answer _ _ _
  · exact h.answer _ _ _
  · exact h.answer _ _ _
  · exact h
  · exact (h.abandonClip id).answer _ _ _
  · exact h.answer _ _ _
  · exact h.answer _ _ _

theorem State.LinksInv.clipInfoBody (r : ReplyTo) (ps : List Byte) (guardHigh : Bool) :
    (s.clipInfoBody r ps guardHigh).LinksInv := by
  unfold State.clipInfoBody
  repeat' split
  all_goals exact h.answer _ _ _

theorem State.LinksInv.clipReadBody (r : ReplyTo) (ps : List Byte) : (s.clipReadBody r ps).LinksInv := by
  unfold State.clipReadBody
  extract_lets id offset n beyond
  repeat' split
  · exact h.answer _ _ _
  · exact h.answer _ _ _
  · exact h.placeRead _
  · exact h.answer _ _ _
  · exact h.answer _ _ _

theorem State.LinksInv.setProtectBody (r : ReplyTo) (ps : List Byte) (guardHigh : Bool) :
    (s.setProtectBody r ps guardHigh).LinksInv := by
  unfold State.setProtectBody
  extract_lets given
  split
  · exact h.answer _ _ _
  · extract_lets standing
    repeat' split
    iterate 6 exact h.answer _ _ _
    exact h

/-! ## Voices (R162 to R168) -/

theorem State.LinksInv.endVoice (v : VoiceId) (o : VoiceOutcome) : (s.endVoice v o).LinksInv := by
  unfold State.endVoice
  extract_lets x t
  have freed : t.LinksInv := h
  split
  · rename_i told; exact freed.notify _ (Voice.endNotice_dataEntry told)
  · exact freed

theorem State.LinksInv.endVoices (o : VoiceOutcome) : (s.endVoices o).LinksInv := by
  refine State.linksInv_foldl (fun t v i => ?_) _ h
  split
  · exact i.endVoice v o
  · exact i

theorem State.LinksInv.orphanVoices (l : LinkId) : (s.orphanVoices l).LinksInv := by
  refine State.linksInv_foldl (fun t v i => ?_) _ h
  extract_lets x u
  have orphaned : u.LinksInv := i
  repeat' split
  · exact orphaned.fetchNext v
  · exact orphaned
  · exact orphaned
  · exact i

theorem State.LinksInv.allocate {t : State} {priority : Nat} {v : VoiceId} (found : s.allocate priority = some (v, t)) :
    t.LinksInv := by
  unfold State.allocate at found
  split at found
  · cases found; exact h
  · obtain ⟨_, -, e⟩ := Option.map_eq_some_iff.mp found
    cases e
    exact h.endVoice v .stolen

theorem State.LinksInv.startClip (v : VoiceId) (a : Start) (rate : Nat) (e : DirEntry) : (s.startClip v a rate e).LinksInv := by
  refine State.LinksInv.placeFetch ?_ v
  exact h

theorem State.LinksInv.playBody (r : ReplyTo) (ps : List Byte) : (s.playBody r ps).LinksInv := by
  unfold State.playBody
  split
  · exact h.answer _ _ _
  · extract_lets priority
    split
    · exact h.answer _ _ _
    · rename_i found
      have freed := h.allocate found
      split
      · refine State.LinksInv.answer ?_ _ _ _
        exact freed.startClip _ _ _ _
      · refine State.LinksInv.answer ?_ _ _ _
        exact freed

theorem State.LinksInv.stopVoiceBody (r : ReplyTo) (ps : List Byte) : (s.stopVoiceBody r ps).LinksInv := by
  unfold State.stopVoiceBody
  split
  · exact h.answer _ _ _
  · refine State.LinksInv.answer ?_ _ _ _
    split
    · exact h.endVoice _ _
    · exact h

theorem State.LinksInv.setVolumeBody (r : ReplyTo) (ps : List Byte) : (s.setVolumeBody r ps).LinksInv := by
  refine State.LinksInv.answer ?_ _ _ _
  exact h

/-! ## The output sample (R165 to R169) -/

theorem State.LinksInv.enterHalf (v : VoiceId) (half : Half) : (s.enterHalf v half).LinksInv := by
  unfold State.enterHalf
  extract_lets x
  split
  · exact h
  · refine State.LinksInv.fetchNext ?_ v
    exact h

theorem State.LinksInv.underrunVoice (v : VoiceId) (block : Nat) : (s.underrunVoice v block).LinksInv := by
  unfold State.underrunVoice
  extract_lets x t
  have counted : t.LinksInv := h
  split
  · exact counted
  · refine State.LinksInv.fetchInto ?_ v _ _
    exact counted

theorem State.LinksInv.stepClip (v : VoiceId) (f : ClipFormat) (n : Nat) (region : Option (Nat × Nat)) :
    (s.stepClip v f n region).1.LinksInv := by
  unfold State.stepClip
  extract_lets x index
  split
  · exact h.underrunVoice v _
  · rename_i half _
    extract_lets t y term
    have entered : t.LinksInv := h.enterHalf v half
    split
    extract_lets u
    have stepped : u.LinksInv := entered
    repeat' split
    · exact stepped.endVoice v _
    · exact stepped.fetchNext v
    · exact stepped

theorem State.LinksInv.stepTone (v : VoiceId) (freq : Nat) : (s.stepTone v freq).1.LinksInv := by
  unfold State.stepTone
  extract_lets x term t
  have stepped : t.LinksInv := h
  change (if x.left - 1 = 0 then t.endVoice v .done else t).LinksInv
  split
  · exact stepped.endVoice v _
  · exact stepped

theorem State.LinksInv.stepVoice (v : VoiceId) : (s.stepVoice v).1.LinksInv := by
  unfold State.stepVoice
  split
  · exact h.stepClip v _ _ _
  · exact h.stepTone v _
  · exact h

theorem State.LinksInv.outputSampleStep : s.outputSampleStep.LinksInv :=
  foldl_induct (R := fun a b : State × Int => a.1.LinksInv → b.1.LinksInv) (fun _ => id) (fun a b => b ∘ a) VoiceId.all
    (fun _ v _ i => i.stepVoice v) (s, 0) h

/-! ## The warning clip and the supply sample (R114 to R122) -/

theorem State.LinksInv.startWarning : s.startWarning.LinksInv := by
  unfold State.startWarning
  repeat' split
  · exact h
  · exact h
  · rename_i found; exact (h.allocate found).startClip _ _ _ _
  · exact h

theorem State.LinksInv.changeSupplyState (new : SupplyState) : (s.changeSupplyState new).LinksInv := by
  unfold State.changeSupplyState
  extract_lets old before t u w
  have set : t.LinksInv := h
  have entered : u.LinksInv := by
    simp only [u]
    split
    · exact (set.stopAll _ _).endVoices _
    · exact set
  refine State.LinksInv.notifyAll ?_ rfl
  simp only [w]
  split
  · exact entered.startWarning
  · exact entered

theorem State.LinksInv.supplySampleStep (vbat : Nat) (isense : Int) : (s.supplySampleStep vbat isense).LinksInv := by
  unfold State.supplySampleStep
  extract_lets m t u
  have reduced : t.LinksInv := State.linksInv_foldl
    (f := fun t p => t.modUnit p fun m => m.reduceDuty t.supply.s) (fun _ _ i => i) Port.all h
  refine State.LinksInv.offerUpdates ?_ _
  simp only [u]
  split
  · exact reduced
  · exact reduced.changeSupplyState _

theorem State.LinksInv.warningTimerStep : s.warningTimerStep.LinksInv := by
  unfold State.warningTimerStep
  split
  · exact h.startWarning
  · exact h

theorem State.LinksInv.setSupplyBody (r : ReplyTo) (ps : List Byte) : (s.setSupplyBody r ps).LinksInv := by
  unfold State.setSupplyBody
  extract_lets m w wGiven new clamped
  split
  · exact h.answer _ _ _
  · split
    · refine State.LinksInv.answer ?_ _ _ _
      exact h
    · exact h.answer _ _ _

/-! ## The links' own steps (R174 to R183) -/

theorem State.LinksInv.undoLink (l : LinkId) : (s.undoLink l).LinksInv := by
  have released : (s.releaseClaims l).LinksInv := State.linksInv_foldl (fun _ p i => i.releasePort l p) _ h
  refine State.LinksInv.orphanVoices (State.LinksInv.dropStoreWork ?_ l) l
  exact released

/-- A lapse stops the age timer with the stay in ACTIVE (R180). -/
theorem State.LinksInv.ageTickStep (l : LinkId) : (s.ageTickStep l).LinksInv := by
  unfold State.ageTickStep
  split
  · rename_i active _
    extract_lets t
    have ticked : t.LinksInv := h.setLink (Link.inv_ageTick (h l) active)
    split
    · have emptied := Link.inv_emptied (ticked l)
      have ⟨_, _, _, calm, _⟩ := emptied
      have lapsed : (t.modLink l fun k => { k.emptied with state := .lapsed, ageTimer := none }).LinksInv :=
        ticked.setLink (Link.inv_inactive emptied rfl rfl calm rfl (by simp))
      exact (lapsed.undoLink l).notify l.other rfl
    · exact ticked
  · exact h

theorem State.LinksInv.leaveStep (r : ReplyTo) : (s.leaveStep r).LinksInv := by
  unfold State.leaveStep
  extract_lets t
  have emptied : (s.modLink r.link Link.emptied).LinksInv := h.setLink (Link.inv_emptied (h r.link))
  have left : t.LinksInv := (emptied.undoLink r.link).notify r.link.other rfl
  exact left.setLink (Link.inv_inactive (left r.link) rfl rfl (Nat.zero_le _) rfl (by simp))

theorem State.LinksInv.selFallStep (l : LinkId) : (s.selFallStep l).LinksInv := by
  unfold State.selFallStep
  split
  · exact h
  · exact h.setLink (h l)

theorem State.LinksInv.setLinkBody (r : ReplyTo) (ps : List Byte) : (s.setLinkBody r ps).LinksInv := by
  unfold State.setLinkBody
  extract_lets k
  split
  · exact h.answer _ _ _
  · refine State.LinksInv.answer ?_ _ _ _
    exact h.setLink (h r.link)

theorem State.LinksInv.clearFlagsBody (r : ReplyTo) (ps : List Byte) : (s.clearFlagsBody r ps).LinksInv := by
  unfold State.clearFlagsBody
  split
  · exact h.answer _ _ _
  · refine State.LinksInv.answer ?_ _ _ _
    exact h.setLink (h r.link)

theorem State.LinksInv.unknownStep (l : LinkId) (tag code : Byte) (ps : List Byte) : (s.unknownStep l tag code ps).LinksInv := by
  unfold State.unknownStep
  repeat' split
  · rename_i take; exact (h.take take).answer _ _ _
  · exact h
  · exact h

theorem State.LinksInv.codelessStep (l : LinkId) (tag : Byte) : (s.codelessStep l tag).LinksInv := by
  unfold State.codelessStep
  split
  · rename_i take; exact (h.take take).answer _ _ _
  · exact h

end

end Sys2Proof.Machine
end

section
/-! Both links stay within their bounds through the port units (chapters 1 and 2), and with it every command and every step:
O57. -/

namespace Sys2Proof.Machine

section
variable {s : State} (h : s.LinksInv)
include h

/-! ## Samples, attachment and detachment (R5 to R11, R32) -/

theorem State.LinksInv.answerModes (p : Port) (st : Status) : (s.answerModes p st).LinksInv :=
  h.answers (s.port p).waiting ModeWait.dest st

theorem State.LinksInv.answerWrites (p : Port) (st : Status) : (s.answerWrites p st).LinksInv :=
  h.answers (s.port p).writes WriteReq.dest st

theorem State.LinksInv.offerSample (p : Port) : (s.offerSample p).LinksInv := by
  unfold State.offerSample
  split
  · exact (h.offerUpdates _).testConditions p _
  · exact h

theorem State.LinksInv.touchSample (p : Port) (rxLow : Bool) : (s.touchSample p rxLow).LinksInv := by
  refine State.LinksInv.offerSample ?_ p
  exact h

theorem State.LinksInv.attachAt (p : Port) (level : Level) (rxLow : Bool) : (s.attachAt p level rxLow).LinksInv := by
  unfold State.attachAt
  split
  · exact h
  · unfold State.attachPassive
    extract_lets kind touch t u w
    have attached : u.LinksInv := h
    refine State.LinksInv.notifyAll ?_ rfl
    simp only [w]
    split
    · exact attached.touchSample p rxLow
    · exact attached

theorem State.LinksInv.detachMotion (p : Port) : (s.detachMotion p).LinksInv := by
  unfold State.detachMotion
  split
  · exact h.dissolvePair _ _
  · exact h.endQueue p _ _

theorem State.LinksInv.detach (p : Port) {last : Notice} (event : last.dataEntry = none) : (s.detach p last).LinksInv := by
  unfold State.detach
  extract_lets t u
  have answered : t.LinksInv := (h.answerModes p _).answerWrites p _
  have gone : u.LinksInv := ((answered.detachMotion p).sourceLost p none).removeStreams p
  refine State.LinksInv.notifyAll ?_ event
  exact gone

theorem State.LinksInv.faultPort (p : Port) (state : PortState) (retry : Option Nat) {n : Notice}
    (event : n.dataEntry = none) : (s.faultPort p state retry n).LinksInv := by
  unfold State.faultPort
  extract_lets attached t
  have faulted : t.LinksInv := h
  split
  · exact faulted.detach p event
  · exact faulted.notifyAll event

theorem State.LinksInv.failAttempt (p : Port) : (s.failAttempt p).LinksInv := by
  unfold State.failAttempt
  repeat' split
  · exact h.faultPort p _ _ rfl
  · exact h
  · exact h

theorem State.LinksInv.lossOf (p : Port) : (s.lossOf p).LinksInv := by
  unfold State.lossOf
  extract_lets t u
  have stale : t.LinksInv := h
  have dropped : u.LinksInv := stale.answerModes p .modeFailed
  exact dropped.answerWrites p .noResponse

/-! ## Chapter 1: power, probing, faults -/

theorem State.LinksInv.classify (p : Port) (level : Level) (rxLow : Bool) : (s.classify p level rxLow).LinksInv := by
  unfold State.classify
  extract_lets t
  have classified : t.LinksInv := h
  have detached : (t.detachPort p).LinksInv := classified.detach p rfl
  split
  · split
    · exact classified
    · exact classified.attachAt p level rxLow
  · split
    · exact classified
    · exact classified.attachAt p level rxLow
  · split
    · exact detached
    · exact detached.attachAt p level rxLow
  iterate 2
    repeat' split
    · exact detached
    · exact classified
    · exact detached.attachAt p level rxLow
  iterate 2 exact classified

theorem State.LinksInv.probeStep (p : Port) (level : Level) (rxLow : Bool) : (s.probeStep p level rxLow).LinksInv := by
  unfold State.probeStep
  extract_lets t
  have read : t.LinksInv := h
  repeat' split
  · exact read.classify p level rxLow
  · exact read.touchSample p rxLow
  · exact read
  · exact h

theorem State.LinksInv.tripStep (p : Port) : (s.tripStep p).LinksInv := by
  unfold State.tripStep
  extract_lets kept
  split
  · split
    · refine State.LinksInv.faultPort ?_ p _ _ rfl
      exact h
    · refine State.LinksInv.faultPort ?_ p _ _ rfl
      exact h
  · exact h

theorem State.LinksInv.portResetBody (r : ReplyTo) (ps : List Byte) : (s.portResetBody r ps).LinksInv := by
  unfold State.portResetBody
  split
  · exact h.answer _ _ _
  · refine State.LinksInv.answer ?_ _ _ _
    split <;> exact h

theorem State.LinksInv.portInfoBody (r : ReplyTo) (ps : List Byte) : (s.portInfoBody r ps).LinksInv := by
  unfold State.portInfoBody
  repeat' split
  all_goals exact h.answer _ _ _

/-! ## Chapter 2: messages, handshakes, modes and writes -/

theorem State.LinksInv.logAndTap (p : Port) (o : MsgOutcome) (bs : List Byte) : (s.logAndTap p o bs).LinksInv := by
  unfold State.logAndTap
  extract_lets u t
  have logged : t.LinksInv := h
  repeat' split
  · exact logged.notify _ rfl
  · exact logged
  · exact logged

theorem State.LinksInv.endWrite (p : Port) (st : Status) : (s.endWrite p st).LinksInv := by
  unfold State.endWrite
  split
  · exact h.answer _ st []
  · exact h

theorem State.LinksInv.modeChanged (p : Port) (old : Option Nat) (new : Nat) : (s.modeChanged p old new).LinksInv := by
  unfold State.modeChanged
  extract_lets t
  have changed : t.LinksInv := h.notifyAll rfl
  split
  · exact changed.sourceLost p _
  · exact changed

theorem State.LinksInv.applyData (p : Port) (mode : Nat) (m : ModeDesc) (payload : List Byte) :
    (s.applyData p mode m payload).LinksInv := h

theorem State.LinksInv.confirmMode (p : Port) (mode : Nat) (m : ModeDesc) (payload : List Byte) :
    (s.confirmMode p mode m payload).LinksInv := by
  unfold State.confirmMode
  extract_lets old t u w
  have dropped : t.LinksInv := h
  have applied : u.LinksInv := (dropped.applyData p mode m payload).answerModes p .ok
  refine State.LinksInv.offerSample ?_ p
  simp only [w]
  split
  · exact applied
  · exact applied.modeChanged p old mode

theorem State.LinksInv.takeData (p : Port) (payload : List Byte) : (s.takeData p payload).LinksInv := by
  unfold State.takeData
  extract_lets u expected
  repeat' split
  · exact h.confirmMode p _ _ payload
  · exact (h.applyData p _ _ _).offerSample p
  · exact h

theorem State.LinksInv.actActive (p : Port) (o : MsgOutcome) (bs : List Byte) : (s.actActive p o bs).LinksInv := by
  unfold State.actActive
  extract_lets t
  have kept : t.LinksInv := h
  repeat' split
  · refine State.LinksInv.lossOf ?_ p
    exact kept
  · exact kept.takeData p _
  · exact kept.endWrite p _
  · exact kept

theorem State.LinksInv.actDescribing (p : Port) (o : MsgOutcome) (bs : List Byte) : (s.actDescribing p o bs).LinksInv := by
  unfold State.actDescribing
  repeat' split
  · exact h
  · exact h
  · exact h.failAttempt p
  · exact h
  · exact h.failAttempt p
  · exact h

theorem State.LinksInv.messageEnds (p : Port) (o : MsgOutcome) (bs : List Byte) : (s.messageEnds p o bs).LinksInv := by
  unfold State.messageEnds
  extract_lets t
  have logged : t.LinksInv := h.logAndTap p o bs
  split
  · exact logged.actActive p o bs
  · exact logged.actDescribing p o bs
  · exact logged

theorem State.LinksInv.messageStep (p : Port) (bs : List Byte) (framing : Bool) : (s.messageStep p bs framing).LinksInv := by
  unfold State.messageStep
  repeat' split
  · refine State.LinksInv.messageEnds ?_ p _ bs
    exact h
  · exact h
  · exact h.messageEnds p _ bs
  · exact h
  · exact h

theorem State.LinksInv.gapStep (p : Port) (bs : List Byte) : (s.gapStep p bs).LinksInv := by
  unfold State.gapStep
  split
  · exact h.messageEnds p _ bs
  · exact h

theorem State.LinksInv.attachDescribed (p : Port) (typeId : BitVec 16) (head : Head) (modes : List ModeDesc) :
    (s.attachDescribed p typeId head modes).LinksInv := by
  refine State.LinksInv.notifyAll ?_ rfl
  exact h

theorem State.LinksInv.ackStep (p : Port) : (s.ackStep p).LinksInv := by
  unfold State.ackStep
  extract_lets u
  repeat' split
  · have activated (v : PortUnit) : (s.setPort p v).LinksInv := h
    exact (activated _).notifyAll rfl
  · refine State.LinksInv.attachDescribed ?_ p _ _ _
    exact h.detach p rfl
  · refine State.LinksInv.attachDescribed ?_ p _ _ _
    exact h
  · exact h

theorem State.LinksInv.takeMode (p : Port) (r : ReplyTo) (mode : Nat) : (s.takeMode p r mode).LinksInv := by
  unfold State.takeMode
  extract_lets u
  repeat' split
  · exact h.answer _ _ _
  · exact h.answer _ _ _
  · exact h
  · exact h.answerModes p _

theorem State.LinksInv.setModeBody (r : ReplyTo) (p : Port) (e : Option Settlement) (ps : List Byte) :
    (s.setModeBody r p e ps).LinksInv := by
  unfold State.setModeBody
  split
  · exact (h.settleClaim p e).answer _ _ _
  · exact (h.settleClaim p e).takeMode p r _

theorem State.LinksInv.modeTimerStep (p : Port) : (s.modeTimerStep p).LinksInv := by
  unfold State.modeTimerStep
  extract_lets u
  split
  · split
    · refine State.LinksInv.modeChanged ?_ p _ 0
      exact h
    · refine State.LinksInv.answerModes ?_ p _
      exact h
  · exact h

theorem State.LinksInv.portWriteBody (r : ReplyTo) (p : Port) (e : Option Settlement) (ps : List Byte) :
    (s.portWriteBody r p e ps).LinksInv := by
  unfold State.portWriteBody
  extract_lets u n t
  have settled : t.LinksInv := h.settleClaim p e
  repeat' split
  iterate 4 exact settled.answer _ _ _
  exact settled

end

/-! ## Every command and every step -/

theorem exec_linksInv (i : Instr) {s : State} (h : s.LinksInv) : ∃ t, exec i s = .next t ∧ t.LinksInv := by
  have served := @State.LinksInv.serve s h
  cases i with
  | powerOnReset stop vbat isense => exact ⟨_, rfl, s.linksInv_restart stop vbat isense⟩
  | portPowerRestore p => exact ⟨_, rfl, by split <;> exact h⟩
  | scanComplete => exact ⟨_, rfl, by unfold State.scanCompleteStep; split <;> exact h⟩
  | selFall l => exact ⟨_, rfl, h.selFallStep l⟩
  | selRise l clocked midByte => exact ⟨_, rfl, h.setLink (Link.inv_selRise (h l) clocked midByte)⟩
  | ageTick l => exact ⟨_, rfl, h.ageTickStep l⟩
  | unknownRequest l tag code ps => exact ⟨_, rfl, h.unknownStep l tag code ps⟩
  | requestWithoutCode l tag => exact ⟨_, rfl, h.codelessStep l tag⟩
  | identify l tag ps => exact ⟨_, rfl, served l tag _ ps fun r t i => i.answer _ _ _⟩
  | setLink l tag ps => exact ⟨_, rfl, served l tag _ ps fun r t i => i.setLinkBody r ps⟩
  | clearFlags l tag ps => exact ⟨_, rfl, served l tag _ ps fun r t i => i.clearFlagsBody r ps⟩
  | resetArm l tag ps =>
    refine ⟨_, rfl, served l tag _ ps fun r t i => State.LinksInv.answer ?_ _ _ _⟩
    exact i.setLink (i r.link)
  | leave l tag ps => exact ⟨_, rfl, served l tag _ ps fun r t i => i.leaveStep r⟩
  | reset l tag ps stop vbat isense =>
    refine ⟨_, rfl, served l tag _ ps fun r t i => ?_⟩
    unfold State.resetStep
    split
    · exact t.linksInv_restart stop vbat isense
    · exact i.answer _ _ _
  | portInfo l tag ps => exact ⟨_, rfl, served l tag _ ps fun r t i => i.portInfoBody r ps⟩
  | readValue l tag ps =>
    refine ⟨_, rfl, served l tag _ ps fun r t i => ?_⟩
    repeat' split
    all_goals exact i.answer _ _ _
  | setMode l tag ps =>
    exact ⟨_, rfl, served l tag _ ps fun r t i => i.claiming r ps fun u p e j => j.setModeBody r p e ps⟩
  | portWrite l tag ps =>
    exact ⟨_, rfl, served l tag _ ps fun r t i => i.claiming r ps fun u p e j => j.portWriteBody r p e ps⟩
  | setTap l tag ps =>
    refine ⟨_, rfl, served l tag _ ps fun r t i => ?_⟩
    split
    · refine State.LinksInv.answer ?_ _ _ _
      exact i
    · exact i.answer _ _ _
  | readLog l tag ps =>
    refine ⟨_, rfl, served l tag _ ps fun r t i => ?_⟩
    split
    · exact i.answer _ _ _
    · refine State.LinksInv.answer ?_ _ _ _
      exact i
  | portReset l tag ps => exact ⟨_, rfl, served l tag _ ps fun r t i => i.portResetBody r ps⟩
  | lock l tag ps => exact ⟨_, rfl, served l tag _ ps fun r t i => i.lockBody r ps⟩
  | unlock l tag ps => exact ⟨_, rfl, served l tag _ ps fun r t i => i.unlockBody r ps⟩
  | release l tag ps => exact ⟨_, rfl, served l tag _ ps fun r t i => i.releaseBody r ps⟩
  | move l tag ps =>
    exact ⟨_, rfl, served l tag _ ps fun r t i => i.claiming r ps fun u p e j => j.moveBody r p e ps⟩
  | stop l tag ps =>
    exact ⟨_, rfl, served l tag _ ps fun r t i => i.claiming r ps fun u p e j => j.stopBody r p e ps⟩
  | setRegulator l tag ps =>
    exact ⟨_, rfl, served l tag _ ps fun r t i => i.claiming r ps fun u p e j => j.setRegulatorBody r p e ps⟩
  | setPosition l tag ps =>
    exact ⟨_, rfl, served l tag _ ps fun r t i => i.claiming r ps fun u p e j => j.setPositionBody r p e ps⟩
  | resume l tag ps => exact ⟨_, rfl, served l tag _ ps fun r t i => i.resumeBody r⟩
  | pair l tag ps => exact ⟨_, rfl, served l tag _ ps fun r t i => i.pairBody r ps⟩
  | unpair l tag ps =>
    exact ⟨_, rfl, served l tag _ ps fun r t i => i.claimingPair r _ fun u q x e j =>
      (j.dissolvePair q _).answer _ _ _⟩
  | movePair l tag ps =>
    exact ⟨_, rfl, served l tag _ ps fun r t i => i.claimingPair r _ fun u q x e j => j.movePairBody r q _ e ps⟩
  | motionStatus l tag ps =>
    refine ⟨_, rfl, served l tag _ ps fun r t i => ?_⟩
    split <;> exact i.answer _ _ _
  | supplyStatus l tag ps => exact ⟨_, rfl, served l tag _ ps fun r t i => i.answer _ _ _⟩
  | setSupply l tag ps => exact ⟨_, rfl, served l tag _ ps fun r t i => i.setSupplyBody r ps⟩
  | subscribe l tag ps => exact ⟨_, rfl, served l tag _ ps fun r t i => i.subscribeBody r ps⟩
  | unsubscribe l tag ps => exact ⟨_, rfl, served l tag _ ps fun r t i => i.unsubscribeBody r ps⟩
  | listStreams l tag ps =>
    refine ⟨_, rfl, served l tag _ ps fun r t i => ?_⟩
    unfold State.listStreamsBody
    split <;> exact i.answer _ _ _
  | clipBegin l tag ps => exact ⟨_, rfl, served l tag _ ps fun r t i => i.clipBeginBody r ps⟩
  | clipData l tag ps => exact ⟨_, rfl, served l tag _ ps fun r t i => i.clipDataBody r ps⟩
  | clipEnd l tag ps => exact ⟨_, rfl, served l tag _ ps fun r t i => i.clipEndBody r ps⟩
  | clipDelete l tag ps => exact ⟨_, rfl, served l tag _ ps fun r t i => i.clipDeleteBody r ps⟩
  | clipInfo l tag ps guardHigh => exact ⟨_, rfl, served l tag _ ps fun r t i => i.clipInfoBody r ps guardHigh⟩
  | clipRead l tag ps => exact ⟨_, rfl, served l tag _ ps fun r t i => i.clipReadBody r ps⟩
  | setProtect l tag ps guardHigh => exact ⟨_, rfl, served l tag _ ps fun r t i => i.setProtectBody r ps guardHigh⟩
  | play l tag ps => exact ⟨_, rfl, served l tag _ ps fun r t i => i.playBody r ps⟩
  | stopVoice l tag ps => exact ⟨_, rfl, served l tag _ ps fun r t i => i.stopVoiceBody r ps⟩
  | setVolume l tag ps => exact ⟨_, rfl, served l tag _ ps fun r t i => i.setVolumeBody r ps⟩
  | voiceStatus l tag ps => exact ⟨_, rfl, served l tag _ ps fun r t i => i.answer _ _ _⟩
  | probeEvent p level rxLow => exact ⟨_, rfl, h.probeStep p level rxLow⟩
  | overcurrentTrip p => exact ⟨_, rfl, h.tripStep p⟩
  | retryTimerExpiry p => exact ⟨_, rfl, by split <;> exact h⟩
  | messageOutcome p bs framing => exact ⟨_, rfl, h.messageStep p bs framing⟩
  | gapTimeout p bs => exact ⟨_, rfl, h.gapStep p bs⟩
  | ackSent p => exact ⟨_, rfl, h.ackStep p⟩
  | attemptTimerExpiry p =>
    refine ⟨_, rfl, ?_⟩
    repeat' split
    · exact h.failAttempt p
    · exact h
    · exact h
  | keepAliveExpiry p => exact ⟨_, rfl, h⟩
  | silenceLoss p =>
    refine ⟨_, rfl, ?_⟩
    split
    · exact h.lossOf p
    · exact h
  | modeTimerExpiry p => exact ⟨_, rfl, h.modeTimerStep p⟩
  | writeTimerExpiry p =>
    refine ⟨_, rfl, ?_⟩
    split
    · exact h.endWrite p _
    · exact h
  | encoderTransition p a b => exact ⟨_, rfl, h⟩
  | regulationEvent p => exact ⟨_, rfl, h.regulationStep p⟩
  | stopLineAssert => exact ⟨_, rfl, h.stopLineStep⟩
  | stopLineRelease => exact ⟨_, rfl, h⟩
  | supplySample vbat isense => exact ⟨_, rfl, h.supplySampleStep vbat isense⟩
  | warningTimerExpiry => exact ⟨_, rfl, h.warningTimerStep⟩
  | jobStart =>
    refine ⟨_, rfl, ?_⟩
    unfold State.jobStartStep
    split
    · exact h.startJob
    · exact h
  | cleanupStart =>
    refine ⟨_, rfl, ?_⟩
    unfold State.cleanupStartStep
    repeat' split
    all_goals exact h
  | programComplete =>
    refine ⟨_, rfl, ?_⟩
    unfold State.programCompleteStep
    split
    · exact h.opComplete _
    · exact h
  | eraseComplete =>
    refine ⟨_, rfl, ?_⟩
    unfold State.eraseCompleteStep
    split
    · exact h.opComplete _
    · exact h
  | eraseSuspend => exact ⟨_, rfl, by unfold State.eraseSuspendStep; split <;> exact h⟩
  | suspendComplete =>
    refine ⟨_, rfl, ?_⟩
    unfold State.suspendCompleteStep
    split
    · refine State.LinksInv.goOn ?_
      exact h
    · exact h
  | arrayReadComplete => exact ⟨_, rfl, h.arrayReadCompleteStep⟩
  | outputSample => exact ⟨_, rfl, h.outputSampleStep⟩
  | firstDescLeadByte p => exact ⟨_, rfl, h⟩
  | idleGapAfterFramingError p => exact ⟨_, rfl, h⟩

/-- Settles O57: every command keeps both links within their bounds (`exec_linksInv`), and a millisecond lets a running age timer
run on. -/
theorem everyStepKeepsLinks : Obligations.EveryStepKeepsLinks := by
  intro s t links h
  have inv : s.LinksInv := links
  unfold step at h
  split at h
  · cases h; exact inv.tick
  · rename_i i rest _
    obtain ⟨u, e, kept⟩ := exec_linksInv i (s := { s with pending := rest }) inv
    obtain rfl : u = t := by rw [e] at h; cases h; rfl
    exact kept

end Sys2Proof.Machine
end

section
/-! When a stream emits, and to whom (R131, R132): O44. -/

namespace Sys2Proof.Machine

/-! ## The conditions of an emission (R131) -/

theorem StreamEntry.follows_iff (e : StreamEntry) (u : Update) :
    e.follows u = true ↔ e.suspended = false ∧ e.key.kind = u.kind ∧ e.key.port = u.port ∧ e.key.mode = u.mode := by
  simp [StreamEntry.follows, and_assoc]

theorem StreamEntry.due_iff (e : StreamEntry) (u : Update) (now : BitVec 32) :
    e.due u now = true ↔ e.lastEmit = none ∨ ∃ x, e.lastEmit = some x ∧ e.key.interval ≤ (now - x).toNat
      ∧ (e.key.delta = 0 ∨ ∃ v ∈ e.lastSent.zip u.values, (e.key.delta : Int) ≤ valueChange u.kind v.1 v.2) := by
  unfold StreamEntry.due
  cases e.lastEmit with
  | none => simp
  | some x => simp

theorem StreamEntry.emission_singleton (e : StreamEntry) (u : Update) (now : BitVec 32) :
    e.emission [u] now = if e.follows u = true ∧ e.due u now = true then some u else none := by
  unfold StreamEntry.emission
  by_cases h : e.follows u = true ∧ e.due u now = true
  · simp [h]
  · rw [if_neg h]
    exact List.find?_eq_none.mpr (by simpa using h)

theorem StreamEntry.sent_of_emission {e : StreamEntry} {us : List Update} {u : Update} {now : BitVec 32}
    (h : e.emission us now = some u) : e.sent us now = { e with lastEmit := some now, lastSent := u.values } := by
  simp [StreamEntry.sent, h]

theorem StreamEntry.sent_of_none {e : StreamEntry} {us : List Update} {now : BitVec 32} (h : e.emission us now = none) :
    e.sent us now = e := by
  simp [StreamEntry.sent, h]

/-! ## The offer (R132) -/

theorem State.offerUpdates_streams (s : State) (us : List Update) :
    (s.offerUpdates us).streams = s.streams.map fun e => e.sent us s.deviceTime := by
  rw [State.offerUpdates_frame]

/-- A change of one link under a condition, seen from either link. -/
theorem State.ite_modLink_link (s : State) (i l : LinkId) (c : Prop) [Decidable c] (f : Link → Link) :
    (if c then s.modLink i f else s).link l = if l = i ∧ c then f (s.link l) else s.link l := by
  by_cases h : c
  · rw [if_pos h, State.modLink_link]
    by_cases same : l = i
    · subst same; simp [h]
    · simp [same]
  · simp [h]

/-- The DATA notice of an emission reaches the entry's members alone. -/
theorem State.offerData_link (s : State) (e : StreamEntry) (u : Update) (l : LinkId) :
    (s.offerData e u).link l = if e.members.get l then (s.link l).pushData ⟨e.id, u.stamp, 0, u.values⟩ else s.link l := by
  simp only [State.offerData, LinkId.all, List.foldl_cons, List.foldl_nil, State.ite_modLink_link]
  cases l <;> simp

/-- A link that is a member of no entry that emits is untouched by an offer. -/
theorem State.offerUpdates_link_of_not_member {s : State} {us : List Update} {l : LinkId}
    (h : ∀ e ∈ s.streams, e.emission us s.deviceTime ≠ none → e.members.get l = false) :
    (s.offerUpdates us).link l = s.link l := by
  refine foldl_induct (R := fun a b : State => b.link l = a.link l) (fun _ => rfl) (fun a b => b.trans a) s.streams
    (fun t e mem => ?_) (s.setStreams (s.streams.map fun e => e.sent us s.deviceTime))
  split
  · rename_i emits
    have out := h e mem (by simp [emits])
    simp [State.offerData_link, out]
  · rfl

/-- The offer to a table of one entry that emits. -/
theorem State.offerUpdates_single {s : State} {us : List Update} {u : Update} {e : StreamEntry} (one : s.streams = [e])
    (emits : e.emission us s.deviceTime = some u) :
    s.offerUpdates us = (s.setStreams [e.sent us s.deviceTime]).offerData e u := by
  simp [State.offerUpdates, one, emits]

/-- Settles O44, from the conditions of an emission and the links an emission reaches. -/
theorem streamsEmitOnUpdates : Obligations.StreamsEmitOnUpdates := by
  intro s u emits hemits
  have emits_iff (e : StreamEntry) : emits e ↔ e.follows u = true ∧ e.due u s.deviceTime = true := by
    rw [hemits, StreamEntry.follows_iff, StreamEntry.due_iff]
    simp only [and_assoc]
    rfl
  have emission_pos {e : StreamEntry} (h : emits e) : e.emission [u] s.deviceTime = some u := by
    rw [StreamEntry.emission_singleton, if_pos ((emits_iff e).mp h)]
  have emission_neg {e : StreamEntry} (h : ¬ emits e) : e.emission [u] s.deviceTime = none := by
    rw [StreamEntry.emission_singleton, if_neg (mt (emits_iff e).mpr h)]
  refine ⟨fun e mem h => ?_, fun e mem h => ?_, ?_, fun l out => ?_, fun l e one h member => ?_⟩
  · rw [State.offerUpdates_streams]
    exact List.mem_map.mpr ⟨e, mem, StreamEntry.sent_of_emission (emission_pos h)⟩
  · rw [State.offerUpdates_streams]
    exact List.mem_map.mpr ⟨e, mem, StreamEntry.sent_of_none (emission_neg h)⟩
  · rw [State.offerUpdates_streams, List.length_map]
  · refine State.offerUpdates_link_of_not_member fun e mem h => out e mem ?_
    by_contra silent
    exact h (emission_neg silent)
  · rw [State.offerUpdates_single one (emission_pos h), State.offerData_link, if_pos member]
    rfl

end Sys2Proof.Machine
end

section
/-! SUBSCRIBE, UNSUBSCRIBE and LIST_STREAMS (R128 to R130, R139, R186): O43. -/

namespace Sys2Proof.Machine

/-! ## The checks of SUBSCRIBE (R128) -/

theorem SourceKind.ofCode_code (k : SourceKind) : SourceKind.ofCode k.code = some k := by cases k <;> rfl

section
variable {ps : List Byte} {kind : SourceKind} {p : Port}

theorem subscribeForm_supply (code : byteAt ps 0 = SourceKind.supply.code) (delta : longAt ps 5 ≤ 2147483647)
    (port : byteAt ps 1 = 0) : subscribeForm ps = some (.supply, none, 0) := by
  unfold subscribeForm
  simp only [code, SourceKind.ofCode_code, if_neg (Nat.not_lt.mpr delta), if_pos port]

theorem subscribeForm_sensor (code : byteAt ps 0 = SourceKind.sensor.code) (delta : longAt ps 5 ≤ 2147483647)
    (port : portAt ps 1 = some p) (mode : byteAt ps 2 ≤ 7) : subscribeForm ps = some (.sensor, some p, byteAt ps 2) := by
  unfold subscribeForm
  simp only [code, SourceKind.ofCode_code, if_neg (Nat.not_lt.mpr delta), port, if_neg (Nat.not_lt.mpr mode)]

theorem subscribeForm_motor (motor : kind = .motorPosition ∨ kind = .motorSpeed) (code : byteAt ps 0 = kind.code)
    (delta : longAt ps 5 ≤ 2147483647) (port : portAt ps 1 = some p) : subscribeForm ps = some (kind, some p, 0) := by
  unfold subscribeForm
  rcases motor with rfl | rfl
  · simp only [code, SourceKind.ofCode_code, if_neg (Nat.not_lt.mpr delta), port, Option.map_some]
  · simp only [code, SourceKind.ofCode_code, if_neg (Nat.not_lt.mpr delta), port, Option.map_some]

theorem State.subscribeSource_sensor {s : State} {mode : Nat} {m : ModeDesc} (sample : (s.port p).sample.isSome = true)
    (desc : (s.port p).modeDesc mode = some m) : s.subscribeSource .sensor (some p) mode = .ok m.minInterval := by
  simp [State.subscribeSource, Option.isSome_iff_ne_none.mp sample, desc]

theorem State.subscribeSource_motor {s : State} (motor : kind = .motorPosition ∨ kind = .motorSpeed)
    (encoder : (s.port p).encoderMotor = true) (mode : Nat) : s.subscribeSource kind (some p) mode = .ok 10 := by
  rcases motor with rfl | rfl <;> simp [State.subscribeSource, encoder]

end

/-! ## The entry a SUBSCRIBE joins or creates (R129) -/

theorem freeSlot_eq_some {es : List StreamEntry} {n : Nat} (bound : n < 24) (free : ∀ e ∈ es, e.id ≠ n)
    (below : ∀ x, x < n → ∃ e ∈ es, e.id = x) : freeSlot es = some n := by
  refine List.find?_range_eq_some.mpr ⟨by simpa using free, List.mem_range.mpr bound, fun x hx => ?_⟩
  simpa using below x hx

theorem freeSlot_eq_none {es : List StreamEntry} (used : ∀ x, x < 24 → ∃ e ∈ es, e.id = x) : freeSlot es = none := by
  refine List.find?_eq_none.mpr fun x hx => ?_
  simpa using used x (List.mem_range.mp hx)

section
variable {s : State} {l : LinkId} {key : StreamKey}

theorem State.joinStream_of_found {e : StreamEntry} (found : s.streams.find? (fun x => x.key == key) = some e) :
    s.joinStream l key = some (e.id, s.setStreams (s.streams.map fun d =>
      if d.id = e.id then { d with members := d.members.set l true } else d)) := by
  unfold State.joinStream
  rw [found]

theorem State.joinStream_of_free {n : Nat} (new : ∀ e ∈ s.streams, e.key ≠ key) (free : freeSlot s.streams = some n) :
    s.joinStream l key = some (n, s.setStreams
      (insertStream ⟨n, key, (Two.both false).set l true, s.startsSuspended key, none, []⟩ s.streams)) := by
  unfold State.joinStream
  rw [List.find?_eq_none.mpr (by simpa using new), free]
  rfl

theorem State.joinStream_of_full (new : ∀ e ∈ s.streams, e.key ≠ key) (full : freeSlot s.streams = none) :
    s.joinStream l key = none := by
  unfold State.joinStream
  rw [List.find?_eq_none.mpr (by simpa using new), full]
  rfl

end

/-! ## SUBSCRIBE (R128, R129) -/

/-- A request answered at once after a change of the subscription table. -/
theorem State.accepted_setStreams_answer (s : State) (l : LinkId) (tag : Byte) (code : Nat) (es : List StreamEntry)
    (st : Status) (payload : List Byte) :
    ((s.accepted l tag code).setStreams es).answer ⟨l, (s.link l).activation, tag, BitVec.ofNat 8 code⟩ st payload
      = (s.setStreams es).replied l tag code st payload :=
  (s.setStreams es).accepted_answer l tag code st payload

section
variable {s : State} {l : LinkId} {tag : Byte} {ps : List Byte} {kind : SourceKind} {port : Option Port}
  {mode floor interval : Nat} (asked : s.asked l tag 0x50 ps) (length : ps.length = 9)
  (form : subscribeForm ps = some (kind, port, mode)) (source : s.subscribeSource kind port mode = .ok floor)
  (brought : interval = min 60000 (max floor (wordAt ps 3)))
include asked length form source brought

theorem State.exec_subscribe_full
    (full : (s.accepted l tag 0x50).joinStream l ⟨kind, port, mode, interval, longAt ps 5⟩ = none) :
    exec (.subscribe l tag ps) s = .next (s.replied l tag 0x50 .tableFull []) := by
  have checked : (s.accepted l tag 0x50).subscribeSource kind port mode = .ok floor := source
  subst brought
  simp only [exec, execSubscribe, State.serve_asked asked (by simp [lengthAllowed, length]), State.subscribeBody, form,
    checked, full, State.accepted_answer]

theorem State.exec_subscribe_joined {n : Nat} {es : List StreamEntry}
    (joined : (s.accepted l tag 0x50).joinStream l ⟨kind, port, mode, interval, longAt ps 5⟩
      = some (n, (s.accepted l tag 0x50).setStreams es)) :
    exec (.subscribe l tag ps) s = .next ((s.setStreams es).replied l tag 0x50
      (if interval = wordAt ps 3 then .ok else .adjusted) (BitVec.ofNat 8 n :: le2 interval)) := by
  have checked : (s.accepted l tag 0x50).subscribeSource kind port mode = .ok floor := source
  subst brought
  simp only [exec, execSubscribe, State.serve_asked asked (by simp [lengthAllowed, length]), State.subscribeBody, form,
    checked, joined, State.accepted_setStreams_answer]
  rfl

end

/-! ## UNSUBSCRIBE (R130) -/

section
variable {es : List StreamEntry} {e : StreamEntry} (order : es.Pairwise fun a b => a.id < b.id) (mem : e ∈ es)
include order mem

/-- In a table in ascending id, an entry is the one of its id. -/
theorem StreamEntry.eq_of_id {d : StreamEntry} (other : d ∈ es) (id : d.id = e.id) : d = e := by
  obtain ⟨pre, post, rfl⟩ := List.append_of_mem mem
  obtain ⟨-, tail, across⟩ := List.pairwise_append.mp order
  rcases List.mem_append.mp other with before | rest
  · exact absurd id (across d before e (by simp)).ne
  · rcases List.mem_cons.mp rest with same | after
    · exact same
    · exact absurd id ((List.pairwise_cons.mp tail).1 d after).ne'

theorem StreamEntry.find?_id : es.find? (fun d => d.id == e.id) = some e := by
  obtain ⟨pre, post, rfl⟩ := List.append_of_mem mem
  refine List.find?_eq_some_iff_append.mpr ⟨by simp, pre, post, rfl, fun d hd => ?_⟩
  obtain ⟨-, -, across⟩ := List.pairwise_append.mp order
  simpa using (across d hd e (by simp)).ne

/-- The table after a link left an entry: the other entries, and the entry while it has a member left. -/
theorem StreamEntry.mem_left_iff {members : Two Bool} {d : StreamEntry} :
    d ∈ (if members.cl0 || members.cl1 then es.map fun d => if d.id = e.id then { d with members := members } else d
        else es.filter fun d => d.id != e.id)
      ↔ (d ∈ es ∧ d.id ≠ e.id) ∨ (d = { e with members := members } ∧ (members.cl0 || members.cl1) = true) := by
  split
  · rename_i left
    refine List.mem_map.trans ⟨?_, ?_⟩
    · rintro ⟨x, hx, rfl⟩
      by_cases id : x.id = e.id
      · obtain rfl := StreamEntry.eq_of_id order mem hx id
        exact .inr ⟨if_pos rfl, left⟩
      · rw [if_neg id]
        exact .inl ⟨hx, id⟩
    · rintro (⟨hd, id⟩ | ⟨rfl, -⟩)
      · exact ⟨d, hd, if_neg id⟩
      · exact ⟨e, mem, if_pos rfl⟩
  · rename_i freed
    simp [List.mem_filter, freed]

end

/-- A link that left an entry leaves it its other member. -/
theorem Two.set_false_or (m : Two Bool) (l : LinkId) : ((m.set l false).cl0 || (m.set l false).cl1) = m.get l.other := by
  cases l
  · exact Bool.false_or m.cl1
  · exact Bool.or_false m.cl0

/-- The taking of a request and the loss of a DATA notice do not meet. -/
theorem State.accepted_dropData (s : State) (l : LinkId) (tag : Byte) (code entry : Nat) :
    (s.accepted l tag code).modLink l (Link.dropData entry) = (s.modLink l (Link.dropData entry)).accepted l tag code := by
  simp [State.accepted, State.modLink, State.setLink, State.link, Link.accepted, Link.dropData]

theorem State.exec_unsubscribe {s : State} {l : LinkId} {tag n : Byte} {e : StreamEntry} (asked : s.asked l tag 0x51 [n])
    (found : s.streams.find? (fun d => d.id == n.toNat) = some e) (member : e.members.get l = true) :
    exec (.unsubscribe l tag [n]) s = .next ((s.setStreams
      (if (e.members.set l false).cl0 || (e.members.set l false).cl1 then
        s.streams.map fun d => if d.id = e.id then { d with members := e.members.set l false } else d
      else s.streams.filter fun d => d.id != e.id)).setLink l (((s.link l).dropData e.id).replied tag 0x51 .ok [])) := by
  have found' : (s.accepted l tag 0x51).streams.find? (fun d => d.id == byteAt [n] 0) = some e := found
  have activation : (s.link l).activation = ((s.modLink l (Link.dropData e.id)).link l).activation := by
    rw [State.modLink_link_same]; rfl
  simp only [exec, execUnsubscribe, State.serve_asked asked rfl, State.unsubscribeBody, found', member, if_true,
    State.accepted_dropData]
  rw [activation, State.accepted_setStreams_answer, State.replied, ← State.modLink_link_same s l (Link.dropData e.id)]
  congr 1
  exact congrArg (fun links : Two Link => { s.setStreams _ with links := links }) (Two.set_set _ l _ _)

/-! ## LIST_STREAMS (R139, R186) -/

section
variable {α β : Type} {f : α → List β} {n : Nat} (blocks : ∀ x, (f x).length = n)
include blocks

theorem length_flatten_blocks (xs : List α) : (xs.map f).flatten.length = n * xs.length := by
  induction xs with
  | nil => simp
  | cons x rest ih => simp [ih, blocks, Nat.mul_succ, Nat.add_comm]

/-- The `i`th of blocks of one length stands behind the blocks before it. -/
theorem drop_flatten_blocks {xs : List α} {i : Nat} {x : α} (at_i : xs[i]? = some x) :
    ∃ rest, (xs.map f).flatten.drop (n * i) = f x ++ rest := by
  induction xs generalizing i with
  | nil => simp at at_i
  | cons y more ih =>
    cases i with
    | zero =>
      obtain rfl : y = x := by simpa using at_i
      exact ⟨_, rfl⟩
    | succ i =>
      obtain ⟨rest, e⟩ := ih (i := i) (by simpa using at_i)
      refine ⟨rest, ?_⟩
      rw [List.map_cons, List.flatten_cons, Nat.mul_succ, Nat.add_comm, ← List.drop_drop, List.drop_left' (blocks y), e]

end

theorem StreamEntry.length_listBytes (e : StreamEntry) : e.listBytes.length = 12 := rfl

/-- The payload of LIST_STREAMS for the entries `es` from the id asked for: their count, the first four of them in 12 bytes each,
and the id to ask for next. -/
theorem State.streamsPayload_eq {s : State} {start : Nat} {es : List StreamEntry}
    (from_start : es = s.streams.filter fun e => decide (start ≤ e.id)) :
    ∃ next : Byte, s.streamsPayload start
        = BitVec.ofNat 8 (min 4 es.length) :: (((es.take 4).map StreamEntry.listBytes).flatten ++ [next])
      ∧ (es.length ≤ 4 → next = 0xFF) ∧ ∀ e, 4 < es.length → es[3]? = some e → next = BitVec.ofNat 8 (e.id + 1) := by
  have payload : s.streamsPayload start = byteOf (es.take 4).length ++ ((es.take 4).map StreamEntry.listBytes).flatten
      ++ optByte (if (es.take 4).length < es.length then (es.take 4).getLast?.map (·.id + 1) else none) := by
    rw [from_start]; rfl
  rw [payload, List.length_take]
  by_cases more : 4 < es.length
  · have last : (es.take 4).getLast? = some es[3] := by
      rw [List.getLast?_eq_getElem?, List.length_take, List.getElem?_take, Nat.min_eq_left more.le, if_pos (by decide)]
      exact List.getElem?_eq_getElem (by omega)
    refine ⟨BitVec.ofNat 8 (es[3].id + 1), ?_, fun few => absurd more (by omega), fun e _ at_3 => ?_⟩
    · rw [if_pos (by omega), last]
      rfl
    · rw [List.getElem?_eq_getElem (by omega)] at at_3
      rw [Option.some.inj at_3]
  · refine ⟨0xFF, ?_, fun _ => rfl, fun e many => absurd many more⟩
    rw [if_neg (by omega)]
    rfl

/-- An entry's first ten bytes stand at its place in the payload. -/
theorem take_drop_listBytes {count next : Byte} {es : List StreamEntry} {i : Nat} {e : StreamEntry} (first : i < 4)
    (at_i : es[i]? = some e) :
    ((count :: (((es.take 4).map StreamEntry.listBytes).flatten ++ [next])).drop (1 + 12 * i)).take 10 = e.listBytes.take 10 := by
  obtain ⟨rest, block⟩ := drop_flatten_blocks StreamEntry.length_listBytes (xs := es.take 4) (i := i) (x := e)
    (by rw [List.getElem?_take, if_pos first, at_i])
  have inside : 12 * i ≤ ((es.take 4).map StreamEntry.listBytes).flatten.length := by
    have bound := (List.getElem?_eq_some_iff.mp at_i).1
    rw [length_flatten_blocks StreamEntry.length_listBytes, List.length_take]
    omega
  rw [Nat.add_comm, List.drop_succ_cons, List.drop_append_of_le_length inside, block, List.append_assoc]
  rfl

theorem State.exec_listStreams {s : State} {l : LinkId} {tag n : Byte} (asked : s.asked l tag 0x52 [n]) :
    exec (.listStreams l tag [n]) s = .next
      (if 23 < n.toNat then s.replied l tag 0x52 .badParam [] else s.replied l tag 0x52 .ok (s.streamsPayload n.toNat)) := by
  have same : (s.accepted l tag 0x52).streamsPayload n.toNat = s.streamsPayload n.toNat := rfl
  have id : byteAt [n] 0 = n.toNat := rfl
  simp only [exec, execListStreams, State.serve_asked asked rfl, State.listStreamsBody, State.accepted_answer, id, same]

/-- Settles O43: SUBSCRIBE by what its key finds in the table, UNSUBSCRIBE by the entry of its id in an ordered table, and
LIST_STREAMS by the blocks of its payload. -/
theorem subscribeAndUnsubscribe : Obligations.SubscribeAndUnsubscribe := by
  refine ⟨fun l tag ps s kind port mode floor requested interval key asked length code word delta sources brought hkey => ?_,
    fun l tag n s e asked mem id order member => ?_, fun l tag n s asked => ?_⟩
  · subst word hkey
    obtain ⟨form, source⟩ : subscribeForm ps = some (kind, port, mode) ∧ s.subscribeSource kind port mode = .ok floor := by
      rcases sources with ⟨rfl, zero, rfl, rfl, rfl⟩ | ⟨p, m, rfl, at_p, rfl, rfl, low, sample, desc, rfl⟩
        | ⟨p, motor, at_p, rfl, rfl, encoder, rfl⟩
      · exact ⟨subscribeForm_supply code delta zero, rfl⟩
      · exact ⟨subscribeForm_sensor code delta at_p low, State.subscribeSource_sensor sample desc⟩
      · exact ⟨subscribeForm_motor motor code delta at_p, State.subscribeSource_motor motor encoder 0⟩
    refine ⟨fun e found => ?_, fun n new bound free below => ?_, fun new used => ?_⟩
    · exact State.exec_subscribe_joined asked length form source brought (State.joinStream_of_found found)
    · have slot : freeSlot s.streams = some n := freeSlot_eq_some bound free below
      refine ⟨_, State.exec_subscribe_joined asked length form source brought (State.joinStream_of_free new slot),
        fun e => ?_⟩
      rw [mem_insertStream, or_comm]
      cases kind <;> cases port <;> rfl
    · exact State.exec_subscribe_full asked length form source brought
        (State.joinStream_of_full new (freeSlot_eq_none used))
  · refine ⟨_, State.exec_unsubscribe asked (id ▸ StreamEntry.find?_id order mem) member, fun d => ?_, ?_, ?_, ?_⟩
    · rw [← Two.set_false_or]
      exact StreamEntry.mem_left_iff order mem
    · rw [State.setLink_link_same]
      rfl
    · rw [State.setLink_link_same]
      rfl
    · rw [State.setLink_link_same]
      rfl
  · refine ⟨_, State.exec_listStreams asked, rfl, fun es from_start => ?_⟩
    obtain ⟨next, payload, last, more⟩ := State.streamsPayload_eq from_start
    rw [payload]
    refine ⟨?_, rfl, fun i e first at_i => ?_, fun few => ?_, fun e many at_3 => ?_⟩
    · simp only [List.length_cons, List.length_append, length_flatten_blocks StreamEntry.length_listBytes, List.length_take,
        List.length_nil]
      omega
    · exact take_drop_listBytes first at_i
    · rw [← List.cons_append, List.getLast?_concat, last few]
    · rw [← List.cons_append, List.getLast?_concat, more e many at_3]

end Sys2Proof.Machine
end
